-- ==== Sys2Proof/Word.lean ====
section
/-! DEFINITION. The bit-vector widths of the VF318's registers and record fields (11_record_layouts.md). -/

namespace Sys2Proof

/-- One byte of a structure in shared memory. -/
abbrev Byte := BitVec 8

/-- A two-byte field: a stop code, a trip number, a day, a minute, a conductor ID, a stamp sequence. -/
abbrev Half := BitVec 16

/-- A four-byte field: an address, a serial, a generation, an insertion number, a register. -/
abbrev Word := BitVec 32

/-- A credential ID: 64 bits (00_scope, Identifiers and quantities). -/
abbrev Cred := BitVec 64

end Sys2Proof
end

