-- ==== Sys2Proof/Syntax.lean ====
section
/-! DEFINITION. The commands of the VF318: one constructor for each row of spec/opcode_table.json, in the table's order. -/

namespace Sys2Proof

/-- How a reply of a card came over the link (R93): with a good link check, with a wrong one, overlapped by another reply,
or without the form of the reply due. -/
inductive LinkStatus where
  | good
  | badCheck
  | overlap
  | malformed
  deriving DecidableEq, Repr

/-- Which of the three blocks that a decision point questions answer at a command (R21): each answers at an event of its
own, with no order among them (log 10). -/
structure Asks where
  context : Bool
  denyList : Bool
  seenTable : Bool
  deriving DecidableEq, Repr

/-- All three blocks answer at one event. -/
def Asks.all : Asks := ⟨true, true, true⟩

/-- The blocks that give a part of the status record (R172, R173). -/
inductive StatusBlock where
  | memoryPort
  | powerEvents
  | runningContext
  | denyList
  | seenTable
  | verdictEngine
  | journalWriter
  | fieldMonitor
  deriving DecidableEq, Repr

/-- Every block of the status record. -/
def StatusBlock.all : List StatusBlock :=
  [.memoryPort, .powerEvents, .runningContext, .denyList, .seenTable, .verdictEngine, .journalWriter, .fieldMonitor]

/-- The commands. Operands are what the event brings with it; temperatures are whole degrees as the Field Monitor measures
them, currents whole milliamperes. Where an operand with a default is left out, every block answers at the event, or the
target slot is FREE. -/
inductive Instr where
  /-- START written to CONTROL (R140). -/
  | start
  /-- HALT written to CONTROL (R143). -/
  | halt
  /-- NUDGE written to CONTROL (R133, R164). -/
  | nudge
  /-- CLEAR FAULTS written to CONTROL (R120). -/
  | clearFaults
  /-- RESET written to CONTROL (R145), with the die temperature then measured (R112). -/
  | reset (dieTemp : Int)
  /-- The reset line asserted (R145), with the die temperature then measured (R112). -/
  | resetLine (dieTemp : Int)
  /-- A write to EVENTS (R166). -/
  | eventsWrite (value : Word)
  /-- A write to EVENT ENABLE (R167). -/
  | eventEnableWrite (value : Word)
  /-- A write to SETUP ADDRESS (R169). -/
  | setupAddressWrite (value : Word)
  /-- The bus access in flight is answered (R144): the bytes read, none for a write. -/
  | memoryResponse (data : List Byte)
  /-- The memory-response timer expires (R144). -/
  | memoryFault
  /-- The poll timer expires (R133). -/
  | pollTimerExpiry
  /-- The minute timer expires (R34). -/
  | minuteTimerExpiry
  /-- The DOZE wake timer expires (R162). -/
  | wakeTimerExpiry
  /-- The sense timer expires (R163). -/
  | senseTimerExpiry
  /-- The sense pulse ends (R163): the antenna current measured. -/
  | sensePulseEnd (current : Nat)
  /-- The passive test current ends (R116): whether the antenna carried it, and the die temperature then measured. -/
  | passiveCheckEnd (carried : Bool) (dieTemp : Int)
  /-- The settling from SLEEP ends (R164). -/
  | settlingEnd
  /-- The presence interval expires (R94). -/
  | presenceIntervalExpiry
  /-- The presentation deadline passes (R94). -/
  | presentationDeadline
  /-- The reply limit of 4 ms expires (R93). -/
  | replyLimitExpiry
  /-- The antenna current has stayed below the threshold for 2 ms (R115). -/
  | antennaOpenDetection
  /-- The antenna current rises to the threshold (R115). -/
  | antennaCurrentRise
  /-- The field current has stayed above the limit for 10 microseconds (R117). -/
  | overcurrentDetection
  /-- The die rises to 105 degrees or above (R118). -/
  | thermalWarning (dieTemp : Int)
  /-- The die falls to 95 degrees or below (R118). -/
  | reducedDutyLift (dieTemp : Int)
  /-- The die rises to 125 degrees or above (R119). -/
  | thermalShutdown (dieTemp : Int)
  /-- The die falls below 110 degrees (R119). -/
  | shutdownBlockLift (dieTemp : Int)
  /-- A reply to WAKE (R94): the card ID, the filled count and whether a stamp is present. -/
  | hello (link : LinkStatus) (cardId : Cred) (filled : Byte) (stampPresent : Bool)
  /-- A reply to READ AREA (R95): the records of the filled places, and the stamp; and the blocks that answer the decision
  point at this event (R21). In a decision point begun before, the blocks that answer now. -/
  | area (link : LinkStatus) (records : List (List Byte)) (stamp : Option (List Byte)) (asks : Asks := .all)
  /-- A reply to PUT STAMP (R99): the card ID. -/
  | stampAck (link : LinkStatus) (cardId : Cred)
  /-- A reply to CHECK STAMP (R100): the stamp, when present. -/
  | checkStampReply (link : LinkStatus) (stamp : Option (List Byte))
  /-- The CARD INSPECT in hand enters the card hold (R89). -/
  | cardInspect
  /-- The TOKEN INSPECT in hand reaches the Verdict Engine (R25), or blocks answer its decision point (R21). -/
  | tokenInspect (asks : Asks := .all)
  /-- The ROUTE in hand reaches the Running Context (R37), or its accepted new trip is installed there (R39). -/
  | route
  /-- The POSITION in hand reaches the Running Context (R42). -/
  | position
  /-- The DENY REPLACE in hand reaches the Deny List (R72). -/
  | denyReplace
  /-- The DENY DELTA in hand reaches the Deny List (R78). -/
  | denyDelta
  /-- The DENY PRUNE in hand reaches the Deny List (R81). -/
  | denyPrune
  /-- The PEER NOTES in hand reaches the Seen Table (R58). -/
  | peerNotes
  /-- The SEEN EXPORT in hand reaches the Seen Table (R62). -/
  | seenExport
  /-- The FIELD TEST in hand reaches the Field Monitor (R123), with the die temperature then measured. -/
  | fieldTest (dieTemp : Int)
  /-- The POWER in hand reaches Power and Events (R160). -/
  | power
  /-- The CANCEL in hand is served (R107, R108): the state and the kind of the target slot as memory holds them at this
  event. -/
  | cancel (state : Byte := 0) (kind : Byte := 0)
  /-- The KEY LOAD in hand is served (R170). -/
  | keyLoad
  /-- The KEY CLEAR in hand is served (R171). -/
  | keyClear
  /-- The STATUS in hand is served (R172): the blocks that give their part of the record at this event, and with the Field
  Monitor's part the die temperature, and whether the field current is above the limit. -/
  | status (dieTemp : Int) (overLimit : Bool) (asks : List StatusBlock := StatusBlock.all)
  /-- The IDENTIFY in hand is served (R174). -/
  | identify
  /-- The Journal Writer serves the claim whose owner mark it has read (R150). -/
  | journalClaim
  /-- The Journal Writer serves the fill of its reservation (R153). -/
  | reservationFill
  /-- The oldest ride update in transit arrives at the Seen Table (R53). -/
  | seenUpdate
  /-- HALTING ends (R143). -/
  | haltingEnd
  deriving DecidableEq, Repr

/-- The row of spec/opcode_table.json that a command is. -/
def Instr.mnemonic : Instr → String
  | .start => "START"
  | .halt => "HALT"
  | .nudge => "NUDGE"
  | .clearFaults => "CLEAR_FAULTS"
  | .reset _ => "RESET"
  | .resetLine _ => "RESET_LINE"
  | .eventsWrite _ => "EVENTS_WRITE"
  | .eventEnableWrite _ => "EVENT_ENABLE_WRITE"
  | .setupAddressWrite _ => "SETUP_ADDRESS_WRITE"
  | .memoryResponse _ => "MEMORY_RESPONSE"
  | .memoryFault => "MEMORY_FAULT"
  | .pollTimerExpiry => "POLL_TIMER_EXPIRY"
  | .minuteTimerExpiry => "MINUTE_TIMER_EXPIRY"
  | .wakeTimerExpiry => "WAKE_TIMER_EXPIRY"
  | .senseTimerExpiry => "SENSE_TIMER_EXPIRY"
  | .sensePulseEnd _ => "SENSE_PULSE_END"
  | .passiveCheckEnd _ _ => "PASSIVE_CHECK_END"
  | .settlingEnd => "SETTLING_END"
  | .presenceIntervalExpiry => "PRESENCE_INTERVAL_EXPIRY"
  | .presentationDeadline => "PRESENTATION_DEADLINE"
  | .replyLimitExpiry => "REPLY_LIMIT_EXPIRY"
  | .antennaOpenDetection => "ANTENNA_OPEN_DETECTION"
  | .antennaCurrentRise => "ANTENNA_CURRENT_RISE"
  | .overcurrentDetection => "OVERCURRENT_DETECTION"
  | .thermalWarning _ => "THERMAL_WARNING"
  | .reducedDutyLift _ => "REDUCED_DUTY_LIFT"
  | .thermalShutdown _ => "THERMAL_SHUTDOWN"
  | .shutdownBlockLift _ => "SHUTDOWN_BLOCK_LIFT"
  | .hello _ _ _ _ => "HELLO"
  | .area _ _ _ _ => "AREA"
  | .stampAck _ _ => "STAMP_ACK"
  | .checkStampReply _ _ => "CHECK_STAMP_REPLY"
  | .cardInspect => "CARD_INSPECT"
  | .tokenInspect _ => "TOKEN_INSPECT"
  | .route => "ROUTE"
  | .position => "POSITION"
  | .denyReplace => "DENY_REPLACE"
  | .denyDelta => "DENY_DELTA"
  | .denyPrune => "DENY_PRUNE"
  | .peerNotes => "PEER_NOTES"
  | .seenExport => "SEEN_EXPORT"
  | .fieldTest _ => "FIELD_TEST"
  | .power => "POWER"
  | .cancel _ _ => "CANCEL"
  | .keyLoad => "KEY_LOAD"
  | .keyClear => "KEY_CLEAR"
  | .status _ _ _ => "STATUS"
  | .identify => "IDENTIFY"
  | .journalClaim => "JOURNAL_CLAIM"
  | .reservationFill => "RESERVATION_FILL"
  | .seenUpdate => "SEEN_UPDATE"
  | .haltingEnd => "HALTING_END"

end Sys2Proof
end

