-- ==== Sys2Proof/Machine/Types.lean ====
section
/-! DEFINITION. The records and named values of the manual's chapters, as plain data: what State is built from. -/

namespace Sys2Proof.Machine

/-! ### The verdict (01_the_verdict.md) -/

/-- The eight record failures, from highest rank to lowest (R15). -/
inductive RecordFailure where
  | wrongClass | wrongSegment | noRidesLeft | notYetValid | expired | stampDamaged | unknownKey | forged
  deriving DecidableEq, Repr

/-- What the answer reports of one record place (R27). -/
inductive PlaceResult where
  | empty
  | notJudged
  | usable
  | failed (f : RecordFailure)
  deriving DecidableEq, Repr

/-- The verdicts (R26). -/
inductive Verdict where
  | denied | noContext | valid | rideTaken | rideTakenEarlier | rideNotTaken | stampUncertain | noFare
  | noCredential | multipleCards | unreadable
  | failed (f : RecordFailure)
  deriving DecidableEq, Repr

/-- The reasons of RIDE NOT TAKEN (R27). -/
inductive VerdictReason where
  | journalFull | uncertainLimit | stampFailed | notRequested
  deriving DecidableEq, Repr

/-- The six product classes of a non-empty record (R3), in the order of their codes. -/
inductive ProductClass where
  | single | returnFare | carnet | periodPass | zonePass | group
  deriving DecidableEq, Repr

/-- A fare record as read (R3): its named fields, and the 28 bytes its check value covers (R5). -/
structure FareRecord where
  covered : List Byte
  classCode : Byte
  travelClass : Byte
  concession : Bool
  partySize : Byte
  origin : Half
  destination : Half
  zones : Word
  fromDay : Half
  fromMinute : Half
  untilDay : Half
  untilMinute : Half
  rides : Byte
  keyIndex : Byte
  check : Word
  deriving DecidableEq, Repr

/-- The fields of a stamp record that its check covers (11.4). -/
structure StampRecord where
  sequence : Half
  day : Half
  trip : Half
  stop : Half
  conductor : Half
  place : Byte
  rides : Byte
  deriving DecidableEq, Repr

/-- The standing of a card's stamp (R6). -/
inductive StampStanding where
  | absent
  | intact (st : StampRecord)
  | damaged
  deriving DecidableEq, Repr

/-- The deny reasons (R65). -/
inductive DenyReason where
  | stolen | refunded | fraud | accountBlocked
  deriving DecidableEq, Repr

/-- The deny actions (R65). -/
inductive DenyAction where
  | refuse | retain
  deriving DecidableEq, Repr

/-- The record chosen or named in an answer (R14, R15): R14 sends its travel class and concession mark into the answer being
formed, whose bytes have no place for them (log 30). -/
structure Chosen where
  place : Nat
  classCode : Byte
  travelClass : Byte
  concession : Bool
  party : Byte
  deriving DecidableEq, Repr

/-- The flags of an OK answer (R28). -/
structure AnswerFlags where
  checkProof : Bool := false
  listIncomplete : Bool := false
  listInvalid : Bool := false
  clockStale : Bool := false
  seenBefore : Bool := false
  uncertainResolved : Bool := false
  journalMissed : Bool := false
  deriving DecidableEq, Repr

/-- Where a seen record came from (R48). -/
inductive Source where
  | localPart
  | peer
  deriving DecidableEq, Repr

/-- The seen details of an answer (R29). -/
structure SeenDetails where
  firstStop : Half
  firstMinute : Half
  source : Source
  count : Byte
  deriving DecidableEq, Repr

/-- An OK answer of an inspection being formed (R27): every field, absent ones as none. -/
structure Draft where
  verdict : Verdict
  reason : Option VerdictReason := none
  cred : Option Cred := none
  places : Option (List PlaceResult) := none
  chosen : Option Chosen := none
  ridesLeft : Option Byte := none
  denyReason : Option DenyReason := none
  denyAction : Option DenyAction := none
  flags : AnswerFlags := {}
  journalSerial : Option Word := none
  resolutionSerial : Option Word := none
  seen : Option SeenDetails := none
  deriving DecidableEq, Repr

/-- What an inspection writes from the context its decision point read (R46): zeros for trip and stop in NONE. -/
structure ContextAnswer where
  trip : Half
  day : Half
  minute : Half
  stop : Half
  conductor : Half
  deriving DecidableEq, Repr

/-- What an inspection brings to its decision point: a card with its stamp, or a token. -/
structure Inspection where
  card : Bool
  cred : Cred
  places : List (Option FareRecord)
  stamp : StampStanding
  seated : Nat
  ride : Bool
  deriving DecidableEq, Repr

/-- A ride about to be taken by stamp (R97, R98): the credential, the context of the decision point, the carnet's place, its
effective rides left, and the sequence of the old stamp when that is INTACT. -/
structure RidePlan where
  cred : Cred
  ctx : ContextAnswer
  place : Nat
  rides : Byte
  old : Option Half
  deriving DecidableEq, Repr

/-! ### Running Context (02_running_context.md) -/

/-- The context state (R30). -/
inductive ContextState where
  | none
  | active
  deriving DecidableEq, Repr

/-- A stop of the route table (R31). -/
structure Stop where
  code : Half
  zone : Byte
  deriving DecidableEq, Repr

/-- The position (R32). -/
inductive Position where
  | atStop (k : Nat)
  | between (k : Nat)
  deriving DecidableEq, Repr

/-- The Running Context (R30). -/
structure RunningContext where
  state : ContextState := .none
  route : List Stop := []
  position : Option Position := none
  trip : Half := 0
  day : Half := 0
  minute : Half := 0
  stale : Bool := true
  conductor : Half := 0
  /-- Whether the minute timer runs (R34). -/
  minuteTimer : Bool := true
  deriving DecidableEq, Repr

/-! ### Seen Table (03_the_seen_table.md) -/

/-- The ride state of a seen record (R48). -/
inductive RideState where
  | none | localRide | peer | both
  deriving DecidableEq, Repr

/-- The stamp state of a seen record (R48). -/
inductive StampState where
  | none | done | uncertain | damaged
  deriving DecidableEq, Repr

/-- A seen record (R48). -/
structure SeenRecord where
  cred : Cred
  number : Word
  source : Source
  firstVerdict : Option Verdict
  firstStop : Half
  firstMinute : Half
  lastStop : Half
  count : Byte
  ride : RideState
  peerConductor : Option Half
  stamp : StampState
  pendingSequence : Option Half
  place : Option Nat
  deriving DecidableEq, Repr

/-- The insertion counter (R47, R49). -/
inductive InsertionCounter where
  | next (n : Word)
  | exhausted
  deriving DecidableEq, Repr

/-- The outcomes of a ride, as the update of R53 carries them. -/
inductive RideOutcome where
  | landed (place : Nat)
  | token
  | uncertain (place : Nat) (sequence : Half)
  | stampFailed (place : Nat)
  | refused
  deriving DecidableEq, Repr

/-- An update of a ride's outcome on its way to the Seen Table (R22, R53). -/
structure SeenUpdate where
  cred : Cred
  outcome : RideOutcome
  ctx : ContextAnswer
  deriving DecidableEq, Repr

/-- The outcomes of resolving a doubtful stamp (R55). -/
inductive Resolution where
  | landed | notLanded | damaged
  deriving DecidableEq, Repr

/-- A peer note (R58). -/
structure PeerNote where
  cred : Cred
  stop : Half
  minute : Half
  ride : Bool
  conductor : Half
  deriving DecidableEq, Repr

/-- The counts of a PEER NOTES answer (R61). -/
structure NoteCounts where
  inserted : Nat := 0
  merged : Nat := 0
  conflicts : Nat := 0
  notJournalled : Nat := 0
  ignored : Nat := 0
  deriving DecidableEq, Repr

/-! ### Deny List (04_the_deny_list.md) -/

/-- The list state (R66). -/
inductive ListState where
  | invalid | loading | ready
  deriving DecidableEq, Repr

/-- A deny entry (R65). -/
structure DenyEntry where
  cred : Cred
  reason : DenyReason
  action : DenyAction
  expiry : Half
  deriving DecidableEq, Repr

/-- A delta operation (R76). -/
inductive DeltaOp where
  | add (e : DenyEntry)
  | remove (cred : Cred)
  deriving DecidableEq, Repr

/-- The load expectation (R64). -/
structure Load where
  next : Nat
  target : Word
  highest : Option Cred
  deriving DecidableEq, Repr

/-- An open staging area (R64). -/
structure Staging where
  ops : List DeltaOp
  next : Nat
  deriving DecidableEq, Repr

/-! ### The answers to a decision point (01_the_verdict.md, 1.7) -/

/-- The Deny List's answer to a lookup (R21, R69): the list state, and the entry of a denied ID. -/
structure DenyReply where
  state : ListState
  hit : Option DenyEntry
  deriving DecidableEq, Repr

/-- The RESOLVED claim of a consult (R56): none was made, it waits, or it has been served with its serial or its loss. -/
inductive ResolvedClaim where
  | none
  | waiting
  | served (serial : Option Word)
  deriving DecidableEq, Repr

/-- The Seen Table's answer to a consult (R51). -/
structure SeenReply where
  record : Option SeenRecord
  pins : Nat
  claim : ResolvedClaim
  deriving DecidableEq, Repr

/-- A decision point in progress (R21): the inspection, and the answers of the blocks that have answered. -/
structure Asking where
  inspection : Inspection
  context : Option RunningContext := none
  denied : Option DenyReply := none
  seen : Option SeenReply := none
  /-- Where a new trip has emptied the Seen Table since that answered: the eviction count that an update made with the consult
  has left (R52, R57; log 10). -/
  emptied : Option Word := none
  deriving DecidableEq, Repr

/-! ### The journal (08_the_journal.md) -/

/-- The journal entry kinds (R148). -/
inductive EntryKind where
  | ride | uncertain | resolved | conflict | denied | void
  deriving DecidableEq, Repr

/-- The causes of a VOID entry (R149). -/
inductive VoidCause where
  | stampFailed | cancelled | fieldFault | halted
  deriving DecidableEq, Repr

/-- The contents of a journal entry but its owner and serial (R148); the detail as its two bytes stand in memory. -/
structure EntryContents where
  kind : EntryKind
  cred : Cred
  ctx : ContextAnswer
  place : Option Nat
  rides : Option Byte
  detail : Half
  deriving DecidableEq, Repr

/-- Whose inspection or task awaits the serial of a claimed entry (R151): a card's session, the TOKEN INSPECT in hand, the
PEER NOTES in hand, or nobody. -/
inductive ClaimFor where
  | nobody | card | token | note
  deriving DecidableEq, Repr

/-- A claim or fill waiting at the Journal Writer (R150, R153). -/
inductive JournalJob where
  /-- A claim filled at the service that grants it (R151). -/
  | entry (e : EntryContents) (who : ClaimFor)
  /-- The claim of a reservation (R152). -/
  | reserve
  /-- The claim of a reservation whose session has ended: filled VOID in the service that grants it (R153). -/
  | reserveVoid (e : EntryContents)
  /-- The fill of the reservation (R153). -/
  | fill (e : EntryContents)
  deriving DecidableEq, Repr

/-- How far the service of the first job has come (R150, R151, R157). -/
inductive JournalService where
  | idle
  | readingMark
  | markRead (mark : Byte)
  | writingFields (entry : Nat) (serial : Word)
  | writingHost (entry : Nat) (serial : Word)
  deriving DecidableEq, Repr

/-- A held reservation (R147). -/
structure Reservation where
  entry : Nat
  serial : Word
  deriving DecidableEq, Repr

/-- Where the ring lies (R146). -/
structure Ring where
  base : Word
  entries : Nat
  deriving DecidableEq, Repr

/-! ### Tasks (07_the_inspection_sheet.md) -/

/-- The task kinds, in the order of their codes (11.3). -/
inductive TaskKind where
  | cardInspect | tokenInspect | route | position | denyReplace | denyDelta | denyPrune | peerNotes
  | seenExport | fieldTest | power | cancel | keyLoad | keyClear | status | identify
  deriving DecidableEq, Repr

/-- The completion codes (R129), in the order of their codes. -/
inductive Completion where
  | ok | refused | cancelled | halted | fieldFault | abandoned
  deriving DecidableEq, Repr

/-- The refusal reasons, in the order of their codes (11.3). -/
inductive Reason where
  | badKind | badField | length | badCode | duplicateStop | stopNotOnRoute | notSameTrip | positionSequence
  | notLoading | notReady | generation | sequence | badEntry | order | stagingFull | capacity | busy | slotLoaded
  deriving DecidableEq, Repr

/-- The power states (R158). -/
inductive PowerState where
  | run | reduced | doze | sleep
  deriving DecidableEq, Repr

/-- The modes of a ROUTE (R36). -/
inductive RouteMode where
  | newTrip | continueTrip
  deriving DecidableEq, Repr

/-- The events of a POSITION (R42). -/
inductive PositionEvent where
  | arrive | depart
  deriving DecidableEq, Repr

/-- The request of a CARD INSPECT (R89), its timeout in seconds with 0 already read as 10. -/
structure CardRequest where
  timeout : Nat
  seated : Nat
  ride : Bool
  deriving DecidableEq, Repr

/-- The request of a TOKEN INSPECT (R24). -/
structure TokenRequest where
  address : Word
  seated : Nat
  ride : Bool
  deriving DecidableEq, Repr

/-- The request of a ROUTE (R36). -/
structure RouteRequest where
  mode : RouteMode
  trip : Half
  day : Half
  minute : Half
  start : Half
  count : Nat
  address : Word
  deriving DecidableEq, Repr

/-- The request of a POSITION (R42). -/
structure PositionRequest where
  event : PositionEvent
  stop : Half
  minute : Option Half
  deriving DecidableEq, Repr

/-- The request of a DENY REPLACE (R71). -/
structure ReplaceRequest where
  chunk : Nat
  first : Bool
  last : Bool
  target : Word
  count : Nat
  address : Word
  deriving DecidableEq, Repr

/-- The request of a DENY DELTA (R76). -/
structure DeltaRequest where
  chunk : Nat
  first : Bool
  last : Bool
  base : Word
  count : Nat
  address : Word
  deriving DecidableEq, Repr

/-- The request of a task with good fields (R130). -/
inductive Request where
  | cardInspect (r : CardRequest)
  | tokenInspect (r : TokenRequest)
  | route (r : RouteRequest)
  | position (r : PositionRequest)
  | denyReplace (r : ReplaceRequest)
  | denyDelta (r : DeltaRequest)
  | denyPrune (day : Half)
  | peerNotes (count : Nat) (address : Word)
  | seenExport (after : Word) (capacity : Nat) (address : Word)
  | fieldTest
  | power (target : PowerState) (period : Nat) (cardNear : Bool)
  | cancel (target : Nat)
  | keyLoad (slot : Nat) (replace : Bool) (address : Word)
  | keyClear (slot : Nat)
  | status (address : Word)
  | identify (address : Word)
  deriving DecidableEq, Repr

/-- What a scan finds a POSTED slot to hold (R130, R134). -/
inductive Parsed where
  | badKind
  | badField (kind : TaskKind)
  | good (req : Request)
  deriving DecidableEq, Repr

/-- The answer of a task but its tag and field summary (R131): code, reason, presence marks, and the bytes from offset 30. -/
structure AnswerBody where
  code : Completion
  reason : Option Reason := none
  presence : Byte := 0
  fields : List Byte := []
  deriving DecidableEq, Repr

/-- A field of a request or an answer: its width and its value. -/
structure Field where
  width : Nat
  value : Nat
  deriving DecidableEq, Repr

/-- The counts of a committed delta (R80). -/
structure DeltaCounts where
  added : Nat := 0
  replaced : Nat := 0
  removed : Nat := 0
  noOps : Nat := 0
  deriving DecidableEq, Repr

/-- The results of a CANCEL (R107), in the order of their codes (R177). -/
inductive CancelResult where
  | targetCancelled | tooLate | notPending
  deriving DecidableEq, Repr

/-- A task in hand: its host tag and its request, as read when it was taken (R126). -/
structure Task where
  tag : Half
  req : Request
  deriving DecidableEq, Repr

/-- What an accepted POWER task does when its slot is written DONE (R160, R161). -/
structure PowerChange where
  target : PowerState
  period : Nat
  cardNear : Bool
  deriving DecidableEq, Repr

/-- The status record (R173), its values as the bytes of 11.6 hold them; 0 stands for a value not yet given. -/
structure StatusRecord where
  runState : Nat := 0
  haltCause : Nat := 0
  power : Nat := 0
  contextState : Nat := 0
  positionForm : Nat := 0
  positionIndex : Nat := 0
  stop : Nat := 0
  trip : Nat := 0
  day : Nat := 0
  minute : Nat := 0
  stale : Nat := 0
  listState : Nat := 0
  conductor : Nat := 0
  stagedOps : Nat := 0
  generation : Nat := 0
  denyEntries : Nat := 0
  saturatedCells : Nat := 0
  falseHits : Nat := 0
  seenRecords : Nat := 0
  pins : Nat := 0
  loadedKeys : Nat := 0
  evictions : Nat := 0
  counter : Nat := 0
  nextSerial : Nat := 0
  missed : Nat := 0
  latched : Nat := 0
  active : Nat := 0
  dieTemp : Nat := 0
  deriving DecidableEq, Repr

/-- How far the service of a task by its owner has come. -/
inductive ServeStage where
  /-- TOKEN INSPECT: the token buffer is being read (R25). -/
  | tokenRead
  /-- TOKEN INSPECT: the decision point is in progress (R21). -/
  | tokenAsk (a : Asking)
  /-- TOKEN INSPECT: the claim of a DENIED entry waits (R17). -/
  | tokenDenied (d : Draft)
  /-- TOKEN INSPECT: the claim of a RIDE entry waits (R20). -/
  | tokenRide (d : Draft) (p : RidePlan)
  /-- ROUTE: the stop list is being read (R37). -/
  | routeRead
  /-- ROUTE of a new trip: checked, the Seen Table emptied, the installation due (R39). -/
  | routeInstall (stops : List Stop)
  /-- DENY REPLACE: the entries are being read (R71). -/
  | replaceRead
  /-- DENY DELTA: the operations are being read (R76). -/
  | deltaRead
  /-- PEER NOTES: the notes are being read (R58). -/
  | notesRead
  /-- PEER NOTES: read and in range, their merge waits for a decision point at the Seen Table (R61; log 10). -/
  | notesWait (notes : List PeerNote)
  /-- PEER NOTES: merged, with the claims of so many CONFLICT entries waiting (R60). -/
  | notesClaims (c : NoteCounts) (owed : Nat)
  /-- SEEN EXPORT: the records are being written, these after the one in flight, the next to the given place (R62). -/
  | exportWrite (rest : List SeenRecord) (place : Nat) (body : AnswerBody)
  /-- FIELD TEST: the passive check runs (R123). -/
  | antennaCheck
  /-- STATUS: these blocks have yet to give their part of the record (R172). -/
  | statusAsk (left : List StatusBlock) (record : StatusRecord)
  /-- STATUS and IDENTIFY: the record is being written (R172, R174). -/
  | recordWrite
  /-- KEY LOAD: the key is being read (R170). -/
  | keyRead
  /-- CANCEL of a POSTED target: its host tag is being read (R126). -/
  | cancelRead
  /-- CANCEL of a POSTED target: TAKEN is being written there (R108). -/
  | cancelTaken (targetTag : Half)
  /-- CANCEL of a POSTED target: its answer is being written. -/
  | cancelAnswer
  /-- CANCEL of a POSTED target: its DONE is being written. -/
  | cancelDone
  /-- CANCEL of a held target: the target's slot is being written DONE, and then this is the CANCEL's answer (R109). -/
  | cancelWait (target : Nat) (body : AnswerBody)
  deriving DecidableEq, Repr

/-- The phase of the slot in hand of a scan (R134). -/
inductive ScanPhase where
  | readState
  /-- The kind and the tag of a POSTED slot are being read. -/
  | readHead
  /-- The request area of a slot of a known kind is being read, after its kind and tag. -/
  | readRequest (head : List Byte)
  | writeTaken (tag : Half) (p : Parsed)
  /-- TAKEN is written and the task waits at its owner (R128). -/
  | handed (t : Task)
  | serving (t : Task) (g : ServeStage)
  | writeAnswer (tag : Half) (change : Option PowerChange)
  | writeDone (change : Option PowerChange)
  deriving DecidableEq, Repr

/-- A scan in progress (R134 to R136). -/
structure Scan where
  index : Nat
  remaining : Nat
  leftPosted : List Nat
  lastTaken : Option Nat
  cardPassed : Bool
  phase : ScanPhase
  deriving DecidableEq, Repr

/-- Start-up work (R140, R142). -/
inductive StartPhase where
  | setupRead
  | sweepState (slot : Nat)
  | sweepTag (slot : Nat)
  | sweepAnswer (slot : Nat)
  | sweepDone (slot : Nat)
  deriving DecidableEq, Repr

/-- Where the sheet lies (R125). -/
structure Sheet where
  base : Word
  slots : Nat
  deriving DecidableEq, Repr

/-! ### Card sessions (05_card_sessions.md) -/

/-- The holder of the field (R85). -/
inductive FieldHolder where
  | none | session | sense
  deriving DecidableEq, Repr

/-- The exchanges of STAMPING (R99). -/
inductive StampExchange where
  | put
  | check
  deriving DecidableEq, Repr

/-- What a session waiting in DECIDING waits for (R97). -/
inductive DecidingStage where
  | awaitResolved
  | awaitReservation
  deriving DecidableEq, Repr

/-- How a session ends: with an OK answer, or with a code and the card ID if the card had answered HELLO (R27). -/
inductive SessionEnd where
  | ok (d : Draft)
  | coded (code : Completion) (cred : Option Cred)
  deriving DecidableEq, Repr

/-- What the Journal Writer still owes a session in CLOSING before its answer is handed over (R96, R101). -/
structure Owed where
  denied : Bool := false
  resolved : Bool := false
  fill : Bool := false
  deriving DecidableEq, Repr

/-- How far the answer of a session in CLOSING has come (R102). -/
inductive ClosingStage where
  | awaitJournal
  | writeAnswer
  | writeDone
  deriving DecidableEq, Repr

/-- The state of a session (R91). -/
inductive Session where
  | waitingField
  | presence
  | reading
  /-- DECIDING: the decision point is in progress (R21; log 10). -/
  | asking (a : Asking)
  | deciding (d : Draft) (p : RidePlan) (g : DecidingStage)
  | stamping (x : StampExchange) (d : Draft) (p : RidePlan)
  | closing (e : SessionEnd) (owed : Owed) (g : ClosingStage)
  deriving DecidableEq, Repr

/-- A task of the card hold with its session (R85, R88). -/
structure HeldTask where
  slot : Nat
  tag : Half
  req : CardRequest
  session : Session
  deriving DecidableEq, Repr

/-- The card identity (R85): what the HELLO carried. -/
structure CardIdentity where
  cred : Cred
  filled : Nat
  stamp : Bool
  deriving DecidableEq, Repr

/-- The pending-stamp data (R85, R98). -/
structure PendingStamp where
  old : Option Half
  stamp : StampRecord
  serial : Word
  deriving DecidableEq, Repr

/-- The outcomes of STAMPING (R100). -/
inductive StampOutcome where
  | landed | notLanded | uncertain
  deriving DecidableEq, Repr

/-! ### Field Monitor (06_field_monitor.md) -/

/-- How the field driver drives the antenna (R86, R118). -/
inductive Drive where
  | off | lowered | full
  deriving DecidableEq, Repr

/-- The antenna finding (R112). -/
inductive Finding where
  | unknown | connected | openAntenna
  deriving DecidableEq, Repr

/-- A reporting option (R113). -/
inductive Report where
  | event
  | answerOnly
  deriving DecidableEq, Repr

/-- What a passive check is made for (R116). -/
inductive PassiveUse where
  | fieldTest
  | doze
  deriving DecidableEq, Repr

/-- The results of a FIELD TEST (R123), in the order it lists them. -/
inductive FieldTestResult where
  | busy | skipped | connected | openAntenna
  deriving DecidableEq, Repr

/-! ### Power and Events (09_power_states_and_events.md) -/

/-- What a settling leads to (R164). -/
inductive SettlingGoal where
  | scan
  | halt
  deriving DecidableEq, Repr

/-- The work of an expired DOZE wake timer, with its wake period (R162). -/
inductive DozeJob where
  | awaitPulse (period : Nat)
  | checking (period : Nat)
  | scanning (period : Nat)
  deriving DecidableEq, Repr

/-! ### Memory Port (07_the_inspection_sheet.md, 7.4) -/

/-- The run states (R138), in the order of their codes. -/
inductive RunState where
  | halted | starting | running | halting
  deriving DecidableEq, Repr

/-- The halt causes (R138), in the order of their codes. -/
inductive HaltCause where
  | reset | command | memoryFault | setupInvalid
  deriving DecidableEq, Repr

/-- Whose work a bus access is: start-up, the scan, the answer of a card task, or a journal service. -/
inductive Client where
  | startUp
  | scan
  | card (slot : Nat)
  | journal
  deriving DecidableEq, Repr

/-- The direction of a bus access. -/
inductive AccessKind where
  | read (length : Nat)
  | write (data : List Byte)
  deriving DecidableEq, Repr

/-- A bus access. Where summary is set it writes an answer area, and its fifth byte is the field summary, taken at the
write (R121, R131). -/
structure Access where
  client : Client
  address : Word
  kind : AccessKind
  summary : Bool := false
  deriving DecidableEq, Repr

/-- The valid contents of a setup block (R140), its field options as R113 reads them. -/
structure Setup where
  sheet : Sheet
  ring : Ring
  pollInterval : Nat
  conductor : Half
  stopOnOpen : Bool
  reportOpen : Report
  reportOvercurrent : Report
  reportWarning : Report
  reportShutdown : Report
  deriving DecidableEq, Repr

end Sys2Proof.Machine
end

