-- ==== Sys2Proof/Machine/Bytes.lean ====
section
/-! DEFINITION. Byte order, the layout rule of R177, and the two check values of R2. -/

namespace Sys2Proof.Machine

/-- The number that bytes stand for, least significant byte first (R176). -/
def leNat : List Byte → Nat
  | [] => 0
  | b :: l => b.toNat + 256 * leNat l

/-- The bytes of a number in a field of the given width, least significant byte first (R176). -/
def toBytes : Nat → Nat → List Byte
  | 0, _ => []
  | w + 1, n => BitVec.ofNat 8 n :: toBytes w (n / 256)

/-- The byte at an offset. -/
def byteAt (b : List Byte) (off : Nat) : Byte := b.getD off 0

/-- The two-byte field at an offset. -/
def halfAt (b : List Byte) (off : Nat) : Half := BitVec.ofNat 16 (leNat ((b.drop off).take 2))

/-- The four-byte field at an offset. -/
def wordAt (b : List Byte) (off : Nat) : Word := BitVec.ofNat 32 (leNat ((b.drop off).take 4))

/-- The credential ID at an offset. -/
def credAt (b : List Byte) (off : Nat) : Cred := BitVec.ofNat 64 (leNat ((b.drop off).take 8))

/-- The eight bytes of a credential ID in stored order (R176). -/
def credBytes (c : Cred) : List Byte := toBytes 8 c.toNat

/-- The bytes in parts of the given size, so many of them. -/
def chunks (size : Nat) : Nat → List Byte → List (List Byte)
  | 0, _ => []
  | n + 1, b => b.take size :: chunks size n (b.drop size)

/-- Eight marks in one byte, the first in bit 0 (R177). -/
def marks : List Bool → Byte
  | [] => 0
  | m :: l => (if m then (1 : Byte) else 0) ||| (marks l <<< 1)

/-- The bytes skipped before a field of the given width (R177). -/
def skipTo (off width : Nat) : Nat := (width - off % width) % width

/-- R177: each field at the first offset at or after the end of the one before it that is a multiple of its width, the
bytes skipped 0. -/
def layOut (off : Nat) : List Field → List Byte
  | [] => []
  | f :: fs =>
    List.replicate (skipTo off f.width) 0 ++ toBytes f.width f.value ++ layOut (off + skipTo off f.width + f.width) fs

/-- Eight rounds of one bit. -/
def eightTimes {α : Type} (f : α → α) (x : α) : α := f (f (f (f (f (f (f (f x)))))))

/-- One bit of the CRC-32 of R2, bits least significant first. -/
def crc32Bit (c : Word) : Word :=
  if c.getLsbD 0 then (c >>> 1) ^^^ 0xEDB88320 else c >>> 1

/-- One byte of the CRC-32. -/
def crc32Byte (c : Word) (b : Byte) : Word := eightTimes crc32Bit (c ^^^ b.setWidth 32)

/-- The CRC-32 of R2: initial value all ones, result inverted. -/
def crc32 (bytes : List Byte) : Word := ~~~(bytes.foldl crc32Byte 0xFFFFFFFF)

/-- One bit of the CRC-16 of R2, bits most significant first (R67). -/
def crc16Bit (c : Half) : Half :=
  if c.getLsbD 15 then (c <<< 1) ^^^ 0x1021 else c <<< 1

/-- One byte of the CRC-16. -/
def crc16Byte (c : Half) (b : Byte) : Half := eightTimes crc16Bit (c ^^^ (b.setWidth 16 <<< 8))

/-- The CRC-16 of R2 as R67 takes it: initial value all ones, result not inverted. -/
def crc16 (bytes : List Byte) : Half := bytes.foldl crc16Byte 0xFFFF

end Sys2Proof.Machine
end

