-- ==== Sys2Proof/Config.lean ====
section
/-! DEFINITION. The sizes the part fixes (R174) and the free values the manual leaves open: each free value is an opaque
constant with no body, so no proof can lean on a value of it. -/

namespace Sys2Proof.Config

/-- The largest number of deny entries (R64). -/
def denyEntries : Nat := 16384
/-- The largest number of staged delta operations (R64). -/
def stagingOps : Nat := 1024
/-- The number of filter cells (R64). -/
def filterCells : Nat := 4096
/-- The largest number of seen records (R49). -/
def seenRecords : Nat := 2048
/-- The largest number of pinned records (R55). -/
def pinned : Nat := 32
/-- The largest number of route stops (R31). -/
def routeStops : Nat := 48
/-- The places of the card hold (R88). -/
def holdPlaces : Nat := 2
/-- The key slots (10.1). -/
def keySlots : Nat := 8
/-- The largest DENY REPLACE chunk, in entries (R71). -/
def replaceChunk : Nat := 256
/-- The largest DENY DELTA chunk, in operations (R76). -/
def deltaChunk : Nat := 128
/-- The largest PEER NOTES task, in notes (R58). -/
def peerNotes : Nat := 32
/-- The largest SEEN EXPORT task, in records (R62). -/
def seenExports : Nat := 256
/-- The largest sheet, in slots (R125). -/
def sheetSlots : Nat := 256
/-- The largest journal, in entries (R146). -/
def journalEntries : Nat := 1024
/-- The tries of an exchange (R93). -/
def tries : Nat := 3
/-- The last service minute (R34). -/
def lastMinute : Half := 2879
/-- The stop code that is never valid (00_scope). -/
def invalidStop : Half := 65535
/-- The open threshold of the antenna current, in milliamperes (R115). -/
def openThreshold : Nat := 15
/-- The greatest difference of a sense measurement from the reference that is no card, in milliamperes (R163). -/
def senseMargin : Nat := 5

/-- FREE VALUE. Which of the orders left open is taken where bus accesses are requested together (R144) or claims reach
the Journal Writer together (R150): a fresh draw for each number (log 4). -/
opaque tieBreak : Nat → Nat

/-- FREE VALUE. The antenna current in milliamperes at the instant the field is turned on (R115), a fresh draw for each
number (log 8). -/
opaque turnOnCurrent : Nat → Nat

/-- FREE VALUE. What a DENY DELTA answer's two-byte next chunk number holds when the number is 65,536 (log 18). -/
opaque stagingNextField : Half

/-- FREE VALUE. The refusal reason byte of REFUSED (BAD ENTRY): R130 names the reason and the table of codes in 11.3 gives it
no number (log 34). -/
opaque badEntryCode : Byte

end Sys2Proof.Config
end

