-- ==== Sys2Proof/Machine/State.lean ====
section
/-! DEFINITION. The state of the VF318: one structure for each of its ten blocks, the queue of commands, and the state
after reset. Every field cites the rule that names it; the default value of a field is its value after RESET. -/

namespace Sys2Proof.Machine

/-- No command ends in a fault: a memory fault is an event the manual describes, with a next state (R144), and every other
failure is an answer or an event flag. -/
inductive Fault where
  deriving DecidableEq, Repr

/-- Why a command has no meaning. -/
inductive Refusal where
  /-- Raised only by an arm of exec whose command is not modelled. No arm raises it. Safe: the machine stops. -/
  | notModelled (mnemonic : String)
  deriving DecidableEq, Repr

/-- The Memory Port (R138, R144, R169). -/
structure MemoryPort where
  /-- The run state (R138). -/
  runState : RunState := .halted
  /-- The halt cause (R138). -/
  haltCause : HaltCause := .reset
  /-- SETUP ADDRESS (R169). -/
  setupAddress : Word := 0
  /-- The access in flight (R138). -/
  flight : Option Access := none
  /-- The accesses waiting, in order of request (R144). -/
  waiting : List Access := []
  /-- The accesses requested in the present step, not yet put in order; empty between steps (log 4). -/
  asked : List Access := []
  /-- A HALT taken in STARTING waits for the slot in hand (R142; log 13). -/
  haltPending : Bool := false
  deriving DecidableEq, Repr

/-- The Sheet Scanner (R132). -/
structure SheetScanner where
  /-- Sheet base and slot count. -/
  sheet : Option Sheet := none
  /-- The poll interval, in milliseconds. -/
  pollInterval : Nat := 0
  /-- The poll timer: stopped, or running for the given time (R133). -/
  pollTimer : Option Nat := none
  /-- The scan cursor. -/
  cursor : Nat := 0
  /-- The scan in progress. -/
  scan : Option Scan := none
  /-- Start-up work in progress (R140, R142). -/
  startUp : Option StartPhase := none
  /-- The extra scan pending. -/
  extraScan : Bool := false
  deriving DecidableEq, Repr

/-- The Verdict Engine's key table (R23). -/
structure VerdictEngine where
  keys : Vector (Option (List Byte)) 8 := Vector.replicate 8 none
  deriving DecidableEq, Repr

/-- The Deny List (R64). -/
structure DenyList where
  state : ListState := .invalid
  generation : Word := 0
  table : List DenyEntry := []
  filter : Vector (BitVec 4) 4096 := Vector.replicate 4096 0
  load : Option Load := none
  staging : Option Staging := none
  discards : Word := 0
  falseHits : Word := 0
  deriving DecidableEq, Repr

/-- The Seen Table (R47), its records in rising insertion number. -/
structure SeenTable where
  records : List SeenRecord := []
  counter : InsertionCounter := .next 1
  evictions : Word := 0
  /-- Ride updates sent to the table and not yet arrived, oldest first (R22, R53). -/
  updates : List SeenUpdate := []
  deriving DecidableEq, Repr

/-- The Card Link (R85). -/
structure CardLink where
  holder : FieldHolder := .none
  /-- The card hold: head, then second. -/
  hold : List HeldTask := []
  /-- The presentation deadline, as the seconds it was set to (R90). -/
  deadline : Option Nat := none
  /-- The presence interval the last WAKE was sent with, in milliseconds (R94); 0 where none has been sent since RESET or a
  memory fault (DESIGN CHOICE, log 41). -/
  interval : Nat := 0
  /-- The tries used of the exchange in progress; in PRESENCE, 1 while the reply to a WAKE is awaited (R93, R94). -/
  tries : Nat := 0
  identity : Option CardIdentity := none
  /-- The pending-stamp data, from the grant of the reservation to the end of STAMPING (R85, R98); before the grant the session's
  plan of the ride holds what there is of it (DESIGN CHOICE, log 46). -/
  pendingStamp : Option PendingStamp := none
  deriving DecidableEq, Repr

/-- The Field Monitor (R112). -/
structure FieldMonitor where
  antennaOpen : Bool := false
  overcurrent : Bool := false
  thermalWarning : Bool := false
  thermalShutdown : Bool := false
  openBlock : Bool := false
  overcurrentBlock : Bool := false
  shutdownBlock : Bool := false
  reducedDuty : Bool := false
  finding : Finding := .unknown
  /-- The die temperature as last measured, in whole degrees (R112, R122). -/
  dieTemp : Int := 0
  stopOnOpen : Bool := false
  reportOpen : Report := .event
  reportOvercurrent : Report := .event
  reportWarning : Report := .answerOnly
  reportShutdown : Report := .event
  /-- A detection was made with the field left on and the current has not risen since (R115). -/
  detected : Bool := false
  /-- The passive check in progress (R116). -/
  passive : Option PassiveUse := none
  deriving DecidableEq, Repr

/-- The Journal Writer (R147). -/
structure JournalWriter where
  ring : Option Ring := none
  cursor : Nat := 0
  nextSerial : Word := 1
  reservation : Option Reservation := none
  missed : Word := 0
  /-- The claims and fills waiting, the first of them in service, in order of arrival (R150). -/
  queue : List JournalJob := []
  service : JournalService := .idle
  deriving DecidableEq, Repr

/-- Power and Events (R158). -/
structure PowerEvents where
  power : PowerState := .run
  settling : Option SettlingGoal := none
  /-- The wake timer: stopped, or running with its period in seconds. -/
  wakeTimer : Option Nat := none
  /-- The work of an expired wake timer (R162). -/
  dozeJob : Option DozeJob := none
  cardNear : Bool := false
  senseTimer : Bool := false
  /-- The sense reference, in whole milliamperes. -/
  senseReference : Option Nat := none
  /-- The event flags, at the bits of the EVENTS register (11.7). -/
  events : BitVec 8 := 0
  /-- The event enables, at the bits of EVENT ENABLE. -/
  enables : BitVec 8 := 0
  deriving DecidableEq, Repr

/-- The state of the part. -/
structure State where
  mpt : MemoryPort := {}
  ssc : SheetScanner := {}
  rcx : RunningContext := {}
  ven : VerdictEngine := {}
  dnl : DenyList := {}
  snt : SeenTable := {}
  clk : CardLink := {}
  fmn : FieldMonitor := {}
  jnw : JournalWriter := {}
  pev : PowerEvents := {}
  /-- Which free values have been drawn (log 4): the model's own counter. -/
  draws : Nat := 0
  /-- The commands waiting, first in first out. -/
  pending : List Instr := []
  deriving DecidableEq, Repr

/-- The state after RESET of a part whose die is cool: every default above is the value its rule gives for RESET; the die
temperature is 0 (DESIGN CHOICE, log 1) and draws is 0 (DESIGN CHOICE, log 4). -/
def State.reset : State := {}

end Sys2Proof.Machine
end

