-- ==== Sys2Proof/Machine/Flags.lean ====
section
/-! DEFINITION. The flags: event flags and the interrupt line (R166 to R168), the field flags with their latching (R114),
blocks, field summary and active flags (R121, R122), and the flags byte of an inspection answer (R28). -/

namespace Sys2Proof.Machine

/-! ### Event flags (11.7) -/

def evTaskDone : BitVec 8 := 0x01
def evJournalEntry : BitVec 8 := 0x02
def evJournalFull : BitVec 8 := 0x04
def evFieldFault : BitVec 8 := 0x08
def evCardNear : BitVec 8 := 0x10
def evWoke : BitVec 8 := 0x20
def evHalted : BitVec 8 := 0x40
def evMemoryFault : BitVec 8 := 0x80

/-- R166: a flag is set at the event of its cause, whether or not its enable is set. -/
def raiseEvent (flag : BitVec 8) (s : State) : State :=
  { s with pev := { s.pev with events := s.pev.events ||| flag } }

/-- R168: asserted while at least one event flag is set whose enable is also set. -/
def interruptLine (s : State) : Bool := (s.pev.events &&& s.pev.enables) != 0

/-! ### Field flags and blocks -/

/-- R112: the field is blocked while any of the three blocks is in force. -/
def fieldBlocked (s : State) : Bool := s.fmn.openBlock || s.fmn.overcurrentBlock || s.fmn.shutdownBlock

/-- R86: the field is on exactly while a holder has it. -/
def fieldOn (s : State) : Bool := s.clk.holder != .none

/-- R114: FIELD FAULT is raised where a flag passes from clear to set under the reporting option EVENT. -/
def reportLatch (was : Bool) (report : Report) (s : State) : State :=
  if !was && report == .event then raiseEvent evFieldFault s else s

/-- The ANTENNA OPEN flag latches (R114). -/
def latchOpen (s : State) : State :=
  reportLatch s.fmn.antennaOpen s.fmn.reportOpen { s with fmn := { s.fmn with antennaOpen := true } }

/-- The OVERCURRENT flag latches (R114). -/
def latchOvercurrent (s : State) : State :=
  reportLatch s.fmn.overcurrent s.fmn.reportOvercurrent { s with fmn := { s.fmn with overcurrent := true } }

/-- The THERMAL WARNING flag latches (R114). -/
def latchWarning (s : State) : State :=
  reportLatch s.fmn.thermalWarning s.fmn.reportWarning { s with fmn := { s.fmn with thermalWarning := true } }

/-- The THERMAL SHUTDOWN flag latches (R114). -/
def latchShutdown (s : State) : State :=
  reportLatch s.fmn.thermalShutdown s.fmn.reportShutdown { s with fmn := { s.fmn with thermalShutdown := true } }

/-- The four latched flags at bits 0 to 3 (11.3). -/
def latchedFlags (f : FieldMonitor) : Byte :=
  marks [f.antennaOpen, f.overcurrent, f.thermalWarning, f.thermalShutdown]

/-- The four conditions of R120 at bits 0 to 3 (R122): the overcurrent condition needs the field on and the current above
the limit. -/
def activeFlags (s : State) (overLimit : Bool) : Byte :=
  marks [s.fmn.finding == .openAntenna, fieldOn s && overLimit, s.fmn.reducedDuty, s.fmn.shutdownBlock]

/-- The code of a power state in CONTROL, the field summary and the status record (11.3, 11.7). -/
def powerCode : PowerState → Nat
  | .run => 0
  | .reduced => 1
  | .doze => 2
  | .sleep => 3

/-- The field summary byte (R121, 11.3). -/
def fieldSummary (s : State) : Byte :=
  latchedFlags s.fmn ||| (if fieldBlocked s then (0x10 : Byte) else 0) ||| (BitVec.ofNat 8 (powerCode s.pev.power) <<< 5)

/-- The flags byte of an inspection answer (11.3). -/
def answerFlagsByte (f : AnswerFlags) : Byte :=
  marks [f.checkProof, f.listIncomplete, f.listInvalid, f.clockStale, f.seenBefore, f.uncertainResolved, f.journalMissed]

end Sys2Proof.Machine
end

