-- ==== Sys2Proof/Machine/Answers.lean ====
section
/-! DEFINITION. What the part writes: the codes of 11_record_layouts.md, the answers of every task kind by the rule of R177,
the journal entry, the export record, the status record and the identity record. -/

namespace Sys2Proof.Machine

/-! ### Codes -/

/-- Completion codes (11.3). -/
def completionCode : Completion → Byte
  | .ok => 1
  | .refused => 2
  | .cancelled => 3
  | .halted => 4
  | .fieldFault => 5
  | .abandoned => 6

/-- Refusal reasons (11.3), 0 for none; 11.3 gives BAD ENTRY no number (log 34). -/
def reasonCode : Option Reason → Byte
  | none => 0
  | some .badKind => 1
  | some .badField => 2
  | some .length => 3
  | some .badCode => 4
  | some .duplicateStop => 5
  | some .stopNotOnRoute => 6
  | some .notSameTrip => 7
  | some .positionSequence => 8
  | some .notLoading => 9
  | some .notReady => 10
  | some .generation => 11
  | some .sequence => 12
  | some .badEntry => Config.badEntryCode
  | some .order => 13
  | some .stagingFull => 14
  | some .capacity => 15
  | some .busy => 16
  | some .slotLoaded => 17

/-- Record failures (11.3). -/
def failureCode : RecordFailure → Byte
  | .wrongClass => 16
  | .wrongSegment => 17
  | .noRidesLeft => 18
  | .notYetValid => 19
  | .expired => 20
  | .stampDamaged => 21
  | .unknownKey => 22
  | .forged => 23

/-- Place results (11.3). -/
def placeCode : PlaceResult → Byte
  | .empty => 1
  | .notJudged => 2
  | .usable => 3
  | .failed f => failureCode f

/-- Verdicts (11.3). -/
def verdictCode : Verdict → Byte
  | .denied => 4
  | .noContext => 5
  | .valid => 6
  | .rideTaken => 7
  | .rideTakenEarlier => 8
  | .rideNotTaken => 9
  | .stampUncertain => 10
  | .noFare => 11
  | .noCredential => 12
  | .multipleCards => 13
  | .unreadable => 14
  | .failed f => failureCode f

/-- Verdict reasons (11.3). -/
def verdictReasonCode : VerdictReason → Byte
  | .journalFull => 1
  | .uncertainLimit => 2
  | .stampFailed => 3
  | .notRequested => 4

/-- Deny reasons (R176). -/
def denyReasonCode : DenyReason → Byte
  | .stolen => 1
  | .refunded => 2
  | .fraud => 3
  | .accountBlocked => 4

/-- Deny actions (R176). -/
def denyActionCode : DenyAction → Byte
  | .refuse => 1
  | .retain => 2

/-- Sources (11.3, the inspection answer). -/
def sourceCode : Source → Byte
  | .localPart => 1
  | .peer => 2

/-- List states (11.6; R176). -/
def listStateCode : ListState → Nat
  | .invalid => 1
  | .loading => 2
  | .ready => 3

/-- Run states in CONTROL and the status record (11.7). -/
def runStateCode : RunState → Nat
  | .halted => 0
  | .starting => 1
  | .running => 2
  | .halting => 3

/-- Halt causes in CONTROL and the status record (11.7). -/
def haltCauseCode : HaltCause → Nat
  | .reset => 0
  | .command => 1
  | .memoryFault => 2
  | .setupInvalid => 3

/-- Antenna findings, numbered from 1 in the order of R112 (R176; log 17). -/
def findingCode : Finding → Nat
  | .unknown => 1
  | .connected => 2
  | .openAntenna => 3

/-- Power states in a POWER answer, numbered from 1 as the POWER target is (R176; log 17). -/
def powerTargetCode : PowerState → Nat
  | .run => 1
  | .reduced => 2
  | .doze => 3
  | .sleep => 4

/-- FIELD TEST results, numbered from 1 in the order of R123 (R176; log 17). -/
def fieldTestCode : FieldTestResult → Nat
  | .busy => 1
  | .skipped => 2
  | .connected => 3
  | .openAntenna => 4

/-- Session states, numbered from 1 in the order of R91 (R177). -/
def sessionCode : Session → Nat
  | .waitingField => 1
  | .presence => 2
  | .reading => 3
  | .asking _ | .deciding _ _ _ => 4
  | .stamping _ _ _ => 5
  | .closing _ _ _ => 6

/-- Ride states (11.6). -/
def rideStateCode : RideState → Byte
  | .none => 0
  | .localRide => 1
  | .peer => 2
  | .both => 3

/-- Stamp states (11.6). -/
def stampStateCode : StampState → Byte
  | .none => 0
  | .done => 1
  | .uncertain => 2
  | .damaged => 3

/-- Journal entry kinds (11.6). -/
def entryKindCode : EntryKind → Byte
  | .ride => 1
  | .uncertain => 2
  | .resolved => 3
  | .conflict => 4
  | .denied => 5
  | .void => 6

/-- A resolution's outcome in a RESOLVED entry's detail (11.6). -/
def resolutionCode : Resolution → Half
  | .landed => 1
  | .notLanded => 2
  | .damaged => 3

/-- A VOID entry's cause in its detail (11.6). -/
def voidCauseCode : VoidCause → Half
  | .stampFailed => 1
  | .cancelled => 2
  | .fieldFault => 3
  | .halted => 4

/-- The detail of a DENIED entry: the reason in byte 26, the action in byte 27 (11.6). -/
def deniedDetail (r : DenyReason) (a : DenyAction) : Half :=
  (denyReasonCode r).setWidth 16 ||| ((denyActionCode a).setWidth 16 <<< 8)

/-- The owner mark HOST (11.6). -/
def markHost : Byte := 0xA5

/-- The owner mark PART (11.6). -/
def markPart : Byte := 0x5A

/-- 1 for yes or set, 0 for no or clear: R176's numbers for a request, taken for an answer too (log 37). -/
def bit (b : Bool) : Nat := if b then 1 else 0

/-! ### Answers (R131, R177) -/

/-- Bytes filled up with zeros to a length. -/
def padTo (n : Nat) (b : List Byte) : List Byte := (b ++ List.replicate n 0).take n

/-- Bytes 24 to 63 of a slot: the fifth byte is the field summary, put in at the write (R121). -/
def answerBytes (tag : Half) (a : AnswerBody) : List Byte :=
  [completionCode a.code, reasonCode a.reason] ++ toBytes 2 tag.toNat ++ [0, a.presence] ++ padTo 34 a.fields

/-- An OK answer whose fields are all present. -/
def okAnswer (fields : List Field) : AnswerBody := { code := .ok, fields := layOut 30 fields }

/-- A REFUSED answer that carries its reason alone. -/
def refusedAnswer (r : Reason) : AnswerBody := { code := .refused, reason := some r }

/-- The answer START's sweep writes (R142). -/
def abandonedAnswer : AnswerBody := { code := .abandoned }

/-- An OK answer of an inspection (11.3). -/
def inspectionAnswer (d : Draft) : AnswerBody where
  code := .ok
  presence := marks [d.reason.isSome, d.cred.isSome, d.places.isSome, d.chosen.isSome, d.ridesLeft.isSome,
    d.denyReason.isSome, d.journalSerial.isSome, d.resolutionSerial.isSome]
  fields :=
    [verdictCode d.verdict, (d.reason.map verdictReasonCode).getD 0]
    ++ credBytes (d.cred.getD 0)
    ++ padTo 3 ((d.places.getD []).map placeCode)
    ++ (match d.chosen with
        | none => [0, 0, 0]
        | some c => [BitVec.ofNat 8 c.place, c.classCode, c.party])
    ++ [d.ridesLeft.getD 0, (d.denyReason.map denyReasonCode).getD 0, (d.denyAction.map denyActionCode).getD 0,
        answerFlagsByte d.flags]
    ++ toBytes 4 ((d.journalSerial.getD 0).toNat) ++ toBytes 4 ((d.resolutionSerial.getD 0).toNat)
    ++ (match d.seen with
        | none => []
        | some x => toBytes 2 x.firstStop.toNat ++ toBytes 2 x.firstMinute.toNat ++ [sourceCode x.source, x.count])

/-- An answer of a card task that ended with a code other than OK: the card ID with presence bit 1 where there is one
(R27, R177). -/
def codedAnswer (code : Completion) (cred : Option Cred) : AnswerBody :=
  match cred with
  | none => { code := code }
  | some c => { code := code, presence := 0x02, fields := [0, 0] ++ credBytes c }

/-- The answer of a session (R26, R27). -/
def sessionAnswer : SessionEnd → AnswerBody
  | .ok d => inspectionAnswer d
  | .coded code cred => codedAnswer code cred

/-- The form of a position: 0 none, 1 AT, 2 BETWEEN (11.6). -/
def positionForm : Option Position → Nat
  | none => 0
  | some (.atStop _) => 1
  | some (.between _) => 2

/-- The stop index of a position (R32). -/
def Position.stop : Position → Nat
  | .atStop k => k
  | .between k => k

/-- The stop index of a position, 0 for none. -/
def positionIndex (p : Option Position) : Nat := (p.map Position.stop).getD 0

/-- The code of the stop at an index of a route, 0 where there is none. -/
def stopCodeAt (route : List Stop) (k : Nat) : Half := ((route[k]?).map Stop.code).getD 0

/-- The current stop code (R32), 0 in state NONE. -/
def currentStop (c : RunningContext) : Half :=
  match c.position with
  | none => 0
  | some p => stopCodeAt c.route p.stop

/-- A position in an answer: form, index and stop code. -/
def positionFields (c : RunningContext) : List Field :=
  [⟨1, positionForm c.position⟩, ⟨1, positionIndex c.position⟩, ⟨2, (currentStop c).toNat⟩]

/-- The code of a ROUTE mode (R176). -/
def routeModeCode : RouteMode → Nat
  | .newTrip => 1
  | .continueTrip => 2

/-- The OK answer of a ROUTE (R41), from the context after it; before is the index before a CONTINUE's mapping. -/
def routeAnswer (mode : RouteMode) (before : Option Nat) (c : RunningContext) : AnswerBody where
  code := .ok
  presence := marks [before.isSome]
  fields := layOut 30 ([⟨1, routeModeCode mode⟩, ⟨2, c.trip.toNat⟩, ⟨1, c.route.length⟩] ++ positionFields c
    ++ [⟨1, before.getD 0⟩])

/-- The REFUSED answer of a ROUTE: the position as it still stands (R41; logs 15, 16). -/
def routeRefused (r : Reason) (c : RunningContext) : AnswerBody where
  code := .refused
  reason := some r
  presence := marks [c.position.isSome]
  fields := layOut 30 (positionFields c)

/-- The answer of a POSITION that reached the Running Context (R45), from the context after it. -/
def positionAnswer (code : Completion) (reason : Option Reason) (applied : Bool) (c : RunningContext) : AnswerBody where
  code := code
  reason := reason
  presence := marks [c.position.isSome]
  fields := layOut 30 (positionFields c ++ [⟨2, c.minute.toNat⟩, ⟨1, bit c.stale⟩, ⟨1, bit applied⟩])

/-- The completion code that goes with a reason or none. -/
def codeOf (reason : Option Reason) : Completion := if reason.isSome then .refused else .ok

/-- The answer of a DENY REPLACE that reached the Deny List (R75), from the list after it: the entries applied, and for a
FIRST the operations discarded from an open staging area. -/
def replaceAnswer (reason : Option Reason) (applied : Nat) (discarded : Option Nat) (d : DenyList) : AnswerBody where
  code := codeOf reason
  reason := reason
  presence := marks [d.load.isSome, discarded.isSome]
  fields := layOut 30 [⟨1, listStateCode d.state⟩, ⟨4, d.generation.toNat⟩, ⟨2, d.table.length⟩,
    ⟨4, (d.load.map Load.next).getD 0⟩, ⟨2, applied⟩, ⟨2, discarded.getD 0⟩]

/-- The two bytes of a staging area's next chunk number: the number is 65,536 only after a chunk numbered 65,535, and what
the field then holds is free (log 18). -/
def stagingNextField (n : Nat) : Nat := if n < 65536 then n else Config.stagingNextField.toNat

/-- The answer of a DENY DELTA that reached the Deny List (R80), from the list after it; the four counts of a commit are absent
where none is made (log 15). -/
def deltaAnswer (reason : Option Reason) (committed : Option DeltaCounts) (d : DenyList) : AnswerBody where
  code := codeOf reason
  reason := reason
  presence := marks [d.staging.isSome, committed.isSome, committed.isSome, committed.isSome, committed.isSome]
  fields :=
    let c := committed.getD {}
    layOut 30 [⟨1, bit d.staging.isSome⟩, ⟨2, (d.staging.map fun x => x.ops.length).getD 0⟩,
      ⟨2, (d.staging.map fun x => stagingNextField x.next).getD 0⟩, ⟨4, d.generation.toNat⟩, ⟨2, d.table.length⟩,
      ⟨4, d.discards.toNat⟩, ⟨1, bit committed.isSome⟩, ⟨2, c.added⟩, ⟨2, c.replaced⟩, ⟨2, c.removed⟩, ⟨2, c.noOps⟩]

/-- The OK answer of a DENY PRUNE (R81). -/
def pruneAnswer (removed : Nat) (d : DenyList) : AnswerBody :=
  okAnswer [⟨2, removed⟩, ⟨2, d.table.length⟩, ⟨4, d.generation.toNat⟩]

/-- The OK answer of a PEER NOTES (R61). -/
def notesAnswer (c : NoteCounts) : AnswerBody :=
  okAnswer [⟨1, c.inserted⟩, ⟨1, c.merged⟩, ⟨1, c.conflicts⟩, ⟨1, c.notJournalled⟩, ⟨1, c.ignored⟩]

/-- The insertion counter as a number, 0 when EXHAUSTED (R49). -/
def counterValue : InsertionCounter → Word
  | .next n => n
  | .exhausted => 0

/-- The OK answer of a SEEN EXPORT (R63). -/
def exportAnswer (written : Nat) (highest : Word) (more : Bool) (counter : InsertionCounter) : AnswerBody :=
  okAnswer [⟨2, written⟩, ⟨4, highest.toNat⟩, ⟨1, bit more⟩, ⟨4, (counterValue counter).toNat⟩]

/-- The OK answer of a FIELD TEST (R123); the temperature is signed (R176). -/
def fieldTestAnswer (r : FieldTestResult) (f : FieldMonitor) : AnswerBody :=
  okAnswer [⟨1, fieldTestCode r⟩, ⟨1, findingCode f.finding⟩, ⟨2, (BitVec.ofInt 16 f.dieTemp).toNat⟩]

/-- The OK answer of a POWER: the state held and the target (R160). -/
def powerAnswer (held target : PowerState) : AnswerBody where
  code := .ok
  presence := marks [true]
  fields := layOut 30 [⟨1, powerTargetCode held⟩, ⟨1, powerTargetCode target⟩]

/-- The BUSY answer of a POWER: the state held and the tasks in the card hold (R160), which set no presence mark (log 15). -/
def powerBusy (held : PowerState) (tasks : Nat) : AnswerBody where
  code := .refused
  reason := some .busy
  fields := layOut 30 [⟨1, powerTargetCode held⟩, ⟨1, tasks⟩]

/-- The code of a CANCEL result (R177). -/
def cancelCode : CancelResult → Nat
  | .targetCancelled => 1
  | .tooLate => 2
  | .notPending => 3

/-- The OK answer of a CANCEL: the result, the target's slot state as found, and its session state when it was held
(R107). -/
def cancelAnswer (r : CancelResult) (slotState : Nat) (session : Option Session) : AnswerBody where
  code := .ok
  presence := marks [session.isSome]
  fields := layOut 30 [⟨1, cancelCode r⟩, ⟨1, slotState⟩, ⟨1, (session.map sessionCode).getD 0⟩]

/-- The loaded key slots, slot 0 in bit 0 (R170). -/
def loadedSlots (v : VerdictEngine) : Byte := marks (v.keys.toList.map Option.isSome)

/-- The answer of a KEY LOAD (R170). -/
def keyLoadAnswer (reason : Option Reason) (v : VerdictEngine) : AnswerBody where
  code := codeOf reason
  reason := reason
  fields := layOut 30 [⟨1, (loadedSlots v).toNat⟩]

/-- The OK answer of a KEY CLEAR (R171). -/
def keyClearAnswer (was : Bool) (v : VerdictEngine) : AnswerBody :=
  okAnswer [⟨1, bit was⟩, ⟨1, (loadedSlots v).toNat⟩]

/-- The answer of a task the Sheet Scanner refuses for a field (R130): the fields that R41, R160 and R170 give every
refused answer of their kinds (log 16). -/
def badFieldAnswer (k : TaskKind) (s : State) : AnswerBody :=
  match k with
  | .route => routeRefused .badField s.rcx
  | .power => { code := .refused, reason := some .badField, fields := layOut 30 [⟨1, powerTargetCode s.pev.power⟩] }
  | .keyLoad => keyLoadAnswer (some .badField) s.ven
  | .cardInspect | .tokenInspect | .position | .denyReplace | .denyDelta | .denyPrune | .peerNotes | .seenExport
  | .fieldTest | .cancel | .keyClear | .status | .identify => refusedAnswer .badField

/-! ### Records -/

/-- A carnet place or rides left that is absent is 255 (R176). -/
def orNone (v : Option Nat) : Byte := BitVec.ofNat 8 (v.getD 255)

/-- Bytes 1 to 31 of a journal entry (11.6). -/
def entryBytes (serial : Word) (e : EntryContents) : List Byte :=
  [entryKindCode e.kind, orNone e.place, e.rides.getD 255] ++ toBytes 4 serial.toNat ++ credBytes e.cred
  ++ toBytes 2 e.ctx.trip.toNat ++ toBytes 2 e.ctx.day.toNat ++ toBytes 2 e.ctx.minute.toNat ++ toBytes 2 e.ctx.stop.toNat
  ++ toBytes 2 e.ctx.conductor.toNat ++ toBytes 2 e.detail.toNat ++ [0, 0, 0, 0]

/-- An export record (11.6). -/
def exportBytes (r : SeenRecord) : List Byte :=
  credBytes r.cred ++ toBytes 4 r.number.toNat
  ++ [(r.firstVerdict.map verdictCode).getD 0, rideStateCode r.ride, stampStateCode r.stamp, orNone r.place]
  ++ toBytes 2 r.firstStop.toNat ++ toBytes 2 r.firstMinute.toNat ++ toBytes 2 r.lastStop.toNat ++ [r.count]
  ++ List.replicate 9 0

/-- The number of records whose stamp state is UNCERTAIN (R47). -/
def pinCount (t : SeenTable) : Nat := t.records.countP fun r => r.stamp == .uncertain

/-- The number of saturated filter cells (R84). -/
def saturatedCells (d : DenyList) : Nat := d.filter.toList.countP fun c => c == 15

/-- The bytes of fields laid one after another. -/
def packed (fs : List Field) : List Byte := fs.flatMap fun f => toBytes f.width f.value

/-- The part of the status record that a block gives, from its state as the question finds it (R172, R173). -/
def statusPart (overLimit : Bool) (s : State) : StatusBlock → StatusRecord → StatusRecord
  | .memoryPort, r => { r with runState := runStateCode s.mpt.runState, haltCause := haltCauseCode s.mpt.haltCause }
  | .powerEvents, r => { r with power := powerCode s.pev.power }
  | .runningContext, r =>
    { r with
      contextState := bit (s.rcx.state == .active), positionForm := positionForm s.rcx.position
      positionIndex := positionIndex s.rcx.position, stop := (currentStop s.rcx).toNat, trip := s.rcx.trip.toNat
      day := s.rcx.day.toNat, minute := s.rcx.minute.toNat, stale := bit s.rcx.stale, conductor := s.rcx.conductor.toNat }
  | .denyList, r =>
    { r with
      listState := listStateCode s.dnl.state, stagedOps := (s.dnl.staging.map fun x => x.ops.length).getD 0
      generation := s.dnl.generation.toNat, denyEntries := s.dnl.table.length, saturatedCells := saturatedCells s.dnl
      falseHits := s.dnl.falseHits.toNat }
  | .seenTable, r =>
    { r with
      seenRecords := s.snt.records.length, pins := pinCount s.snt, evictions := s.snt.evictions.toNat
      counter := (counterValue s.snt.counter).toNat }
  | .verdictEngine, r => { r with loadedKeys := (loadedSlots s.ven).toNat }
  | .journalWriter, r => { r with nextSerial := s.jnw.nextSerial.toNat, missed := s.jnw.missed.toNat }
  | .fieldMonitor, r =>
    { r with
      latched := (latchedFlags s.fmn).toNat, active := (activeFlags s overLimit).toNat
      dieTemp := (BitVec.ofInt 16 s.fmn.dieTemp).toNat }

/-- The record after the parts of some blocks, all from one state. -/
def statusParts (overLimit : Bool) (s : State) (blocks : List StatusBlock) (r : StatusRecord) : StatusRecord :=
  blocks.foldl (fun r b => statusPart overLimit s b r) r

/-- The 64 bytes of the status record (11.6). -/
def statusBytes (r : StatusRecord) : List Byte :=
  packed
    [⟨1, r.runState⟩, ⟨1, r.haltCause⟩, ⟨1, r.power⟩, ⟨1, r.contextState⟩, ⟨1, r.positionForm⟩, ⟨1, r.positionIndex⟩,
      ⟨2, r.stop⟩, ⟨2, r.trip⟩, ⟨2, r.day⟩, ⟨2, r.minute⟩, ⟨1, r.stale⟩, ⟨1, r.listState⟩, ⟨2, r.conductor⟩,
      ⟨2, r.stagedOps⟩, ⟨4, r.generation⟩, ⟨2, r.denyEntries⟩, ⟨2, r.saturatedCells⟩, ⟨4, r.falseHits⟩, ⟨2, r.seenRecords⟩,
      ⟨1, r.pins⟩, ⟨1, r.loadedKeys⟩, ⟨4, r.evictions⟩, ⟨4, r.counter⟩, ⟨4, r.nextSerial⟩, ⟨4, r.missed⟩, ⟨1, r.latched⟩,
      ⟨1, r.active⟩, ⟨2, r.dieTemp⟩, ⟨8, 0⟩]

/-- The identity record (R174, 11.6). -/
def identityBytes : List Byte :=
  toBytes 2 318 ++ [2, BitVec.ofNat 8 Config.holdPlaces] ++ toBytes 2 Config.sheetSlots ++ toBytes 2 Config.journalEntries
  ++ toBytes 2 Config.denyEntries ++ toBytes 2 Config.stagingOps ++ toBytes 2 Config.seenRecords
  ++ [BitVec.ofNat 8 Config.pinned, BitVec.ofNat 8 Config.routeStops, BitVec.ofNat 8 Config.keySlots, 0]
  ++ toBytes 2 Config.replaceChunk ++ [BitVec.ofNat 8 Config.deltaChunk, BitVec.ofNat 8 Config.peerNotes]
  ++ toBytes 2 Config.seenExports ++ List.replicate 8 0

end Sys2Proof.Machine
end

