-- ==== Sys2Proof/Machine/Ops.lean ====
section
/-! DEFINITION. The operations every block shares: bus accesses and their order (R144), the outcome of a command, free
values, saturating counts, entering HALTED, and what a slot's address is (R125). -/

namespace Sys2Proof.Machine

/-! ### Bus accesses (R144) -/

/-- A block asks the Memory Port for an access. -/
def ask (a : Access) (s : State) : State :=
  { s with mpt := { s.mpt with asked := s.mpt.asked ++ [a] } }

/-- A block asks for a read. -/
def askRead (c : Client) (address : Word) (length : Nat) (s : State) : State :=
  ask { client := c, address := address, kind := .read length } s

/-- A block asks for a write. -/
def askWrite (c : Client) (address : Word) (data : List Byte) (s : State) : State :=
  ask { client := c, address := address, kind := .write data } s

/-- x put in at place k of a list. -/
def insertAt {α : Type} (k : Nat) (x : α) (l : List α) : List α := l.take k ++ x :: l.drop k

/-- Things that come together, in an order the free value gives: one thing has one order. -/
def freeOrder {α : Type} (draw : Nat) : List α → List α
  | [] => []
  | [x] => [x]
  | x :: y :: l => insertAt (Config.tieBreak draw % (l.length + 2)) x (freeOrder (draw + 1) (y :: l))

/-- The accesses asked for in this step join those waiting, in an order left open where there are several (R144; log 4). -/
def queueAsked (s : State) : State :=
  { s with
    mpt := { s.mpt with waiting := s.mpt.waiting ++ freeOrder s.draws s.mpt.asked, asked := [] }
    draws := s.draws + (s.mpt.asked.length - 1) }

/-- The field summary of an answer is taken at its write (R121, R131): it is the fifth byte of the answer area. -/
def stampSummary (s : State) (a : Access) : Access :=
  match a.summary, a.kind with
  | true, .write data => { a with kind := .write (data.set 4 (fieldSummary s)) }
  | _, _ => a

/-- R144: one access at a time; the oldest waiting access goes to the bus when none is in flight. -/
def launch (s : State) : State :=
  match s.mpt.flight, s.mpt.waiting with
  | none, a :: rest => { s with mpt := { s.mpt with flight := some (stampSummary s a), waiting := rest } }
  | _, _ => s

/-- The end of every step: what was asked for is put in order, and the bus is kept busy. -/
def arbitrate (s : State) : State := launch (queueAsked s)

/-- A command's outcome: the next state, with the bus arbitrated. -/
def settled (s : State) : Host.Outcome State Fault Refusal := .next (arbitrate s)

/-- Whether data answers an access: as many bytes as a read asked for; a write is answered with none (log 25). -/
def answers (data : List Byte) (a : Access) : Bool :=
  match a.kind with
  | .read n => data.length == n
  | .write _ => data.isEmpty

/-! ### Counts and free values -/

/-- A count that rises by one and holds at 4,294,967,295. -/
def saturate (n : Word) : Word := if n = BitVec.allOnes 32 then n else n + 1

/-- An inspection count: it rises by one and holds at 255 (R48). -/
def saturateByte (n : Byte) : Byte := if n = 255 then n else n + 1

/-! ### Run state (R138) -/

/-- An entry to HALTED with cause COMMAND, MEMORY FAULT or SETUP INVALID, which raises HALTED (R138, R166). -/
def enterHalted (cause : HaltCause) (s : State) : State :=
  raiseEvent evHalted
    { s with
      mpt := { s.mpt with runState := .halted, haltCause := cause, haltPending := false }
      ssc := { s.ssc with startUp := none } }

/-- The run state is RUNNING and the power state RUN or REDUCED: scans begin (R133). -/
def scansAllowed (s : State) : Bool :=
  s.mpt.runState == .running && (s.pev.power == .run || s.pev.power == .reduced)

/-! ### Slots (R125) -/

/-- The byte address of a place in a slot. Before a valid START there is no sheet, and no access is made. -/
def slotAddress (s : State) (slot off : Nat) : Word :=
  match s.ssc.sheet with
  | none => 0
  | some sh => sh.base + BitVec.ofNat 32 (64 * slot + off)

/-- The slot count, 0 where there is no sheet. -/
def slotCount (s : State) : Nat := (s.ssc.sheet.map Sheet.slots).getD 0

/-- Slot state codes (11.3). -/
def slotFree : Byte := 0
def slotPosted : Byte := 1
def slotTaken : Byte := 2
def slotDone : Byte := 3

/-- The answer area of a slot is written (R131). -/
def askAnswer (c : Client) (slot : Nat) (tag : Half) (a : AnswerBody) (s : State) : State :=
  ask { client := c, address := slotAddress s slot 24, kind := .write (answerBytes tag a), summary := true } s

/-- A slot's state is written (R126). -/
def askSlotState (c : Client) (slot : Nat) (state : Byte) (s : State) : State :=
  askWrite c (slotAddress s slot 0) [state] s

end Sys2Proof.Machine
end

