-- ==== Sys2Proof/Machine/Journal.lean ====
section
/-! DEFINITION. The Journal Writer (08_the_journal.md): claims and fills in order of arrival, the reading of the cursor
entry's mark, grants, refusals, and the writing of entries. -/

namespace Sys2Proof.Machine

/-- The byte address of a place in a journal entry (R146). Before a valid START there is no ring, and no service begins. -/
def entryAddress (ring : Ring) (entry off : Nat) : Word := ring.base + BitVec.ofNat 32 (32 * entry + off)

/-- R150: where no service is in progress and a claim is first in order, its service begins with the read of the owner mark
of the cursor entry. A fill waits for its own turn (R153). -/
def serveNext (s : State) : State :=
  match s.jnw.service, s.jnw.queue, s.jnw.ring with
  | .idle, .entry _ _ :: _, some ring | .idle, .reserve :: _, some ring | .idle, .reserveVoid _ :: _, some ring =>
    askRead .journal (entryAddress ring s.jnw.cursor 0) 1 { s with jnw := { s.jnw with service := .readingMark } }
  | _, _, _ => s

/-- Claims and fills reach the Journal Writer and wait in their order (R150). -/
def arrive (jobs : List JournalJob) (s : State) : State :=
  serveNext { s with jnw := { s.jnw with queue := s.jnw.queue ++ jobs } }

/-- The first job leaves the Journal Writer, and the next is served (R151). -/
def popJob (s : State) : State :=
  serveNext { s with jnw := { s.jnw with queue := s.jnw.queue.tail, service := .idle } }

/-- R150: a granted claim takes the cursor entry and the next serial; the cursor moves on and the next serial rises. -/
def takeEntry (ring : Ring) (s : State) : State :=
  { s with
    jnw := { s.jnw with cursor := (s.jnw.cursor + 1) % ring.entries, nextSerial := s.jnw.nextSerial + 1 } }

/-- R151, R153: the fields of an entry are written, bytes 1 to 31, before its owner mark (R148). -/
def writeFields (ring : Ring) (entry : Nat) (serial : Word) (e : EntryContents) (s : State) : State :=
  askWrite .journal (entryAddress ring entry 1) (entryBytes serial e)
    { s with jnw := { s.jnw with service := .writingFields entry serial } }

/-- R148: the owner HOST is written last. -/
def writeHost (ring : Ring) (entry : Nat) (serial : Word) (s : State) : State :=
  askWrite .journal (entryAddress ring entry 0) [markHost]
    { s with jnw := { s.jnw with service := .writingHost entry serial } }

/-- R151: the missed count rises for a lost DENIED, RESOLVED or CONFLICT entry, not for a token RIDE. -/
def countMissed (kind : EntryKind) (s : State) : State :=
  match kind with
  | .denied | .resolved | .conflict => { s with jnw := { s.jnw with missed := saturate s.jnw.missed } }
  | .ride | .uncertain | .void => s

/-- A claim whose session has ended: nobody awaits its serial, and a reservation not yet granted is to be filled VOID with
the given contents when it is (R153). -/
def orphanJob (void : EntryContents) : JournalJob → JournalJob
  | .entry e .card => .entry e .nobody
  | .entry e who => .entry e who
  | .reserve => .reserveVoid void
  | .reserveVoid e => .reserveVoid e
  | .fill e => .fill e

/-- A claim whose session has ended at its decision point: nobody awaits its serial (R105, R109, R110). -/
def disownJob : JournalJob → JournalJob
  | .entry e .card => .entry e .nobody
  | .entry e who => .entry e who
  | .reserve => .reserve
  | .reserveVoid e => .reserveVoid e
  | .fill e => .fill e

/-- The claims of a session that ends at its decision point are disowned: a resolution stands, and its entry is written. -/
def disownClaims (s : State) : State := { s with jnw := { s.jnw with queue := s.jnw.queue.map disownJob } }

/-- The claims of a session that ends in DECIDING are orphaned (R105, R109, R110). -/
def orphanClaims (void : EntryContents) (s : State) : State :=
  { s with jnw := { s.jnw with queue := s.jnw.queue.map (orphanJob void) } }

/-- R157: what a memory fault does to the Journal Writer; cursor, next serial and missed count are kept. -/
def dropJournalWork (j : JournalWriter) : JournalWriter :=
  { j with reservation := none, queue := [], service := .idle }

/-- Whether the Journal Writer has nothing to do (R147, After HALT). -/
def journalQuiet (j : JournalWriter) : Bool :=
  j.queue.isEmpty && j.service == .idle && j.reservation.isNone

/-! ### Entry contents (R149) -/

/-- The VOID entry of a planned ride, with its cause. -/
def voidEntry (p : RidePlan) (cause : VoidCause) : EntryContents :=
  ⟨.void, p.cred, p.ctx, some p.place, none, voidCauseCode cause⟩

/-- The RIDE or UNCERTAIN entry of a stamp: the new stamp's rides left (R101). -/
def stampEntry (kind : EntryKind) (p : RidePlan) (rides : Byte) : EntryContents :=
  ⟨kind, p.cred, p.ctx, some p.place, some rides, 0⟩

/-- The RIDE entry of a token (R20): carnet place 0, the issued rides less one. -/
def tokenEntry (p : RidePlan) : EntryContents := ⟨.ride, p.cred, p.ctx, some 0, some (p.rides - 1), 0⟩

/-- The DENIED entry (R17). -/
def deniedEntry (cred : Cred) (ctx : ContextAnswer) (e : DenyEntry) : EntryContents :=
  ⟨.denied, cred, ctx, none, none, deniedDetail e.reason e.action⟩

/-- The RESOLVED entry (R56): for LANDED the rides left of the card's stamp. -/
def resolvedEntry (cred : Cred) (ctx : ContextAnswer) (place : Option Nat) (rides : Option Byte) (r : Resolution) :
    EntryContents :=
  ⟨.resolved, cred, ctx, place, rides, resolutionCode r⟩

/-- The CONFLICT entry (R54, R60): the detail is a peer conductor ID. -/
def conflictEntry (cred : Cred) (ctx : ContextAnswer) (place : Option Nat) (peer : Half) : EntryContents :=
  ⟨.conflict, cred, ctx, place, none, peer⟩

end Sys2Proof.Machine
end

