-- ==== Sys2Proof/Machine/Operands.lean ====
section
/-! DEFINITION. What the part reads from shared memory and from a card: slots and their requests, the setup block, fare
records, tokens, stamps, stop lists, deny chunks, peer notes (11_record_layouts.md), and when each field is in range. -/

namespace Sys2Proof.Machine

/-- A yes-or-no field: 0 no, 1 yes, any other value neither (R176). -/
def yesNo (b : Byte) : Option Bool :=
  if b = 0 then some false else if b = 1 then some true else none

/-- The seated class, 1 or 2 (R24, R89). -/
def seatedClass (b : Byte) : Option Nat :=
  if b = 1 then some 1 else if b = 2 then some 2 else none

/-- A stop code: not 0 and not 65,535 (R31, R37). -/
def stopCodeOk (c : Half) : Bool := c != 0 && c != Config.invalidStop

/-- A service minute: 0 to 2,879. -/
def minuteOk (m : Half) : Bool := decide (m.toNat ≤ Config.lastMinute.toNat)

/-- The task kind a code names (11.3), none for an unknown kind. -/
def taskKind (b : Byte) : Option TaskKind :=
  match b.toNat with
  | 1 => some .cardInspect
  | 2 => some .tokenInspect
  | 3 => some .route
  | 4 => some .position
  | 5 => some .denyReplace
  | 6 => some .denyDelta
  | 7 => some .denyPrune
  | 8 => some .peerNotes
  | 9 => some .seenExport
  | 10 => some .fieldTest
  | 11 => some .power
  | 12 => some .cancel
  | 13 => some .keyLoad
  | 14 => some .keyClear
  | 15 => some .status
  | 16 => some .identify
  | _ => none

/-- CARD INSPECT (R89): timeout at 4, seated class at 5, ride permitted at 6; a timeout of 0 means 10 seconds. -/
def readCardInspect (b : List Byte) : Option Request := do
  let seated ← seatedClass (byteAt b 5)
  let ride ← yesNo (byteAt b 6)
  let t := (byteAt b 4).toNat
  if t ≤ 30 then some (.cardInspect ⟨if t = 0 then 10 else t, seated, ride⟩) else none

/-- TOKEN INSPECT (R24): token address at 4, seated class at 8, ride permitted at 9. -/
def readTokenInspect (b : List Byte) : Option Request := do
  let seated ← seatedClass (byteAt b 8)
  let ride ← yesNo (byteAt b 9)
  some (.tokenInspect ⟨wordAt b 4, seated, ride⟩)

/-- ROUTE (R36), at the offsets R177 gives. The stop count is not checked here. -/
def readRoute (b : List Byte) : Option Request := do
  let mode ← if byteAt b 4 = 1 then some RouteMode.newTrip
    else if byteAt b 4 = 2 then some RouteMode.continueTrip else none
  if halfAt b 6 ≠ 0 ∧ minuteOk (halfAt b 10) then
    some (.route ⟨mode, halfAt b 6, halfAt b 8, halfAt b 10, halfAt b 12, (halfAt b 14).toNat, wordAt b 16⟩)
  else none

/-- POSITION (R42): event at 4, stop code at 6, minute present at 8, service minute at 10. -/
def readPosition (b : List Byte) : Option Request := do
  let event ← if byteAt b 4 = 1 then some PositionEvent.arrive
    else if byteAt b 4 = 2 then some PositionEvent.depart else none
  let present ← yesNo (byteAt b 8)
  if stopCodeOk (halfAt b 6) ∧ (present = true → minuteOk (halfAt b 10)) then
    some (.position ⟨event, halfAt b 6, if present then some (halfAt b 10) else none⟩)
  else none

/-- DENY REPLACE (R71): chunk at 4, FIRST at 6, LAST at 7, target generation at 8, entry count at 12, address at 16. -/
def readDenyReplace (b : List Byte) : Option Request := do
  let first ← yesNo (byteAt b 6)
  let last ← yesNo (byteAt b 7)
  if wordAt b 8 ≠ 0 ∧ (halfAt b 12).toNat ≤ Config.replaceChunk then
    some (.denyReplace ⟨(halfAt b 4).toNat, first, last, wordAt b 8, (halfAt b 12).toNat, wordAt b 16⟩)
  else none

/-- DENY DELTA (R76): chunk at 4, FIRST at 6, LAST at 7, base generation at 8, operation count at 12, address at 16. -/
def readDenyDelta (b : List Byte) : Option Request := do
  let first ← yesNo (byteAt b 6)
  let last ← yesNo (byteAt b 7)
  if (byteAt b 12).toNat ≤ Config.deltaChunk then
    some (.denyDelta ⟨(halfAt b 4).toNat, first, last, wordAt b 8, (byteAt b 12).toNat, wordAt b 16⟩)
  else none

/-- PEER NOTES (R58): note count at 4, address at 8. -/
def readPeerNotes (b : List Byte) : Option Request :=
  let n := (byteAt b 4).toNat
  if 1 ≤ n ∧ n ≤ Config.peerNotes then some (.peerNotes n (wordAt b 8)) else none

/-- SEEN EXPORT (R62): after-number at 4, capacity at 8, address at 12. -/
def readSeenExport (b : List Byte) : Option Request :=
  let n := (halfAt b 8).toNat
  if 1 ≤ n ∧ n ≤ Config.seenExports then some (.seenExport (wordAt b 4) n (wordAt b 12)) else none

/-- POWER (R160): target at 4, wake period at 6, card-near wake at 8, the last two read for DOZE alone. -/
def readPower (b : List Byte) : Option Request :=
  match (byteAt b 4).toNat with
  | 1 => some (.power .run 0 false)
  | 2 => some (.power .reduced 0 false)
  | 3 => do
    let near ← yesNo (byteAt b 8)
    let period := (halfAt b 6).toNat
    if 1 ≤ period ∧ period ≤ 600 then some (.power .doze period near) else none
  | 4 => some (.power .sleep 0 false)
  | _ => none

/-- CANCEL (R107): the target slot at 4, below the sheet's slot count. -/
def readCancel (slots : Nat) (b : List Byte) : Option Request :=
  let n := (byteAt b 4).toNat
  if n < slots then some (.cancel n) else none

/-- KEY LOAD (R170): key slot at 4, replace at 5, key address at 8. -/
def readKeyLoad (b : List Byte) : Option Request := do
  let replace ← yesNo (byteAt b 5)
  let n := (byteAt b 4).toNat
  if n < Config.keySlots then some (.keyLoad n replace (wordAt b 8)) else none

/-- KEY CLEAR (R171): key slot at 4. -/
def readKeyClear (b : List Byte) : Option Request :=
  let n := (byteAt b 4).toNat
  if n < Config.keySlots then some (.keyClear n) else none

/-- The request of a kind with good fields, none where a field is out of range (R130). The bytes are numbered from the
start of the slot. -/
def readRequest (slots : Nat) (kind : TaskKind) (b : List Byte) : Option Request :=
  match kind with
  | .cardInspect => readCardInspect b
  | .tokenInspect => readTokenInspect b
  | .route => readRoute b
  | .position => readPosition b
  | .denyReplace => readDenyReplace b
  | .denyDelta => readDenyDelta b
  | .denyPrune => some (.denyPrune (halfAt b 4))
  | .peerNotes => readPeerNotes b
  | .seenExport => readSeenExport b
  | .fieldTest => some .fieldTest
  | .power => readPower b
  | .cancel => readCancel slots b
  | .keyLoad => readKeyLoad b
  | .keyClear => readKeyClear b
  | .status => some (.status (wordAt b 4))
  | .identify => some (.identify (wordAt b 4))

/-- What a POSTED slot holds: first the kind, then its fields (R130). The bytes are numbered from the start of the slot. -/
def readSlot (slots : Nat) (b : List Byte) : Parsed :=
  match taskKind (byteAt b 1) with
  | none => .badKind
  | some k =>
    match readRequest slots k b with
    | none => .badField k
    | some r => .good r

/-! ### The setup block (R140, 11.2) -/

/-- A reporting pair: 1 EVENT, 2 ANSWER ONLY, 0 and 3 DEFAULT (R113). -/
def reportOption (b : Byte) (shift : Nat) (default : Report) : Report :=
  match ((b >>> shift) &&& 3).toNat with
  | 1 => .event
  | 2 => .answerOnly
  | _ => default

/-- Whether two byte ranges share a byte. -/
def overlaps (a la b lb : Nat) : Bool := decide (a < b + lb) && decide (b < a + la)

/-- The values of a valid setup block, none where it is invalid (R140). -/
def readSetup (b : List Byte) : Option Setup :=
  let base := wordAt b 0
  let k := (byteAt b 4).toNat
  let jk := (byteAt b 5).toNat
  let poll := (halfAt b 6).toNat
  let jbase := wordAt b 8
  let conductor := halfAt b 12
  let sheetBytes := 64 * 2 ^ k
  let ringBytes := 32 * 2 ^ jk
  if base.toNat % 64 = 0 ∧ 2 ≤ k ∧ k ≤ 8 ∧ jbase.toNat % 32 = 0 ∧ 3 ≤ jk ∧ jk ≤ 10 ∧ poll ≤ 250 ∧ conductor ≠ 0
      ∧ base.toNat + sheetBytes ≤ 2 ^ 32 ∧ jbase.toNat + ringBytes ≤ 2 ^ 32
      ∧ overlaps base.toNat sheetBytes jbase.toNat ringBytes = false then
    some { sheet := ⟨base, 2 ^ k⟩, ring := ⟨jbase, 2 ^ jk⟩, pollInterval := poll, conductor := conductor
           stopOnOpen := (byteAt b 14).getLsbD 0
           reportOpen := reportOption (byteAt b 15) 0 .event
           reportOvercurrent := reportOption (byteAt b 15) 2 .event
           reportWarning := reportOption (byteAt b 15) 4 .answerOnly
           reportShutdown := reportOption (byteAt b 15) 6 .event }
  else none

/-! ### Fare records, stamps and tokens (11.4) -/

/-- The product class a code names, none for EMPTY and for a code of no class (R3, R4). -/
def productClass (code : Byte) : Option ProductClass :=
  match code.toNat with
  | 1 => some .single
  | 2 => some .returnFare
  | 3 => some .carnet
  | 4 => some .periodPass
  | 5 => some .zonePass
  | 6 => some .group
  | _ => none

/-- A fare record as read. -/
def readFareRecord (b : List Byte) : FareRecord where
  covered := b.take 28
  classCode := byteAt b 0
  travelClass := byteAt b 1
  concession := (byteAt b 2).getLsbD 0
  partySize := byteAt b 3
  origin := halfAt b 4
  destination := halfAt b 6
  zones := wordAt b 8
  fromDay := halfAt b 12
  fromMinute := halfAt b 14
  untilDay := halfAt b 16
  untilMinute := halfAt b 18
  rides := byteAt b 20
  keyIndex := byteAt b 21
  check := wordAt b 28

/-- A record place: none where its product class is EMPTY (R3). -/
def readPlace (b : List Byte) : Option FareRecord :=
  if byteAt b 0 = 0 then none else some (readFareRecord b)

/-- The three record places of a card, those beyond the filled count EMPTY (R6, R95). -/
def readPlaces (records : List (List Byte)) : List (Option FareRecord) :=
  [0, 1, 2].map fun p => (records[p]?).bind readPlace

/-- The fields of a stamp record. -/
def readStamp (b : List Byte) : StampRecord :=
  ⟨halfAt b 0, halfAt b 2, halfAt b 4, halfAt b 6, halfAt b 8, byteAt b 10, byteAt b 11⟩

/-- The standing of a stamp (R6): its check is the CRC-32 of its first 12 bytes. -/
def stampStanding : Option (List Byte) → StampStanding
  | none => .absent
  | some b =>
    let st := readStamp b
    if crc32 (b.take 12) = wordAt b 12 ∧ st.place.toNat ≤ 2 ∧ st.rides.toNat ≤ 99 then .intact st else .damaged

/-- The 16 bytes of a stamp with its check (R98). -/
def stampBytes (st : StampRecord) : List Byte :=
  let body := toBytes 2 st.sequence.toNat ++ toBytes 2 st.day.toNat ++ toBytes 2 st.trip.toNat
    ++ toBytes 2 st.stop.toNat ++ toBytes 2 st.conductor.toNat ++ [st.place, st.rides]
  body ++ toBytes 4 (crc32 body).toNat

/-! ### Lists and buffers (11.5) -/

/-- A stop list entry. -/
def readStop (b : List Byte) : Stop := ⟨halfAt b 0, byteAt b 2⟩

/-- The stop list of so many stops. -/
def readStops (n : Nat) (b : List Byte) : List Stop := (chunks 4 n b).map readStop

/-- A peer note, none where a field is out of range (R58). -/
def readNote (b : List Byte) : Option PeerNote := do
  let ride ← yesNo (byteAt b 12)
  if credAt b 0 ≠ 0 ∧ halfAt b 8 ≠ Config.invalidStop ∧ minuteOk (halfAt b 10) ∧ halfAt b 14 ≠ 0 then
    some ⟨credAt b 0, halfAt b 8, halfAt b 10, ride, halfAt b 14⟩
  else none

/-- The notes of a buffer, none where any is out of range (R58). -/
def readNotes (n : Nat) (b : List Byte) : Option (List PeerNote) := (chunks 16 n b).mapM readNote

/-- The deny reason a code names (R176). -/
def denyReason (b : Byte) : Option DenyReason :=
  match b.toNat with
  | 1 => some .stolen
  | 2 => some .refunded
  | 3 => some .fraud
  | 4 => some .accountBlocked
  | _ => none

/-- The deny action a code names (R176). -/
def denyAction (b : Byte) : Option DenyAction :=
  match b.toNat with
  | 1 => some .refuse
  | 2 => some .retain
  | _ => none

/-- A deny entry, none where it is ill formed (R65). -/
def readEntry (b : List Byte) : Option DenyEntry := do
  let reason ← denyReason (byteAt b 8)
  let action ← denyAction (byteAt b 9)
  if credAt b 0 ≠ 0 then some ⟨credAt b 0, reason, action, halfAt b 10⟩ else none

/-- The entries of a chunk, none where any is ill formed (R73). -/
def readEntries (n : Nat) (b : List Byte) : Option (List DenyEntry) := (chunks 16 n b).mapM readEntry

/-- A delta operation, none where it is ill formed (R65): a REMOVE's bytes 8 to 11 are not read. -/
def readOp (b : List Byte) : Option DeltaOp :=
  match (byteAt b 12).toNat with
  | 1 => (readEntry b).map .add
  | 2 => if credAt b 0 ≠ 0 then some (.remove (credAt b 0)) else none
  | _ => none

/-- The operations of a chunk, none where any is ill formed (R78). -/
def readOps (n : Nat) (b : List Byte) : Option (List DeltaOp) := (chunks 16 n b).mapM readOp

end Sys2Proof.Machine
end

