-- ==== Sys2Proof/Machine/SeenTable.lean ====
section
/-! DEFINITION. The Seen Table (03_the_seen_table.md): insertion and eviction, the updates of inspections and rides, the
resolution of a doubtful stamp, the merge of peer notes, and the export. -/

namespace Sys2Proof.Machine

/-- The record of a credential. -/
def findSeen (c : Cred) (t : SeenTable) : Option SeenRecord := t.records.find? fun r => r.cred == c

/-- The table with a record put in the place of the one of its credential. -/
def replaceSeen (r : SeenRecord) (t : SeenTable) : SeenTable :=
  { t with records := t.records.map fun x => if x.cred = r.cred then r else x }

/-- R50: the records without the first one not pinned, which is the one of lowest insertion number among them, since the
records stand in rising insertion number. -/
def evictFirst : List SeenRecord → List SeenRecord
  | [] => []
  | r :: rs => if r.stamp = .uncertain then r :: evictFirst rs else rs

/-- R50: an insertion into a full table first removes one record. -/
def makeRoom (t : SeenTable) : SeenTable :=
  if t.records.length < Config.seenRecords then t
  else { t with records := evictFirst t.records, evictions := saturate t.evictions }

/-- R49: the counter after an insertion that took its number. -/
def counterAfter (n : Word) : InsertionCounter :=
  if n = BitVec.allOnes 32 then .exhausted else .next (n + 1)

/-- R49, R50: an insertion, which is not made while the counter is EXHAUSTED. The record's own number is not read. -/
def insertSeen (r : SeenRecord) (t : SeenTable) : SeenTable :=
  match t.counter with
  | .exhausted => t
  | .next n =>
    let u := makeRoom t
    { u with records := u.records ++ [{ r with number := n }], counter := counterAfter n }

/-- R57: the emptying at a new trip, which keeps the eviction count. -/
def emptySeen (t : SeenTable) : SeenTable := { t with records := [], counter := .next 1 }

/-! ### Inspections (R52) -/

/-- The record an inspection inserts (R52). -/
def freshRecord (cred : Cred) (v : Verdict) (ctx : ContextAnswer) : SeenRecord :=
  { cred := cred, number := 0, source := .localPart, firstVerdict := some v, firstStop := ctx.stop
    firstMinute := ctx.minute, lastStop := ctx.stop, count := 1, ride := .none, peerConductor := none
    stamp := .none, pendingSequence := none, place := none }

/-- R52: a record met again at a stop. -/
def meetAgain (stop : Half) (r : SeenRecord) : SeenRecord :=
  { r with lastStop := stop, count := saturateByte r.count }

/-- R52: the update of every outcome but a ride. -/
def noteInspection (cred : Cred) (v : Verdict) (ctx : ContextAnswer) (t : SeenTable) : SeenTable :=
  match findSeen cred t with
  | none => insertSeen (freshRecord cred v ctx) t
  | some r => replaceSeen (meetAgain ctx.stop r) t

/-- The eviction count that an inspection's update leaves (R50, R52); it turns neither on the verdict nor on the context. -/
def evictionsWith (cred : Cred) (t : SeenTable) : Word :=
  match findSeen cred t, t.counter with
  | none, .next _ => (makeRoom t).evictions
  | none, .exhausted | some _, _ => t.evictions

/-! ### The table in a decision point (R22, R52, R61; log 10) -/

/-- Whether the Seen Table has answered a decision point that is still in progress. -/
def consulted (a : Asking) : Bool := a.seen.isSome

/-- Whether the Seen Table has answered the decision point of a held task's session, which is still in progress. -/
def heldConsulted (t : HeldTask) : Bool :=
  match t.session with
  | .asking a => consulted a
  | .waitingField | .presence | .reading | .deciding _ _ _ | .stamping _ _ _ | .closing _ _ _ => false

/-- Whether the Seen Table has answered the decision point of the TOKEN INSPECT in hand, which is still in progress. -/
def scanConsulted (sc : Scan) : Bool :=
  match sc.phase with
  | .serving _ (.tokenAsk a) => consulted a
  | _ => false

/-- R22, R52, R61: a decision point is taken whole at the Seen Table. From the table's answer until that decision point ends
the table does no other work, so that the consult and the update of every outcome but a ride are one event there (log 10). -/
def seenEngaged (s : State) : Bool := s.clk.hold.any heldConsulted || (s.ssc.scan.map scanConsulted).getD false

/-- R52, R57: the emptying meets a decision point that the table has answered: its update, made with the consult, goes with
the records, and of it only an eviction stays (log 10). -/
def markEmptied (t : SeenTable) (a : Asking) : Asking :=
  if consulted a && a.emptied.isNone then { a with emptied := some (evictionsWith a.inspection.cred t) } else a

/-- A held task whose decision point an emptying has met. -/
def markHeld (t : SeenTable) (x : HeldTask) : HeldTask :=
  match x.session with
  | .asking a => { x with session := .asking (markEmptied t a) }
  | .waitingField | .presence | .reading | .deciding _ _ _ | .stamping _ _ _ | .closing _ _ _ => x

/-- R39, R57: the emptying at an accepted new trip. It waits for no decision point, and marks the one it meets: R39 lets it
come after a decision point's consult and before its other questions (log 10). -/
def emptyForTrip (s : State) : State :=
  { s with snt := emptySeen s.snt, clk := { s.clk with hold := s.clk.hold.map (markHeld s.snt) } }

/-! ### Ride state (R54) -/

/-- R54: a local ride applied. -/
def localRide : RideState → RideState
  | .none => .localRide
  | .localRide => .localRide
  | .peer => .both
  | .both => .both

/-- R54: a peer ride applied. -/
def peerRide : RideState → RideState
  | .none => .peer
  | .localRide => .both
  | .peer => .peer
  | .both => .both

/-- R54: the CONFLICT entry of a local ride that makes BOTH. Its carnet place is that of the record with the update applied
(log 38). -/
def localConflict (ctx : ContextAnswer) (before after : SeenRecord) : List JournalJob :=
  if before.ride = .peer then
    [.entry (conflictEntry after.cred ctx after.place (after.peerConductor.getD 0)) .nobody]
  else []

/-! ### Ride updates (R53) -/

/-- The verdict of a ride's outcome (R19, R101). -/
def outcomeVerdict : RideOutcome → Verdict
  | .landed _ => .rideTaken
  | .token => .rideTaken
  | .uncertain _ _ => .stampUncertain
  | .stampFailed _ => .rideNotTaken
  | .refused => .rideNotTaken

/-- The fields of an outcome, applied to a record (R53). -/
def applyOutcome (o : RideOutcome) (r : SeenRecord) : SeenRecord :=
  match o with
  | .landed place =>
    { r with ride := localRide r.ride, stamp := .done, place := some place, pendingSequence := none }
  | .token => { r with ride := localRide r.ride, place := some 0 }
  | .uncertain place sequence =>
    { r with stamp := .uncertain, place := some place, pendingSequence := some sequence }
  | .stampFailed place => { r with place := some place }
  | .refused => r

/-- Whether an outcome applies a local ride (R53). -/
def takesRide : RideOutcome → Bool
  | .landed _ => true
  | .token => true
  | .uncertain _ _ => false
  | .stampFailed _ => false
  | .refused => false

/-- R53: an update applied to the table as it then stands, with the CONFLICT entry it claims (R54). -/
def applyUpdate (u : SeenUpdate) (t : SeenTable) : SeenTable × List JournalJob :=
  match findSeen u.cred t with
  | none => (insertSeen (applyOutcome u.outcome (freshRecord u.cred (outcomeVerdict u.outcome) u.ctx)) t, [])
  | some r =>
    let r' := applyOutcome u.outcome (meetAgain u.ctx.stop r)
    (replaceSeen r' t, if takesRide u.outcome then localConflict u.ctx r r' else [])

/-- An update on its way to the Seen Table (R22). -/
def sendUpdate (u : SeenUpdate) (s : State) : State :=
  { s with snt := { s.snt with updates := s.snt.updates ++ [u] } }

/-- The oldest update in transit arrives (R53): updates arrive in the order sent (log 11). -/
def deliverUpdate (s : State) : State :=
  match s.snt.updates with
  | [] => s
  | u :: rest =>
    let r := applyUpdate u s.snt
    arrive r.2 { s with snt := { r.1 with updates := rest } }

/-- So many of the updates in transit arrive, oldest first. -/
def deliverSome : Nat → State → State
  | 0, s => s
  | n + 1, s => deliverSome n (deliverUpdate s)

/-- Every update sent before now arrives: a question to the Seen Table follows what was sent to it earlier (log 11). -/
def deliverUpdates (s : State) : State := deliverSome s.snt.updates.length s

/-! ### Resolution (R55, R56) -/

/-- R55: the outcome, from the card's stamp and the pending sequence. -/
def resolutionOf (stamp : StampStanding) (pending : Option Half) : Resolution :=
  match stamp with
  | .damaged => .damaged
  | .absent => .notLanded
  | .intact st => if pending = some st.sequence then .landed else .notLanded

/-- R55: the record after a resolution. -/
def resolvedRecord (o : Resolution) (r : SeenRecord) : SeenRecord :=
  match o with
  | .landed => { r with ride := localRide r.ride, stamp := .done, pendingSequence := none }
  | .notLanded => { r with stamp := .none, pendingSequence := none }
  | .damaged => { r with stamp := .damaged, pendingSequence := none }

/-- R56: the rides left of a RESOLVED entry. -/
def resolvedRides (o : Resolution) (stamp : StampStanding) : Option Byte :=
  match o, stamp with
  | .landed, .intact st => some st.rides
  | _, _ => none

/-- R55, R56: the resolution at a consult for a card, with its claims in order; none where the record does not stand
UNCERTAIN. -/
def resolve (cred : Cred) (stamp : StampStanding) (ctx : ContextAnswer) (t : SeenTable) :
    Option (SeenTable × List JournalJob) :=
  match findSeen cred t with
  | none => none
  | some r =>
    if r.stamp = .uncertain then
      let o := resolutionOf stamp r.pendingSequence
      let r' := resolvedRecord o r
      some (replaceSeen r' t,
        .entry (resolvedEntry cred ctx r.place (resolvedRides o stamp) o) .card
          :: (if o = .landed then localConflict ctx r r' else []))
    else none

/-! ### Peer notes (R59, R60) -/

/-- The record a note inserts (R59). -/
def peerRecord (n : PeerNote) : SeenRecord :=
  { cred := n.cred, number := 0, source := .peer, firstVerdict := none, firstStop := n.stop
    firstMinute := n.minute, lastStop := n.stop, count := 1
    ride := if n.ride then .peer else .none
    peerConductor := if n.ride then some n.conductor else none
    stamp := .none, pendingSequence := none, place := none }

/-- R59: a record met by a note. A ride that makes PEER or BOTH names the note's conductor where none is named. -/
def meetNote (n : PeerNote) (r : SeenRecord) : SeenRecord :=
  let m := meetAgain n.stop r
  if n.ride then
    { m with
      ride := peerRide r.ride
      peerConductor := if r.ride = .none ∨ r.ride = .localRide then some (r.peerConductor.getD n.conductor)
        else r.peerConductor }
  else m

/-- The merge in progress: the table, the counts, and the CONFLICT entries to claim in buffer order. -/
structure Merge where
  table : SeenTable
  counts : NoteCounts := {}
  claims : List JournalJob := []

/-- R59: one note merged, by the first case that fits it. -/
def mergeNote (c : RunningContext) (n : PeerNote) (m : Merge) : Merge :=
  if n.conductor = c.conductor then { m with counts := { m.counts with ignored := m.counts.ignored + 1 } }
  else match findSeen n.cred m.table with
    | none =>
      if m.table.counter = .exhausted then { m with counts := { m.counts with ignored := m.counts.ignored + 1 } }
      else { m with
        table := insertSeen (peerRecord n) m.table
        counts := { m.counts with inserted := m.counts.inserted + 1 } }
    | some r =>
      if n.ride = true ∧ r.ride = .localRide then
        { m with
          table := replaceSeen (meetNote n r) m.table
          counts := { m.counts with conflicts := m.counts.conflicts + 1 }
          claims := m.claims ++ [.entry
            (conflictEntry n.cred ⟨c.trip, c.day, n.minute, n.stop, c.conductor⟩ r.place n.conductor) .note] }
      else { m with
        table := replaceSeen (meetNote n r) m.table
        counts := { m.counts with merged := m.counts.merged + 1 } }

/-- R58: the notes of a task merged one after another in buffer order. -/
def mergeNotes (c : RunningContext) (notes : List PeerNote) (t : SeenTable) : Merge :=
  notes.foldl (fun m n => mergeNote c n m) { table := t }

/-! ### Export (R62, R63) -/

/-- R62: the LOCAL records above the after-number, in rising insertion number. -/
def localAbove (after : Word) (t : SeenTable) : List SeenRecord :=
  t.records.filter fun r => r.source == .localPart && decide (after < r.number)

/-- R63: the answer of an export that writes the given records of those gathered. -/
def exportSummary (gathered : List SeenRecord) (capacity : Nat) (counter : InsertionCounter) : AnswerBody :=
  let written := gathered.take capacity
  exportAnswer written.length ((written.getLast?.map SeenRecord.number).getD 0) (decide (capacity < gathered.length))
    counter

end Sys2Proof.Machine
end

