-- ==== Sys2Proof/Machine/Sheet.lean ====
section
/-! DEFINITION. The Sheet Scanner's scans (07_the_inspection_sheet.md, 7.3) and the wake from DOZE that a scan brings
(R162): where a scan begins and ends, which slot comes next, where the cursor goes, and how a task completes. -/

namespace Sys2Proof.Machine

/-- R164: a move to RUN raises WOKE; the wake and sense timers stop and the sense reference becomes none; the card-near
option is no outside DOZE (R158). A check of a wake-timer expiry that still waits for the end of a sense pulse is dropped
(log 22). -/
def wakeToRun (s : State) : State :=
  raiseEvent evWoke
    { s with
      pev := { s.pev with
        power := .run
        wakeTimer := none
        dozeJob := none
        cardNear := false
        senseTimer := false
        senseReference := none } }

/-- The slots of the tasks in the card hold: with the task in hand, the list of held slots of R127. -/
def heldSlots (s : State) : List Nat := s.clk.hold.map HeldTask.slot

/-- The list of held slots of R127: the tasks taken and not yet completed, a task counting as taken from the event at which
TAKEN is asked for (log 44). The POSTED target of a CANCEL, which never enters the hold (R108), is not on it between its TAKEN
and its DONE (DESIGN CHOICE, log 43). -/
def heldList (s : State) : List Nat :=
  heldSlots s ++
    match s.ssc.scan with
    | none => []
    | some sc =>
      match sc.phase with
      | .readState | .readHead | .readRequest _ => []
      | .writeTaken _ _ | .handed _ | .serving _ _ | .writeAnswer _ _ | .writeDone _ => [sc.index]

/-- The scan in progress, set. -/
def setScan (sc : Scan) (s : State) : State := { s with ssc := { s.ssc with scan := some sc } }

/-- R134: from an index, with so many slots still to examine, the next slot not held and how many are left after it. -/
def nextUnheld (held : List Nat) (slots : Nat) : Nat → Nat → Option (Nat × Nat)
  | _, 0 => none
  | i, n + 1 => if i ∈ held then nextUnheld held slots ((i + 1) % slots) n else some (i, n)

/-- R134: a slot is examined by reading its state. -/
def examine (sc : Scan) (s : State) : State :=
  askRead .scan (slotAddress s sc.index 0) 1 (setScan { sc with phase := .readState } s)

/-- R133: the time the poll timer runs for, none where it does not run. -/
def pollPeriod (s : State) : Option Nat :=
  if s.ssc.pollInterval = 0 ∨ scansAllowed s = false then none
  else if s.pev.power = .reduced then some (4 * s.ssc.pollInterval) else some s.ssc.pollInterval

/-- R133: the poll timer is started afresh where it is to run. -/
def startPoll (s : State) : State := { s with ssc := { s.ssc with pollTimer := pollPeriod s } }

/-- What follows a scan that is not followed by another: the poll timer in RUN and REDUCED (R133), the wake timer with the
same period after a DOZE scan that took no slot (R162). -/
def afterScan (s : State) : State :=
  if scansAllowed s then startPoll s
  else match s.pev.dozeJob with
    | some (.scanning period) => { s with pev := { s.pev with wakeTimer := some period, dozeJob := none } }
    | _ => s

/-- R133, R134: a scan begins at the cursor, with the poll timer stopped and the extra scan no longer pending. -/
def beginScan (s : State) : State :=
  let s := { s with ssc := { s.ssc with pollTimer := none, extraScan := false } }
  match nextUnheld (heldSlots s) (slotCount s) s.ssc.cursor (slotCount s) with
  | none => afterScan s
  | some (i, n) =>
    examine { index := i, remaining := n, leftPosted := [], lastTaken := none, cardPassed := false, phase := .readState } s

/-- R136: the scan cursor at the end of a scan. -/
def cursorAfter (sc : Scan) (s : State) : Nat :=
  match sc.leftPosted.head?, sc.lastTaken with
  | some i, _ => i
  | none, some t => (t + 1) % slotCount s
  | none, none => s.ssc.cursor

/-- A scan is over, with the cursor set (R136). -/
def closeScan (sc : Scan) (s : State) : State :=
  { s with ssc := { s.ssc with scan := none, cursor := cursorAfter sc s } }

/-- The end of a scan: the extra scan pending begins (R133), or what follows a scan. -/
def endScan (sc : Scan) (s : State) : State :=
  let s := closeScan sc s
  if scansAllowed s && s.ssc.extraScan then beginScan s else afterScan s

/-- The scan moves on from the slot in hand; in HALTING it ends (R137). -/
def goOn (sc : Scan) (s : State) : State :=
  if s.mpt.runState = .running then
    match nextUnheld (heldSlots s) (slotCount s) ((sc.index + 1) % slotCount s) sc.remaining with
    | none => endScan sc s
    | some (i, n) => examine { sc with index := i, remaining := n } s
  else endScan sc s

/-- R134: TAKEN is written into the slot in hand; a DOZE scan wakes the part at the first slot it takes (R162), which it does at
this event, when the write of TAKEN is asked for (DESIGN CHOICE, log 44). -/
def takeSlot (sc : Scan) (tag : Half) (p : Parsed) (s : State) : State :=
  let s := if s.pev.power = .doze then wakeToRun s else s
  askSlotState .scan sc.index slotTaken (setScan { sc with lastTaken := some sc.index, phase := .writeTaken tag p } s)

/-- Whether a target of a POWER ends the scan that took it (R160). -/
def endsScan (target : PowerState) : Bool := target == .doze || target == .sleep

/-- R131: the task in hand completes; its answer is written first. -/
def completeTask (sc : Scan) (tag : Half) (a : AnswerBody) (change : Option PowerChange) (s : State) : State :=
  askAnswer .scan sc.index tag a (setScan { sc with phase := .writeAnswer tag change } s)

/-- The task in hand stays with its owner, at a stage. -/
def serveOn (sc : Scan) (t : Task) (g : ServeStage) (s : State) : State := setScan { sc with phase := .serving t g } s

/-- The task in hand whose owner is to take it, with the scan. -/
def handedTask (s : State) : Option (Scan × Task) :=
  match s.ssc.scan with
  | none => none
  | some sc =>
    match sc.phase with
    | .handed t => some (sc, t)
    | .readState | .readHead | .readRequest _ | .writeTaken _ _ | .serving _ _ | .writeAnswer _ _ | .writeDone _ => none

/-- The task in hand and the stage its owner has brought it to, with the scan. -/
def servedTask (s : State) : Option (Scan × Task × ServeStage) :=
  match s.ssc.scan with
  | none => none
  | some sc =>
    match sc.phase with
    | .serving t g => some (sc, t, g)
    | .readState | .readHead | .readRequest _ | .writeTaken _ _ | .handed _ | .writeAnswer _ _ | .writeDone _ => none

end Sys2Proof.Machine
end

