-- ==== Sys2Proof/Machine/Field.lean ====
section
/-! DEFINITION. The field and its arbiter (05_card_sessions.md, 5.2; 06_field_monitor.md): turning the field on and off,
passive checks and their abandonment, the beginning and end of sessions in the card hold, and the field forced off. -/

namespace Sys2Proof.Machine

/-! ### Passive checks (R116, R123) -/

/-- R123: the FIELD TEST whose check runs completes with a result. -/
def finishFieldTest (r : FieldTestResult) (s : State) : State :=
  match servedTask s with
  | some (sc, t, .antennaCheck) => completeTask sc t.tag (fieldTestAnswer r s.fmn) none s
  | _ => s

/-- R162: the scan that follows the check of a wake-timer expiry, where the part is still in DOZE. -/
def scanAfterCheck (s : State) : State :=
  match s.pev.dozeJob with
  | some (.checking period) => beginScan { s with pev := { s.pev with dozeJob := some (.scanning period) } }
  | _ => s

/-- R116: a passive check is abandoned, with no finding and no latch; a FIELD TEST completes with the given result. -/
def abandonPassive (r : FieldTestResult) (s : State) : State :=
  match s.fmn.passive with
  | none => s
  | some .fieldTest => finishFieldTest r { s with fmn := { s.fmn with passive := none } }
  | some .doze => scanAfterCheck { s with fmn := { s.fmn with passive := none } }

/-- R116: the OVERCURRENT flag or the THERMAL SHUTDOWN flag stops a passive check. -/
def passiveSkipped (s : State) : Bool := s.fmn.overcurrent || s.fmn.thermalShutdown

/-- R162: the check of a wake-timer expiry begins, or is skipped and the scan follows at once. -/
def beginDozeCheck (period : Nat) (s : State) : State :=
  if passiveSkipped s then beginScan { s with pev := { s.pev with dozeJob := some (.scanning period) } }
  else
    { s with
      fmn := { s.fmn with passive := some .doze }
      pev := { s.pev with dozeJob := some (.checking period) } }

/-! ### The field on and off (R86, R115) -/

/-- R115: the finding when the field is turned on, with the current at that instant free (log 8). -/
def findingAtTurnOn (draw : Nat) (f : Finding) : Finding :=
  if Config.openThreshold ≤ Config.turnOnCurrent draw then .connected else f

/-- R86: a grant turns the field on for a holder; a passive check in progress is abandoned (R116). -/
def turnOn (h : FieldHolder) (s : State) : State :=
  abandonPassive .busy
    { s with
      clk := { s.clk with holder := h }
      fmn := { s.fmn with finding := findingAtTurnOn s.draws s.fmn.finding, detected := false }
      draws := s.draws + 1 }

/-- R86: the field goes off and the holder becomes NONE. -/
def turnOff (s : State) : State :=
  { s with clk := { s.clk with holder := .none }, fmn := { s.fmn with detected := false } }

/-! ### Sessions of the card hold (R88, R90, R102) -/

/-- The session of a held task, set. -/
def setSession (slot : Nat) (x : Session) (s : State) : State :=
  { s with clk := { s.clk with
      hold := s.clk.hold.map fun t => if t.slot = slot then { t with session := x } else t } }

/-- R102: a session in CLOSING hands its answer to the Sheet Scanner, which writes it. -/
def handOver (t : HeldTask) (e : SessionEnd) (s : State) : State :=
  askAnswer (.card t.slot) t.slot t.tag (sessionAnswer e) (setSession t.slot (.closing e {} .writeAnswer) s)

/-- R102, R85: the head's session is over: the field is released if it holds it, and the deadline, the tries and the
pending-stamp data go. -/
def releaseHead (s : State) : State :=
  let s := if s.clk.holder = .session then turnOff s else s
  { s with clk := { s.clk with deadline := none, tries := 0, pendingStamp := none } }

/-- R96, R101, R102: the head's session enters CLOSING; its answer is handed over when the Journal Writer owes nothing. -/
def closeHead (t : HeldTask) (e : SessionEnd) (owed : Owed) (s : State) : State :=
  if owed = {} then handOver t e (releaseHead s)
  else setSession t.slot (.closing e owed .awaitJournal) (releaseHead s)

/-- The card ID, if the card has answered HELLO (R27). -/
def cardIdOf (s : State) : Option Cred := s.clk.identity.map CardIdentity.cred

/-- R94: the presence interval in force. -/
def presenceInterval (s : State) : Nat := if s.fmn.reducedDuty ∨ s.pev.power = .reduced then 200 else 50

/-- R94: a WAKE is sent, a single try, with the interval in force. -/
def sendWake (s : State) : State := { s with clk := { s.clk with tries := 1, interval := presenceInterval s } }

/-- R90: the grant of the field to the head: PRESENCE, the deadline set, and the first WAKE. -/
def grantHead (t : HeldTask) (s : State) : State :=
  let s := setSession t.slot .presence (turnOn .session s)
  sendWake { s with clk := { s.clk with deadline := some t.req.timeout } }

/-- R90, R106: a task becomes head: FIELD FAULT at once under a block; otherwise its claim is granted, or waits for the end
of a sense pulse (R86). -/
def beginSession (t : HeldTask) (s : State) : State :=
  if fieldBlocked s then handOver t (.coded .fieldFault none) s
  else if s.clk.holder = .none then grantHead t s
  else s

/-- R88: the claim of a head in WAITING FIELD is taken up. -/
def beginHead (s : State) : State :=
  match s.clk.hold with
  | [] => s
  | t :: _ => if t.session = .waitingField then beginSession t s else s

/-- R88, R102: a task leaves the hold at the event at which its slot is written DONE; if it was the head, the second becomes
head and its session begins. -/
def leaveHold (slot : Nat) (s : State) : State :=
  let wasHead := (s.clk.hold.head?.map HeldTask.slot) == some slot
  let rest := s.clk.hold.filter fun t => t.slot != slot
  if wasHead then
    beginHead { s with clk := { s.clk with hold := rest, identity := none } }
  else { s with clk := { s.clk with hold := rest } }

/-- R105, R109, R110: the head's session is ended while its decision point is in progress: no update is sent, and a
resolution made at the consult stands. -/
def endAsking (t : HeldTask) (code : Completion) (s : State) : State :=
  closeHead t (.coded code (cardIdOf s)) {} (disownClaims s)

/-- R105, R109, R110: the head's session is ended in DECIDING: its waiting reservation claim is to be filled VOID when it is
granted. A resolution made at the consult stands. -/
def endDeciding (t : HeldTask) (p : RidePlan) (code : Completion) (cause : VoidCause) (s : State) : State :=
  closeHead t (.coded code (cardIdOf s)) {} (orphanClaims (voidEntry p cause) s)

/-! ### The outcome of STAMPING (R101) -/

/-- R101, R149: the contents of the reservation's fill. -/
def outcomeEntry (o : StampOutcome) (p : RidePlan) (ps : PendingStamp) : EntryContents :=
  match o with
  | .landed => stampEntry .ride p ps.stamp.rides
  | .notLanded => voidEntry p .stampFailed
  | .uncertain => stampEntry .uncertain p ps.stamp.rides

/-- R101: the update sent to the Seen Table. -/
def outcomeUpdate (o : StampOutcome) (p : RidePlan) (ps : PendingStamp) : SeenUpdate :=
  ⟨p.cred,
    match o with
    | .landed => .landed p.place
    | .notLanded => .stampFailed p.place
    | .uncertain => .uncertain p.place ps.stamp.sequence,
    p.ctx⟩

/-- R101, R19: the answer of the outcome. -/
def outcomeDraft (o : StampOutcome) (d : Draft) (p : RidePlan) (ps : PendingStamp) : Draft :=
  match o with
  | .landed =>
    { d with verdict := .rideTaken, reason := none, ridesLeft := some (p.rides - 1), journalSerial := some ps.serial }
  | .notLanded =>
    { d with
      verdict := .rideNotTaken, reason := some .stampFailed, ridesLeft := some p.rides, journalSerial := some ps.serial }
  | .uncertain =>
    { d with
      verdict := .stampUncertain, reason := none, ridesLeft := some (p.rides - 1), journalSerial := some ps.serial }

/-- R101: the outcome of STAMPING: the fill and the update are sent, and the session enters CLOSING. The fill reaches the
Journal Writer at this event, before a CONFLICT claim of the update (log 39). -/
def settleStamp (t : HeldTask) (d : Draft) (p : RidePlan) (o : StampOutcome) (s : State) : State :=
  match s.clk.pendingStamp with
  | none => s
  | some ps =>
    closeHead t (.ok (outcomeDraft o d p ps)) { fill := true }
      (arrive [.fill (outcomeEntry o p ps)] (sendUpdate (outcomeUpdate o p ps) s))

/-! ### The field taken from its holder (R87, R105) -/

/-- R86, R162: the sense has released the field: a waiting check of a wake-timer expiry begins, unless a wake has dropped it
(log 22), and a waiting claim of the head is granted or refused. -/
def afterPulse (s : State) : State :=
  beginHead
    (match s.pev.dozeJob with
      | some (.awaitPulse period) => beginDozeCheck period s
      | _ => s)

/-- R105: the head session ends as its state requires when its field is forced off. -/
def fieldFailed (t : HeldTask) (s : State) : State :=
  match t.session with
  | .presence | .reading => closeHead t (.coded .fieldFault (cardIdOf s)) {} s
  | .asking _ => endAsking t .fieldFault s
  | .deciding _ p _ => endDeciding t p .fieldFault .fieldFault s
  | .stamping _ d p => settleStamp t d p .uncertain s
  | .waitingField | .closing _ _ _ => s

/-- R87: the field is forced off and the holder is told: a sense pulse ends with no finding, a session as R105 gives. -/
def forceOff (s : State) : State :=
  match s.clk.holder with
  | .none => s
  | .sense => afterPulse (turnOff s)
  | .session =>
    match s.clk.hold with
    | [] => turnOff s
    | t :: _ => fieldFailed t (turnOff s)

/-! ### Temperature (R118, R119) -/

/-- The range of the Field Monitor's sensor (R112). -/
def clampTemp (t : Int) : Int := max (-40) (min 150 t)

/-- R118: the die rises to 105 degrees or above. -/
def warm (s : State) : State :=
  latchWarning { s with fmn := { s.fmn with reducedDuty := true } }

/-- R119: the die rises to 125 degrees or above: the flag, the block, the field forced off, and a passive check
abandoned. -/
def shutDown (s : State) : State :=
  abandonPassive .skipped (forceOff (latchShutdown { s with fmn := { s.fmn with shutdownBlock := true } }))

/-- R163: when a block is lifted in DOZE, the sense reference becomes none. -/
def blockLifted (s : State) : State :=
  if s.pev.power = .doze then { s with pev := { s.pev with senseReference := none } } else s

/-- R119: the block lifts below 110 degrees. -/
def liftShutdown (s : State) : State :=
  if s.fmn.shutdownBlock then blockLifted { s with fmn := { s.fmn with shutdownBlock := false } } else s

/-- R86, R118: the drive of the field: full for the pulses of the sense and for every exchange, and under reduced duty lowered
between the exchanges of a session. -/
def fieldDrive (s : State) : Drive :=
  match s.clk.holder with
  | .none => .off
  | .sense => .full
  | .session => if s.fmn.reducedDuty && s.clk.tries == 0 then .lowered else .full

/-- R118: reduced duty lifts at 95 degrees or below. -/
def liftReducedDuty (s : State) : State := { s with fmn := { s.fmn with reducedDuty := false } }

/-- The temperature has moved to a value, and every threshold of R118 and R119 that this crosses is crossed (log 7). -/
def dieMoves (t : Int) (s : State) : State :=
  let s := { s with fmn := { s.fmn with dieTemp := clampTemp t } }
  let s := if 105 ≤ clampTemp t then warm s else s
  let s := if 125 ≤ clampTemp t then shutDown s else s
  let s := if clampTemp t < 110 then liftShutdown s else s
  if clampTemp t ≤ 95 then liftReducedDuty s else s

/-- A temperature that crosses no threshold from where the Field Monitor stands (log 7). -/
def tempQuiet (t : Int) (f : FieldMonitor) : Bool :=
  decide (-40 ≤ t) && decide (t ≤ 150)
  && (if f.shutdownBlock then decide (110 ≤ t) else decide (t < 125))
  && (if f.reducedDuty then decide (95 < t) else decide (t < 105))

/-- R112, R122: the temperature is measured; a measurement that would cross a threshold comes as a command of its own, so
here it is not taken (log 7). -/
def measure (t : Int) (s : State) : State :=
  if tempQuiet t s.fmn then { s with fmn := { s.fmn with dieTemp := t } } else s

end Sys2Proof.Machine
end

