-- ==== Sys2Proof/Machine/FieldEvents.lean ====
section
/-! DEFINITION. The events of the antenna and of the die (06_field_monitor.md, 6.2 to 6.4): detections, the rise of the
current, the thresholds of temperature, and the end of a passive check. -/

namespace Sys2Proof.Machine

/-! ### The active checks (R115, R117) -/

/-- R115: a detection: the finding is OPEN and the flag latches; under the stop option the block comes into force and the
field is forced off, otherwise the field stays on. -/
def antennaLost (s : State) : State :=
  let s := latchOpen { s with fmn := { s.fmn with finding := .openAntenna } }
  if s.fmn.stopOnOpen then forceOff { s with fmn := { s.fmn with openBlock := true } }
  else { s with fmn := { s.fmn with detected := true } }

/-- ANTENNA_OPEN_DETECTION (R115): made while a session holds the field, once until the current has risen again; a sense
pulse of 1 ms ends before 2 ms below the threshold can run. -/
def execAntennaOpenDetection (s : State) : Host.Outcome State Fault Refusal :=
  if s.clk.holder = .session ∧ s.fmn.detected = false then settled (antennaLost s) else .next s

/-- ANTENNA_CURRENT_RISE (R115): with the field on, the finding becomes CONNECTED. -/
def execAntennaCurrentRise (s : State) : Host.Outcome State Fault Refusal :=
  if fieldOn s then .next { s with fmn := { s.fmn with finding := .connected, detected := false } } else .next s

/-- R117: the flag latches, the block comes into force, and the field is forced off. -/
def overcurrent (s : State) : State :=
  forceOff (latchOvercurrent { s with fmn := { s.fmn with overcurrentBlock := true } })

/-- OVERCURRENT_DETECTION (R117): made while the field is on, whoever holds it. -/
def execOvercurrentDetection (s : State) : Host.Outcome State Fault Refusal :=
  if fieldOn s then settled (overcurrent s) else .next s

/-! ### Temperature (R118, R119; log 7) -/

/-- THERMAL_WARNING (R118): the die rises to 105 degrees or above. -/
def execThermalWarning (t : Int) (s : State) : Host.Outcome State Fault Refusal :=
  if 105 ≤ t then settled (dieMoves t s) else .next s

/-- REDUCED_DUTY_LIFT (R118): the die falls to 95 degrees or below. -/
def execReducedDutyLift (t : Int) (s : State) : Host.Outcome State Fault Refusal :=
  if t ≤ 95 then settled (dieMoves t s) else .next s

/-- THERMAL_SHUTDOWN (R119): the die rises to 125 degrees or above. -/
def execThermalShutdown (t : Int) (s : State) : Host.Outcome State Fault Refusal :=
  if 125 ≤ t then settled (dieMoves t s) else .next s

/-- SHUTDOWN_BLOCK_LIFT (R119): the die falls below 110 degrees. -/
def execShutdownBlockLift (t : Int) (s : State) : Host.Outcome State Fault Refusal :=
  if t < 110 then settled (dieMoves t s) else .next s

/-! ### The end of a passive check (R116, R123) -/

/-- R116: the finding, and for OPEN the latch and, under the stop option, the block. -/
def passiveFinding (carried : Bool) (s : State) : State :=
  if carried then { s with fmn := { s.fmn with finding := .connected } }
  else
    let s := latchOpen { s with fmn := { s.fmn with finding := .openAntenna } }
    if s.fmn.stopOnOpen then { s with fmn := { s.fmn with openBlock := true } } else s

/-- R116, R123, R162: a check ends with a finding; a FIELD TEST completes with it, and the scan of a wake-timer expiry
follows. -/
def passiveEnds (use : PassiveUse) (carried : Bool) (s : State) : State :=
  let s := passiveFinding carried { s with fmn := { s.fmn with passive := none } }
  match use with
  | .fieldTest => finishFieldTest (if carried then .connected else .openAntenna) s
  | .doze => scanAfterCheck s

/-- PASSIVE_CHECK_END (R116): the test current has run for 1 ms; the die temperature is measured for the answer (R123). -/
def execPassiveCheckEnd (carried : Bool) (dieTemp : Int) (s : State) : Host.Outcome State Fault Refusal :=
  match s.fmn.passive with
  | none => .next s
  | some use => settled (passiveEnds use carried (measure dieTemp s))

end Sys2Proof.Machine
end

