-- ==== Sys2Proof/Machine/DenyList.lean ====
section
/-! DEFINITION. The Deny List block (04_the_deny_list.md) as functions of its own state: the count filter, lookups, loads,
deltas and prunes. Each change is one event (R70), so each is one function. -/

namespace Sys2Proof.Machine

/-! ### The count filter (R67, R68) -/

/-- R67: the upper 12 bits of the CRC-16 of the ID's eight bytes in stored order. -/
def cellOf (c : Cred) : Fin 4096 := ((crc16 (credBytes c)).extractLsb' 4 12).toFin

/-- R68: a cell's count when an entry is added. -/
def cellUp (n : BitVec 4) : BitVec 4 := if n = 15 then 15 else n + 1

/-- R68: a cell's count when an entry is removed. -/
def cellDown (n : BitVec 4) : BitVec 4 := if n = 15 then 15 else if n = 0 then 0 else n - 1

/-- The filter after an entry of the given ID is added. -/
def filterAdd (f : Vector (BitVec 4) 4096) (c : Cred) : Vector (BitVec 4) 4096 :=
  f.set (cellOf c) (cellUp f[cellOf c])

/-- The filter after an entry of the given ID is removed. -/
def filterRemove (f : Vector (BitVec 4) 4096) (c : Cred) : Vector (BitVec 4) 4096 :=
  f.set (cellOf c) (cellDown f[cellOf c])

/-- The filter with every cell 0. -/
def filterZero : Vector (BitVec 4) 4096 := Vector.replicate 4096 0

/-- The filter after the entries are added one by one. -/
def filterAddAll (f : Vector (BitVec 4) 4096) (es : List DenyEntry) : Vector (BitVec 4) 4096 :=
  es.foldl (fun g e => filterAdd g e.cred) f

/-- R68: a recount, every cell exactly the number of entries that fall into it, or 15. -/
def recount (es : List DenyEntry) : Vector (BitVec 4) 4096 := filterAddAll filterZero es

/-! ### Lookup (R69) -/

/-- The entry of an ID in the table. -/
def findEntry (c : Cred) (es : List DenyEntry) : Option DenyEntry := es.find? fun e => e.cred == c

/-- R69: the result of a lookup, none for not denied. -/
def lookup (c : Cred) (d : DenyList) : Option DenyEntry :=
  if d.state = .invalid ∨ d.filter[cellOf c] = 0 then none else findEntry c d.table

/-- R69: a search that follows a nonzero cell and does not find the ID counts as a false hit. -/
def afterLookup (c : Cred) (d : DenyList) : DenyList :=
  if d.state ≠ .invalid ∧ d.filter[cellOf c] ≠ 0 ∧ findEntry c d.table = none then
    { d with falseHits := saturate d.falseHits }
  else d

/-! ### Replacing the list (R71 to R75) -/

/-- R73: every ID above the one before it, the first above the highest loaded. -/
def ascending : Option Cred → List DenyEntry → Bool
  | _, [] => true
  | none, e :: es => ascending (some e.cred) es
  | some c, e :: es => decide (c < e.cred) && ascending (some e.cred) es

/-- The highest ID after the entries of a chunk. -/
def highestAfter (h : Option Cred) (es : List DenyEntry) : Option Cred :=
  match es.getLast? with
  | none => h
  | some e => some e.cred

/-- R73: the failure of a load. -/
def failLoad (d : DenyList) : DenyList :=
  { d with table := [], filter := filterZero, load := none, state := .invalid, generation := 0 }

/-- R72, steps 1 to 3: what a FIRST does before its chunk is applied. -/
def beginLoad (target : Word) (d : DenyList) : DenyList :=
  { d with
    discards := if d.staging.isSome then saturate d.discards else d.discards
    staging := none
    table := []
    filter := filterZero
    state := .loading
    load := some { next := 0, target := target, highest := none } }

/-- R73: a chunk in LOADING is checked, with the entries it carries or the reason it fails for. -/
def checkChunk (r : ReplaceRequest) (data : List Byte) (load : Load) (d : DenyList) : Except Reason (List DenyEntry) :=
  if r.chunk ≠ load.next ∨ r.target ≠ load.target then .error .sequence
  else match readEntries r.count data with
    | none => .error .badEntry
    | some es =>
      if ascending load.highest es = false then .error .order
      else if Config.denyEntries < d.table.length + es.length then .error .capacity
      else .ok es

/-- R73, R74: a good chunk is applied; a LAST completes the load. -/
def applyChunk (r : ReplaceRequest) (es : List DenyEntry) (load : Load) (d : DenyList) : DenyList :=
  let table := d.table ++ es
  if r.last then
    { d with table := table, filter := recount table, generation := load.target, load := none, state := .ready }
  else
    { d with
      table := table
      filter := filterAddAll d.filter es
      load := some { load with next := load.next + 1, highest := highestAfter load.highest es } }

/-- R73: the chunk of a load in progress, with its answer. -/
def loadChunk (r : ReplaceRequest) (data : List Byte) (discarded : Option Nat) (d : DenyList) : DenyList × AnswerBody :=
  match d.load with
  | none => (failLoad d, replaceAnswer (some .sequence) 0 discarded (failLoad d))
  | some load =>
    match checkChunk r data load d with
    | .error why => (failLoad d, replaceAnswer (some why) 0 discarded (failLoad d))
    | .ok es => (applyChunk r es load d, replaceAnswer none es.length discarded (applyChunk r es load d))

/-- R72, R73: a DENY REPLACE whose buffer has been read, with its answer. -/
def replaceList (r : ReplaceRequest) (data : List Byte) (d : DenyList) : DenyList × AnswerBody :=
  if r.first then loadChunk r data (d.staging.map fun x => x.ops.length) (beginLoad r.target d)
  else if d.state = .loading then loadChunk r data none d
  else (d, replaceAnswer (some .notLoading) 0 none d)

/-! ### Changing the list by delta (R76 to R80) -/

/-- R77, R78: the staging area is closed and its operations discarded. -/
def discardStaging (d : DenyList) : DenyList :=
  { d with staging := none, discards := saturate d.discards }

/-- The table with an entry at its place in ascending order, in the place of one of the same ID. -/
def placeEntry (e : DenyEntry) : List DenyEntry → List DenyEntry
  | [] => [e]
  | x :: xs =>
    if e.cred < x.cred then e :: x :: xs
    else if e.cred = x.cred then e :: xs
    else x :: placeEntry e xs

/-- R79: one operation of a commit, with the count of its kind. -/
def applyOp (op : DeltaOp) (d : DenyList × DeltaCounts) : DenyList × DeltaCounts :=
  match op with
  | .add e =>
    if (findEntry e.cred d.1.table).isSome then
      ({ d.1 with table := placeEntry e d.1.table }, { d.2 with replaced := d.2.replaced + 1 })
    else
      ({ d.1 with table := placeEntry e d.1.table, filter := filterAdd d.1.filter e.cred },
        { d.2 with added := d.2.added + 1 })
  | .remove c =>
    if (findEntry c d.1.table).isSome then
      ({ d.1 with table := d.1.table.filter (fun x => x.cred != c), filter := filterRemove d.1.filter c },
        { d.2 with removed := d.2.removed + 1 })
    else (d.1, { d.2 with noOps := d.2.noOps + 1 })

/-- The operations of a delta applied in staged order. -/
def applyOps (ops : List DeltaOp) (d : DenyList) : DenyList × DeltaCounts := ops.foldl (fun x op => applyOp op x) (d, {})

/-- R79: the capacity test and the commit of the staged operations, with the answer. The table's length after every
operation is the count the test takes. -/
def commitDelta (ops : List DeltaOp) (d : DenyList) : DenyList × AnswerBody :=
  let r := applyOps ops d
  if Config.denyEntries < r.1.table.length then
    (discardStaging d, deltaAnswer (some .capacity) none (discardStaging d))
  else
    let done := { r.1 with generation := d.generation + 1, staging := none }
    (done, deltaAnswer none (some r.2) done)

/-- R78: a chunk is staged onto an open staging area, and committed at LAST (R79). -/
def stageChunk (r : DeltaRequest) (data : List Byte) (st : Staging) (d : DenyList) : DenyList × AnswerBody :=
  if r.chunk ≠ st.next then (discardStaging d, deltaAnswer (some .sequence) none (discardStaging d))
  else match readOps r.count data with
    | none => (discardStaging d, deltaAnswer (some .badEntry) none (discardStaging d))
    | some ops =>
      if Config.stagingOps < st.ops.length + ops.length then
        (discardStaging d, deltaAnswer (some .stagingFull) none (discardStaging d))
      else
        let staged := { d with staging := some { ops := st.ops ++ ops, next := st.next + 1 } }
        if r.last then commitDelta (st.ops ++ ops) staged else (staged, deltaAnswer none none staged)

/-- R77: a FIRST opens a new staging area, or is refused with the area closed. -/
def openStaging (r : DeltaRequest) (data : List Byte) (d : DenyList) : DenyList × AnswerBody :=
  let d := if d.staging.isSome then discardStaging d else d
  if r.base ≠ d.generation then (d, deltaAnswer (some .generation) none d)
  else if r.chunk ≠ 0 then (d, deltaAnswer (some .sequence) none d)
  else stageChunk r data { ops := [], next := 0 } { d with staging := some { ops := [], next := 0 } }

/-- R76 to R79: a DENY DELTA whose buffer has been read, with its answer. -/
def deltaList (r : DeltaRequest) (data : List Byte) (d : DenyList) : DenyList × AnswerBody :=
  if d.state ≠ .ready then (d, deltaAnswer (some .notReady) none d)
  else if r.first then openStaging r data d
  else match d.staging with
    | none => (d, deltaAnswer (some .sequence) none d)
    | some st => stageChunk r data st d

/-! ### Pruning (R81) -/

/-- R81: the list after a prune with the given day. -/
def pruned (day : Half) (d : DenyList) : DenyList :=
  let table := d.table.filter fun e => decide (day.toNat ≤ e.expiry.toNat)
  { d with table := table, filter := recount table }

/-- R81: a DENY PRUNE, with its answer. -/
def pruneList (day : Half) (d : DenyList) : DenyList × AnswerBody :=
  if d.state ≠ .ready then (d, refusedAnswer .notReady)
  else (pruned day d, pruneAnswer (d.table.length - (pruned day d).table.length) (pruned day d))

end Sys2Proof.Machine
end

