-- ==== Sys2Proof/Machine/Verdict.lean ====
section
/-! DEFINITION. The judgement of fare records (01_the_verdict.md, 1.1 to 1.5) as pure functions of the records, the keys
and the context: the eight tests of R9, coverage (R11 to R13), and the choice among records (R14, R15). -/

namespace Sys2Proof.Machine

/-- R1: one point in time is before another. -/
def before (day : Half) (minute : Half) (day' : Half) (minute' : Half) : Bool :=
  decide (day.toNat < day'.toNat) || (day == day' && decide (minute.toNat < minute'.toNat))

/-! ### The segment and coverage (R11 to R13) -/

/-- The index of the first stop of the segment (R11): stop k, the stop of record. -/
def segmentFirst : Position → Nat
  | .atStop k => k
  | .between k => k

/-- The index of the last stop of the segment (R11). -/
def segmentLast : Position → Nat
  | .atStop k => k
  | .between k => k + 1

/-- The index of a stop code in the route table; a code of 0 counts as not found (R13). -/
def stopIndex (route : List Stop) (code : Half) : Option Nat :=
  if code = 0 then none else route.findIdx? fun s => s.code == code

/-- The zone of the stop at an index lies in a zone set (R13). -/
def zoneCovered (route : List Stop) (zones : Word) (k : Nat) : Bool :=
  match route[k]? with
  | none => false
  | some s => zones.getLsbD s.zone.toNat

/-- R13: the zone set contains the zone of every stop of the segment. -/
def coversByZones (route : List Stop) (p : Position) (zones : Word) : Bool :=
  zoneCovered route zones (segmentFirst p) && zoneCovered route zones (segmentLast p)

/-- R12: coverage by the indices of origin and destination. SINGLE and GROUP cover forward travel alone. -/
def coversByStops (cls : ProductClass) (p : Position) (o d : Nat) : Bool :=
  match cls with
  | .single | .group => decide (o ≤ segmentFirst p) && decide (segmentLast p ≤ d)
  | .returnFare | .carnet | .periodPass | .zonePass =>
    decide (min o d ≤ segmentFirst p) && decide (segmentLast p ≤ max o d)

/-- Whether a record covers the segment (R12, R13). A ZONE PASS is judged by zones, and so is a record one of whose stops
is not on the route. -/
def covers (route : List Stop) (p : Position) (cls : ProductClass) (r : FareRecord) : Bool :=
  match cls, stopIndex route r.origin, stopIndex route r.destination with
  | .zonePass, _, _ => coversByZones route p r.zones
  | _, some o, some d => coversByStops cls p o d
  | _, _, _ => coversByZones route p r.zones

/-! ### The tests of R9 -/

/-- The key a record names, none where the index is above 7 or the slot is empty (R4). -/
def keyOf (v : VerdictEngine) (index : Byte) : Option (List Byte) := (v.keys[index.toNat]?).join

/-- R5: the check value is right under a key. -/
def checkRight (key : List Byte) (r : FareRecord) : Bool := crc32 (key ++ r.covered) == r.check

/-- R4: the fields lie in their ranges. The stop codes of every class are held to it, a ZONE PASS's too, which R3 and R13
say are not read (log 36). -/
def fieldsInRange (r : FareRecord) : Bool :=
  (productClass r.classCode).isSome
  && (r.travelClass == 1 || r.travelClass == 2)
  && (productClass r.classCode != some .group || (decide (1 ≤ r.partySize.toNat) && decide (r.partySize.toNat ≤ 9)))
  && (productClass r.classCode != some .carnet || decide (r.rides.toNat ≤ 99))
  && r.origin != Config.invalidStop && r.destination != Config.invalidStop
  && minuteOk r.fromMinute && minuteOk r.untilMinute

/-- R7: the effective rides left of the record in a place. -/
def effectiveRides (stamp : StampStanding) (place : Nat) (r : FareRecord) : Byte :=
  match stamp with
  | .intact st => if st.place.toNat = place then st.rides else r.rides
  | .absent | .damaged => r.rides

/-- A ride state that shows a ride taken (R9, R18). -/
def showsRide (s : RideState) : Bool := s != .none

/-- What the tests of R9 read beside the record. -/
structure Judging where
  keys : VerdictEngine
  rcx : RunningContext
  position : Position
  stamp : StampStanding
  seated : Nat
  rideShown : Bool

/-- R9: the eight tests in order; the first that fails gives the result. -/
def testRecord (j : Judging) (place : Nat) (r : FareRecord) : PlaceResult :=
  match keyOf j.keys r.keyIndex with
  | none => .failed .unknownKey
  | some key =>
    match checkRight key r && fieldsInRange r, productClass r.classCode with
    | true, some cls =>
      if cls = .carnet ∧ j.stamp = .damaged then .failed .stampDamaged
      else if before j.rcx.day j.rcx.minute r.fromDay r.fromMinute then .failed .notYetValid
      else if before r.untilDay r.untilMinute j.rcx.day j.rcx.minute then .failed .expired
      else if j.seated = 1 ∧ r.travelClass = 2 then .failed .wrongClass
      else if covers j.rcx.route j.position cls r = false then .failed .wrongSegment
      else if cls = .carnet ∧ effectiveRides j.stamp place r = 0 ∧ j.rideShown = false then .failed .noRidesLeft
      else .usable
    | _, _ => .failed .forged

/-- The result of a record place. -/
def testPlace (j : Judging) (place : Nat) : Option FareRecord → PlaceResult
  | none => .empty
  | some r => testRecord j place r

/-- The results of the places in order. -/
def testPlaces (j : Judging) (places : List (Option FareRecord)) : List PlaceResult :=
  places.mapIdx fun p r => testPlace j p r

/-- The results where no record is tested (R16): EMPTY or NOT JUDGED. -/
def notJudged (places : List (Option FareRecord)) : List PlaceResult :=
  places.map fun r => if r.isSome then .notJudged else .empty

/-! ### The choice among records (R14, R15) -/

/-- R14: the order of preference, most preferred first. -/
def preference : List ProductClass := [.zonePass, .periodPass, .returnFare, .single, .group, .carnet]

/-- R15: the failures from highest rank to lowest. -/
def failureRank : List RecordFailure :=
  [.wrongClass, .wrongSegment, .noRidesLeft, .notYetValid, .expired, .stampDamaged, .unknownKey, .forged]

/-- A record place that is not EMPTY, with its result. -/
structure Judged where
  place : Nat
  record : FareRecord
  result : PlaceResult
  deriving DecidableEq, Repr

/-- The non-empty places with their results, lowest place first. -/
def judgedPlaces (j : Judging) (places : List (Option FareRecord)) : List Judged :=
  (places.mapIdx fun p r => r.map fun x => Judged.mk p x (testRecord j p x)).filterMap id

/-- R14: the usable record chosen, by class in the order of preference and then by place. -/
def chooseUsable (js : List Judged) : Option Judged :=
  preference.findSome? fun c => js.find? fun x => x.result == .usable && productClass x.record.classCode == some c

/-- R15: the failure named, by rank and then by place. -/
def rankFailure (js : List Judged) : Option (Judged × RecordFailure) :=
  failureRank.findSome? fun f => (js.find? fun x => x.result == .failed f).map fun x => (x, f)

/-- The party size reported (R3): the field for GROUP, 1 otherwise. -/
def partyOf (r : FareRecord) : Byte := if productClass r.classCode = some .group then r.partySize else 1

/-- The chosen place's fields in the answer (R14, R15; log 29). -/
def chosenOf (x : Judged) : Chosen :=
  ⟨x.place, x.record.classCode, x.record.travelClass, x.record.concession, partyOf x.record⟩

end Sys2Proof.Machine
end

