-- ==== Sys2Proof/Machine/Decision.lean ====
section
/-! DEFINITION. The decision point (01_the_verdict.md, 1.6 and 1.7; R51, R96, R103): the questions to the Running Context,
the Deny List and the Seen Table, each answered at an event of its block (log 10), the verdict of R16 when all three have
answered, and the claims and updates that go with it. -/

namespace Sys2Proof.Machine

/-- R46: what everything the inspection writes carries: trip 0 and stop 0 in context state NONE. -/
def contextAnswer (c : RunningContext) : ContextAnswer :=
  match c.state with
  | .none => ⟨0, c.day, c.minute, 0, c.conductor⟩
  | .active => ⟨c.trip, c.day, c.minute, currentStop c, c.conductor⟩

/-! ### The questions (R21) -/

/-- The answers of the three blocks. -/
structure Replies where
  context : RunningContext
  denied : DenyReply
  seen : SeenReply
  deriving DecidableEq, Repr

/-- The answers of the three blocks, when all have answered. -/
def Asking.replies (a : Asking) : Option Replies :=
  match a.context, a.denied, a.seen with
  | some c, some d, some x => some ⟨c, d, x⟩
  | _, _, _ => none

/-- R51, R55: the Seen Table's answer to a consult, with the table and the claims a resolution leaves. -/
def consult (q : Inspection) (ctx : ContextAnswer) (t : SeenTable) : SeenTable × Option (List JournalJob) :=
  match if q.card then resolve q.cred q.stamp ctx t else none with
  | none => (t, none)
  | some (t', jobs) => (t', some jobs)

/-- A decision point after some answers, with the claims that a resolution made at this event and the state it leaves. -/
structure Asked where
  asking : Asking
  claims : List JournalJob
  state : State

/-- R46: the Running Context answers, unless it has answered. -/
def askContext (yes : Bool) (x : Asked) : Asked :=
  if yes && x.asking.context.isNone then { x with asking := { x.asking with context := some x.state.rcx } } else x

/-- R69: the Deny List answers, unless it has answered: the lookup is its event, and a false hit is counted there. -/
def askDenyList (yes : Bool) (x : Asked) : Asked :=
  if yes && x.asking.denied.isNone then
    let c := x.asking.inspection.cred
    { x with
      asking := { x.asking with denied := some ⟨x.state.dnl.state, lookup c x.state.dnl⟩ }
      state := { x.state with dnl := afterLookup c x.state.dnl } }
  else x

/-- R51, R55, R56: the Seen Table answers, unless it has answered or is engaged in another decision point (R61; log 10): the
consult is its event, and a doubtful stamp is resolved there, with the context as the Running Context then holds it. Updates
sent earlier reach the table before the question (log 11). -/
def askSeenTable (yes : Bool) (x : Asked) : Asked :=
  if yes && x.asking.seen.isNone && !seenEngaged x.state then
    let s := deliverUpdates x.state
    let q := x.asking.inspection
    let r := consult q (contextAnswer s.rcx) s.snt
    { asking := { x.asking with
        seen := some ⟨findSeen q.cred r.1, pinCount r.1, if r.2.isSome then .waiting else .none⟩ }
      claims := r.2.getD []
      state := { s with snt := r.1 } }
  else x

/-- R21: the blocks named answer the decision point at this event, those that have not answered before. -/
def askBlocks (w : Asks) (a : Asking) (s : State) : Asked :=
  askSeenTable w.seenTable (askDenyList w.denyList (askContext w.context ⟨a, [], s⟩))

/-! ### The verdict (R16) -/

/-- The serial of a RESOLVED claim that has been served. -/
def ResolvedClaim.serial : ResolvedClaim → Option Word
  | .served n => n
  | .none | .waiting => Option.none

/-- R28: the flags the blocks' answers give. -/
def replyFlags (r : Replies) : AnswerFlags where
  listIncomplete := r.denied.state == .loading
  listInvalid := r.denied.state == .invalid
  clockStale := r.context.stale
  seenBefore := r.seen.record.isSome
  uncertainResolved := r.seen.claim != .none
  journalMissed := r.seen.claim == .served none

/-- R29: the seen details. -/
def detailsOf (r : SeenRecord) : SeenDetails := ⟨r.firstStop, r.firstMinute, r.source, r.count⟩

/-- What a decision point comes to: a verdict that is final, or a ride to be taken on the carnet of a place with so many
effective rides left, with the draft its outcome completes. -/
inductive Ruling where
  | final (d : Draft)
  | ride (d : Draft) (place : Nat) (rides : Byte)
  deriving DecidableEq, Repr

/-- R18, R19: the verdict on a chosen CARNET. -/
def ruleCarnet (d : Draft) (place : Nat) (rides : Byte) (rideShown permitted : Bool) : Ruling :=
  if rideShown then .final { d with verdict := .rideTakenEarlier, ridesLeft := some rides }
  else if permitted then .ride { d with verdict := .rideNotTaken } place rides
  else .final { d with verdict := .rideNotTaken, reason := some .notRequested, ridesLeft := some rides }

/-- R14, R16 step 3: the ruling on a chosen usable record; a concession calls for proof (R28). -/
def ruleChosen (q : Inspection) (rideShown : Bool) (d : Draft) (x : Judged) : Ruling :=
  let d := { d with chosen := some (chosenOf x), flags := { d.flags with checkProof := x.record.concession } }
  if productClass x.record.classCode = some .carnet then
    ruleCarnet d x.place (effectiveRides q.stamp x.place x.record) rideShown q.ride
  else .final { d with verdict := .valid }

/-- R16 step 3: the records are judged. -/
def ruleRecords (q : Inspection) (j : Judging) (d : Draft) : Ruling :=
  let d := { d with places := some (testPlaces j q.places) }
  let js := judgedPlaces j q.places
  match chooseUsable js with
  | some x => ruleChosen q j.rideShown d x
  | none =>
    match rankFailure js with
    | some (x, f) => .final { d with verdict := .failed f, chosen := some (chosenOf x) }
    | none => .final { d with verdict := .noFare }

/-- R16: the verdict, from the blocks' answers and the key table. -/
def rule (q : Inspection) (v : VerdictEngine) (r : Replies) : Ruling :=
  let d : Draft :=
    { verdict := .noContext, cred := some q.cred, flags := replyFlags r, seen := r.seen.record.map detailsOf
      places := some (notJudged q.places), resolutionSerial := r.seen.claim.serial }
  match r.denied.hit with
  | some e => .final { d with verdict := .denied, denyReason := some e.reason, denyAction := some e.action }
  | none =>
    match r.context.state, r.context.position with
    | .active, some p =>
      ruleRecords q
        { keys := v, rcx := r.context, position := p, stamp := q.stamp, seated := q.seated
          rideShown := (r.seen.record.map fun x => showsRide x.ride).getD false } d
    | _, _ => .final d

/-! ### The end of the decision point -/

/-- What a decision point leaves to do: its ruling, the context it read, the claims the inspection waits for, and the pin
count of the consult (R51). -/
structure Decided where
  ruling : Ruling
  ctx : ContextAnswer
  deniedOwed : Bool
  resolvedOwed : Bool
  pins : Nat

/-- R150: a claim of another block that reaches the Journal Writer together with the Seen Table's claims, in an order left
open; the Seen Table's own keep theirs (R56). -/
def joinClaims (draw : Nat) (other : Option JournalJob) (jobs : List JournalJob) : List JournalJob :=
  match other, jobs with
  | none, js => js
  | some d, [] => [d]
  | some d, j :: js => insertAt (Config.tieBreak draw % (js.length + 2)) d (j :: js)

/-- R17: the claim of a DENIED entry, where the Deny List has answered with an entry. -/
def deniedClaim (q : Inspection) (r : Replies) : Option JournalJob :=
  r.denied.hit.map fun e =>
    .entry (deniedEntry q.cred (contextAnswer r.context) e) (if q.card then .card else .token)

/-- R52: what the Seen Table takes from a ruling: the update of every outcome but a ride. It is one event with the consult:
nothing else has reached the table since (log 10) but the emptying of a new trip, which took the record with it and left its
eviction (R57). -/
def noteRuling (a : Asking) (ctx : ContextAnswer) (r : Ruling) (t : SeenTable) : SeenTable :=
  match r, a.emptied with
  | .final d, none => noteInspection a.inspection.cred d.verdict ctx t
  | .final _, some evictions => { t with evictions := evictions }
  | .ride _ _ _, _ => t

/-- R16, R21, R22: the last of the three blocks has answered: the verdict, the update of every outcome but a ride, and the
claims, those of a consult at this event among them. -/
def conclude (a : Asking) (r : Replies) (claims : List JournalJob) (s : State) : State × Decided :=
  let ctx := contextAnswer r.context
  let ruling := rule a.inspection s.ven r
  let s' := { s with snt := noteRuling a ctx ruling s.snt, draws := s.draws + 1 }
  (arrive (joinClaims s.draws (deniedClaim a.inspection r) claims) s',
    { ruling := ruling, ctx := ctx, deniedOwed := r.denied.hit.isSome, resolvedOwed := r.seen.claim == .waiting
      pins := r.seen.pins })

/-! ### Entries served (R17, R56) -/

/-- R17, R56: the serial of a served entry, or its loss, in the answer being formed. -/
def noteEntry (kind : EntryKind) (serial : Option Word) (d : Draft) : Draft :=
  let d := if kind = .resolved then { d with resolutionSerial := serial } else { d with journalSerial := serial }
  if serial.isNone then { d with flags := { d.flags with journalMissed := true } } else d

/-- R56: the RESOLVED claim of a decision point in progress has been served. -/
def noteResolved (serial : Option Word) (a : Asking) : Asking :=
  { a with seen := a.seen.map fun x => if x.claim = .waiting then { x with claim := .served serial } else x }

end Sys2Proof.Machine
end

