-- ==== Sys2Proof/Machine/Cards.lean ====
section
/-! DEFINITION. Card sessions (05_card_sessions.md): the exchanges with a card and their tries, the decision point of a
card, the claim of a reservation, stamping and its check, and the commands of the card link. -/

namespace Sys2Proof.Machine

/-! ### Exchanges (R92, R93) -/

/-- R93: the first try of an exchange, or a further one, is sent. -/
def sendTry (n : Nat) (s : State) : State := { s with clk := { s.clk with tries := n } }

/-- An OK answer of a session without decision point (R94, R95): all flags clear. -/
def sessionVerdict (v : Verdict) (cred : Option Cred) : SessionEnd := .ok { verdict := v, cred := cred }

/-- R95, R99, R100: what follows an exhausted exchange. -/
def exhausted (t : HeldTask) (s : State) : State :=
  match t.session with
  | .reading => closeHead t (sessionVerdict .unreadable (cardIdOf s)) {} s
  | .stamping .put d p => sendTry 1 (setSession t.slot (.stamping .check d p) s)
  | .stamping .check d p => settleStamp t d p .uncertain s
  | .waitingField | .presence | .asking _ | .deciding _ _ _ | .closing _ _ _ => s

/-- R93: a try fails: it is sent again while fewer than three have been used. -/
def tryFails (t : HeldTask) (s : State) : State :=
  if s.clk.tries < Config.tries then sendTry (s.clk.tries + 1) s else exhausted t s

/-- R93, R94: a reply that does not have the form of the reply due, or that is not complete within 4 ms: a WAKE is over,
another exchange's try fails. -/
def replyFails (s : State) : State :=
  match s.clk.hold with
  | [] => s
  | t :: _ =>
    match t.session with
    | .presence => sendTry 0 s
    | .reading | .stamping _ _ _ => tryFails t s
    | .waitingField | .asking _ | .deciding _ _ _ | .closing _ _ _ => s

/-! ### The decision point of a card (R96, R97) -/

/-- R97, R53: the update of a ride that was refused before the stamp. -/
def refusedUpdate (cred : Cred) (ctx : ContextAnswer) : SeenUpdate := ⟨cred, .refused, ctx⟩

/-- R97: a ride refused before the stamp: the update is sent and the session enters CLOSING. -/
def refuseRide (t : HeldTask) (d : Draft) (p : RidePlan) (why : VerdictReason) (owed : Owed) (s : State) : State :=
  closeHead t (.ok { d with verdict := .rideNotTaken, reason := some why, ridesLeft := some p.rides }) owed
    (sendUpdate (refusedUpdate p.cred p.ctx) s)

/-- The sequence of an INTACT stamp (R98). -/
def oldSequence : StampStanding → Option Half
  | .intact st => some st.sequence
  | .absent | .damaged => none

/-- R97: a session that is to take a ride reads the pin count; at 32 the ride is refused, otherwise the reservation is
claimed, after the RESOLVED claim of its consult has been served. -/
def seekReservation (t : HeldTask) (x : Decided) (d : Draft) (p : RidePlan) (s : State) : State :=
  if Config.pinned ≤ x.pins then refuseRide t d p .uncertainLimit { resolved := x.resolvedOwed } s
  else if x.resolvedOwed then setSession t.slot (.deciding d p .awaitResolved) s
  else arrive [.reserve] (setSession t.slot (.deciding d p .awaitReservation) s)

/-- R96: the end of a card's decision point: a final verdict closes the session, a ride goes on. -/
def decideCard (t : HeldTask) (a : Asking) (r : Replies) (claims : List JournalJob) (s : State) : State :=
  let q := a.inspection
  let x := conclude a r claims s
  match x.2.ruling with
  | .final d => closeHead t (.ok d) { denied := x.2.deniedOwed, resolved := x.2.resolvedOwed } x.1
  | .ride d place rides => seekReservation t x.2 d ⟨q.cred, x.2.ctx, place, rides, oldSequence q.stamp⟩ x.1

/-- R21, R96: blocks answer the decision point of the head's session, which ends when all three have answered (log 10). -/
def askCard (t : HeldTask) (w : Asks) (a : Asking) (s : State) : State :=
  let x := askBlocks w a s
  match x.asking.replies with
  | none => arrive x.claims (setSession t.slot (.asking x.asking) x.state)
  | some r => decideCard t x.asking r x.claims x.state

/-- R96: the decision point that a session takes on entering DECIDING. -/
def cardAsking (t : HeldTask) (id : CardIdentity) (records : List (List Byte)) (stamp : Option (List Byte)) : Asking :=
  { inspection :=
      { card := true, cred := id.cred, places := readPlaces records, stamp := stampStanding stamp, seated := t.req.seated
        ride := t.req.ride } }

/-- R95: the AREA reply carries as many records as the layout reported filled places, and a stamp when the layout reported
one. -/
def areaFits (id : CardIdentity) (link : LinkStatus) (records : List (List Byte)) (stamp : Option (List Byte)) : Bool :=
  link == .good && records.length == id.filled && records.all (fun r => r.length == 32)
  && stamp.isSome == id.stamp && (stamp.map List.length).getD 16 == 16

/-! ### Stamping (R98 to R101) -/

/-- R98: the new stamp. -/
def composeStamp (p : RidePlan) : StampRecord where
  sequence := match p.old with
    | some n => n + 1
    | none => 1
  day := p.ctx.day
  trip := p.ctx.trip
  stop := p.ctx.stop
  conductor := p.ctx.conductor
  place := BitVec.ofNat 8 p.place
  rides := p.rides - 1

/-- R97, R98, R99: the reservation is granted: the new stamp is composed and the session enters STAMPING with its first
PUT STAMP. The pending-stamp data is set here, at the grant, and not at the claim (DESIGN CHOICE, log 46). -/
def beginStamping (serial : Word) (s : State) : State :=
  match s.clk.hold with
  | [] => s
  | t :: _ =>
    match t.session with
    | .deciding d p .awaitReservation =>
      let s := { s with clk := { s.clk with pendingStamp := some ⟨p.old, composeStamp p, serial⟩ } }
      sendTry 1 (setSession t.slot (.stamping .put d p) s)
    | .deciding _ _ .awaitResolved | .waitingField | .presence | .reading | .asking _ | .stamping _ _ _
    | .closing _ _ _ => s

/-- R100: the reply to CHECK STAMP classified. -/
def classify (ps : PendingStamp) (reply : StampStanding) : StampOutcome :=
  match reply, ps.old with
  | .intact st, old =>
    if st.sequence = ps.stamp.sequence then .landed
    else if old = some st.sequence then .notLanded
    else .uncertain
  | .absent, none => .notLanded
  | .absent, some _ => .uncertain
  | .damaged, _ => .uncertain

/-- R100, R101: the CHECK STAMP reply is taken. -/
def checkTaken (t : HeldTask) (d : Draft) (p : RidePlan) (reply : StampStanding) (s : State) : State :=
  match s.clk.pendingStamp with
  | none => s
  | some ps => settleStamp t d p (classify ps reply) s

/-! ### The commands of the card link -/

/-- PRESENCE_INTERVAL_EXPIRY (R94): in PRESENCE the next WAKE is sent. -/
def execPresenceIntervalExpiry (s : State) : Host.Outcome State Fault Refusal :=
  match s.clk.hold with
  | [] => .next s
  | t :: _ => if t.session = .presence then .next (sendWake s) else .next s

/-- PRESENTATION_DEADLINE (R94): in PRESENCE the session ends with verdict NO CREDENTIAL. -/
def execPresentationDeadline (s : State) : Host.Outcome State Fault Refusal :=
  match s.clk.hold with
  | [] => .next s
  | t :: _ => if t.session = .presence then settled (closeHead t (sessionVerdict .noCredential none) {} s) else .next s

/-- REPLY_LIMIT_EXPIRY (R93, R94): a WAKE is over; another exchange's try fails. -/
def execReplyLimitExpiry (s : State) : Host.Outcome State Fault Refusal := settled (replyFails s)

/-- R94: the outcome of a WAKE whose reply arrived. -/
def helloTaken (t : HeldTask) (link : LinkStatus) (cardId : Cred) (filled : Byte) (stampPresent : Bool) (s : State) :
    State :=
  if link = .overlap then closeHead t (sessionVerdict .multipleCards none) {} s
  else if link = .good ∧ cardId ≠ 0 ∧ filled.toNat ≤ 3 then
    let s := { s with clk := { s.clk with identity := some ⟨cardId, filled.toNat, stampPresent⟩ } }
    sendTry 1 (setSession t.slot .reading s)
  else sendTry 0 s

/-- HELLO (R94): a reply to the WAKE awaited; in another exchange it has not the form of the reply due (R93; log 20). -/
def execHello (link : LinkStatus) (cardId : Cred) (filled : Byte) (stampPresent : Bool) (s : State) :
    Host.Outcome State Fault Refusal :=
  match s.clk.hold with
  | [] => .next s
  | t :: _ =>
    if t.session = .presence then
      if s.clk.tries = 0 then .next s else settled (helloTaken t link cardId filled stampPresent s)
    else settled (replyFails s)

/-- AREA (R95, R96): in READING a reply that fits is taken and the decision point follows; another fails the try. In a
decision point in progress the command is the answers of the blocks it names, and its reply is not read (log 10). -/
def execArea (link : LinkStatus) (records : List (List Byte)) (stamp : Option (List Byte)) (s : State)
    (asks : Asks := .all) : Host.Outcome State Fault Refusal :=
  match s.clk.hold with
  | [] => .next s
  | t :: _ =>
    match t.session, s.clk.identity with
    | .reading, some id =>
      if areaFits id link records stamp then
        settled (askCard t asks (cardAsking t id records stamp) (sendTry 0 s))
      else settled (replyFails s)
    | .asking a, _ => settled (askCard t asks a s)
    | _, _ => settled (replyFails s)

/-- STAMP_ACK (R99): a reply to PUT STAMP that names the session's card leads to CHECK STAMP; another fails the try. -/
def execStampAck (link : LinkStatus) (cardId : Cred) (s : State) : Host.Outcome State Fault Refusal :=
  match s.clk.hold with
  | [] => .next s
  | t :: _ =>
    match t.session with
    | .stamping .put d p =>
      if link = .good ∧ cardIdOf s = some cardId then
        .next (sendTry 1 (setSession t.slot (.stamping .check d p) s))
      else settled (replyFails s)
    | .stamping .check _ _ | .waitingField | .presence | .reading | .asking _ | .deciding _ _ _ | .closing _ _ _ =>
      settled (replyFails s)

/-- CHECK_STAMP_REPLY (R100): the reply is classified and acted on; a bad one fails the try. -/
def execCheckStampReply (link : LinkStatus) (stamp : Option (List Byte)) (s : State) :
    Host.Outcome State Fault Refusal :=
  match s.clk.hold with
  | [] => .next s
  | t :: _ =>
    match t.session with
    | .stamping .check d p =>
      if link = .good ∧ (stamp.map List.length).getD 16 = 16 then
        settled (checkTaken t d p (stampStanding stamp) s)
      else settled (replyFails s)
    | .stamping .put _ _ | .waitingField | .presence | .reading | .asking _ | .deciding _ _ _ | .closing _ _ _ =>
      settled (replyFails s)

end Sys2Proof.Machine
end

