-- ==== Sys2Proof/Machine/Context.lean ====
section
/-! DEFINITION. The Running Context's two tasks (02_running_context.md) as functions of its own state: the checks of a ROUTE,
its installation, and a POSITION. -/

namespace Sys2Proof.Machine

/-! ### ROUTE (R37 to R41) -/

/-- R37 check 1. -/
def stopCountOk (n : Nat) : Bool := decide (2 ≤ n) && decide (n ≤ Config.routeStops)

/-- R37 check 3: no code is 0 or 65,535, and no zone is above 31. -/
def stopOk (s : Stop) : Bool := stopCodeOk s.code && decide (s.zone.toNat ≤ 31)

/-- R37 check 4: no code appears twice. -/
def codesDistinct (stops : List Stop) : Bool := decide ((stops.map Stop.code).Nodup)

/-- What an accepted ROUTE does: a new trip (R38), or a continuation at the mapped position, with the index before the
mapping (R40). -/
inductive RoutePlan where
  | newTrip
  | continueAt (position : Position) (before : Nat)
  deriving DecidableEq, Repr

/-- R40 checks 2 and 3: the position mapped onto a new list. -/
def mapPosition (stops : List Stop) (code : Half) (p : Position) : Option Position :=
  match stopIndex stops code, p with
  | none, _ => none
  | some j, .atStop _ => some (.atStop j)
  | some j, .between _ => if j + 1 < stops.length then some (.between j) else none

/-- R40: the checks of a CONTINUE. -/
def checkContinue (r : RouteRequest) (stops : List Stop) (c : RunningContext) : Except Reason RoutePlan :=
  match c.state, c.position with
  | .active, some p =>
    if r.trip = c.trip then
      match mapPosition stops (currentStop c) p with
      | none => .error .stopNotOnRoute
      | some q => .ok (.continueAt q p.stop)
    else .error .notSameTrip
  | _, _ => .error .notSameTrip

/-- R37 checks 3 to 5: a stop list as read. -/
def checkRoute (r : RouteRequest) (stops : List Stop) (c : RunningContext) : Except Reason RoutePlan :=
  if stops.all stopOk = false then .error .badCode
  else if codesDistinct stops = false then .error .duplicateStop
  else match r.mode with
    | .newTrip => if (stopIndex stops r.start).isSome then .ok .newTrip else .error .stopNotOnRoute
    | .continueTrip => checkContinue r stops c

/-- R38: the installation of a new trip. -/
def installTrip (r : RouteRequest) (stops : List Stop) (c : RunningContext) : RunningContext :=
  { c with
    state := .active, route := stops, position := some (.atStop ((stopIndex stops r.start).getD 0)), trip := r.trip
    day := r.day, minute := r.minute, stale := false }

/-- R40: the installation of a continued trip. -/
def installContinue (r : RouteRequest) (stops : List Stop) (p : Position) (c : RunningContext) : RunningContext :=
  { c with route := stops, position := some p, day := r.day, minute := r.minute, stale := false }

/-! ### POSITION (R43 to R45) -/

/-- R43: the position after a DEPART, none where it is refused. -/
def depart (code : Half) (c : RunningContext) : Option Position :=
  match c.state, c.position with
  | .active, some (.atStop k) =>
    if stopCodeAt c.route k = code ∧ k + 1 < c.route.length then some (.between k) else none
  | _, _ => none

/-- R44: the position after an ARRIVE, none where it is refused. -/
def arriveAt (code : Half) (c : RunningContext) : Option Position :=
  match c.state, c.position, stopIndex c.route code with
  | .active, some p, some j => if p.stop < j then some (.atStop j) else none
  | _, _, _ => none

/-- The position after a POSITION's event, none where it is refused POSITION SEQUENCE. -/
def nextPosition (r : PositionRequest) (c : RunningContext) : Option Position :=
  match r.event with
  | .depart => depart r.stop c
  | .arrive => arriveAt r.stop c

/-- R45: a minute is set as given, and clears the clock-stale flag. -/
def applyMinute (m : Option Half) (c : RunningContext) : RunningContext :=
  match m with
  | none => c
  | some n => { c with minute := n, stale := false }

/-- R43 to R45: the context after a POSITION. -/
def positioned (r : PositionRequest) (c : RunningContext) : RunningContext :=
  match nextPosition r c with
  | none => applyMinute r.minute c
  | some p => { applyMinute r.minute c with position := some p }

/-- R45: the answer of a POSITION. -/
def positionBody (r : PositionRequest) (c : RunningContext) : AnswerBody :=
  match nextPosition r c with
  | none => positionAnswer .refused (some .positionSequence) r.minute.isSome (positioned r c)
  | some _ => positionAnswer .ok none r.minute.isSome (positioned r c)

end Sys2Proof.Machine
end

