-- ==== Sys2Proof/Machine/Tasks.lean ====
section
/-! DEFINITION. The task commands: what the owner of each kind does when the task in hand reaches it
(07_the_inspection_sheet.md, 7.2). A task whose buffer is read first asks for the read here, and goes on at the bus answer
(MemoryResponse.lean). -/

namespace Sys2Proof.Machine

/-! ### Card and token -/

/-- R88, R89: a task enters the card hold; one taken while the hold is empty becomes the head and its session begins. One
that a HALT has overtaken is completed HALTED (R110). -/
def enterHold (slot : Nat) (tag : Half) (r : CardRequest) (s : State) : State :=
  let t : HeldTask := { slot := slot, tag := tag, req := r, session := .waitingField }
  let s' := { s with clk := { s.clk with hold := s.clk.hold ++ [t] } }
  if s.mpt.runState = .halting then handOver t (.coded .halted none) s'
  else if s.clk.hold.isEmpty then beginHead s' else s'

/-- CARD_INSPECT (R88 to R90): the task in hand enters the hold, and the scan moves on at once (R128). So its claim is granted
before a FIELD TEST of the same scan is examined (R123; log 40). -/
def execCardInspect (s : State) : Host.Outcome State Fault Refusal :=
  match handedTask s with
  | some (sc, ⟨tag, .cardInspect r⟩) => settled (goOn sc (enterHold sc.index tag r s))
  | _ => .next s

/-- R16, R17, R20: the end of a token's decision point: the answer, or the claim of a DENIED or RIDE entry. -/
def decideToken (sc : Scan) (t : Task) (a : Asking) (r : Replies) (claims : List JournalJob) (s : State) : State :=
  let x := conclude a r claims s
  match x.2.ruling with
  | .final d =>
    if x.2.deniedOwed then serveOn sc t (.tokenDenied d) x.1 else completeTask sc t.tag (inspectionAnswer d) none x.1
  | .ride d place rides =>
    let p : RidePlan := ⟨a.inspection.cred, x.2.ctx, place, rides, none⟩
    arrive [.entry (tokenEntry p) .token] (serveOn sc t (.tokenRide d p) x.1)

/-- R21, R25: blocks answer the decision point of a token, which ends when all three have answered (log 10). -/
def askToken (sc : Scan) (t : Task) (w : Asks) (a : Asking) (s : State) : State :=
  let x := askBlocks w a s
  match x.asking.replies with
  | none => arrive x.claims (serveOn sc t (.tokenAsk x.asking) x.state)
  | some r => decideToken sc t x.asking r x.claims x.state

/-- TOKEN_INSPECT (R25): the 40 bytes of the token are read; and when they have been, blocks answer the decision point
(R21; log 10). -/
def execTokenInspect (s : State) (asks : Asks := .all) : Host.Outcome State Fault Refusal :=
  match handedTask s, servedTask s with
  | some (sc, ⟨tag, .tokenInspect r⟩), _ =>
    settled (askRead .scan r.address 40 (serveOn sc ⟨tag, .tokenInspect r⟩ .tokenRead s))
  | none, some (sc, t, .tokenAsk a) => settled (askToken sc t asks a s)
  | _, _ => .next s

/-! ### Context -/

/-- R37 steps 1 and 2: the length is checked, and the stop list read. -/
def routeTaken (sc : Scan) (t : Task) (r : RouteRequest) (s : State) : State :=
  if stopCountOk r.count then askRead .scan r.address (4 * r.count) (serveOn sc t .routeRead s)
  else completeTask sc t.tag (routeRefused .length s.rcx) none s

/-- R38: the new trip is installed at the Running Context's own event, and the task completes. -/
def routeInstalled (sc : Scan) (t : Task) (r : RouteRequest) (stops : List Stop) (s : State) : State :=
  let c := installTrip r stops s.rcx
  completeTask sc t.tag (routeAnswer r.mode none c) none { s with rcx := c }

/-- ROUTE (R37, R38): its first step, and after the emptying of the Seen Table the installation (R39; log 6). -/
def execRoute (s : State) : Host.Outcome State Fault Refusal :=
  match handedTask s, servedTask s with
  | some (sc, ⟨tag, .route r⟩), _ => settled (routeTaken sc ⟨tag, .route r⟩ r s)
  | none, some (sc, ⟨tag, .route r⟩, .routeInstall stops) =>
    settled (routeInstalled sc ⟨tag, .route r⟩ r stops s)
  | _, _ => .next s

/-- POSITION (R42 to R45). -/
def execPosition (s : State) : Host.Outcome State Fault Refusal :=
  match handedTask s with
  | some (sc, ⟨tag, .position r⟩) =>
    settled (completeTask sc tag (positionBody r s.rcx) none { s with rcx := positioned r s.rcx })
  | _ => .next s

/-! ### Deny list -/

/-- R71 to R74: a DENY REPLACE whose buffer is read, applied. -/
def replaceServed (sc : Scan) (tag : Half) (r : ReplaceRequest) (data : List Byte) (s : State) : State :=
  let x := replaceList r data s.dnl
  completeTask sc tag x.2 none { s with dnl := x.1 }

/-- R76 to R79: a DENY DELTA whose buffer is read, applied. -/
def deltaServed (sc : Scan) (tag : Half) (r : DeltaRequest) (data : List Byte) (s : State) : State :=
  let x := deltaList r data s.dnl
  completeTask sc tag x.2 none { s with dnl := x.1 }

/-- DENY_REPLACE (R71): the entries are read; a chunk of none reads nothing. -/
def execDenyReplace (s : State) : Host.Outcome State Fault Refusal :=
  match handedTask s with
  | some (sc, ⟨tag, .denyReplace r⟩) =>
    if r.count = 0 then settled (replaceServed sc tag r [] s)
    else settled (askRead .scan r.address (16 * r.count) (serveOn sc ⟨tag, .denyReplace r⟩ .replaceRead s))
  | _ => .next s

/-- DENY_DELTA (R76): the operations are read; a chunk of none reads nothing. -/
def execDenyDelta (s : State) : Host.Outcome State Fault Refusal :=
  match handedTask s with
  | some (sc, ⟨tag, .denyDelta r⟩) =>
    if r.count = 0 then settled (deltaServed sc tag r [] s)
    else settled (askRead .scan r.address (16 * r.count) (serveOn sc ⟨tag, .denyDelta r⟩ .deltaRead s))
  | _ => .next s

/-- DENY_PRUNE (R81). -/
def execDenyPrune (s : State) : Host.Outcome State Fault Refusal :=
  match handedTask s with
  | some (sc, ⟨tag, .denyPrune day⟩) =>
    let x := pruneList day s.dnl
    settled (completeTask sc tag x.2 none { s with dnl := x.1 })
  | _ => .next s

/-! ### Seen table -/

/-- R59, R60: the notes of a task merged at one event; the task completes, or waits for its CONFLICT entries. -/
def notesMerged (sc : Scan) (t : Task) (notes : List PeerNote) (s : State) : State :=
  let m := mergeNotes s.rcx notes s.snt
  let s := { s with snt := m.table }
  if m.claims = [] then completeTask sc t.tag (notesAnswer m.counts) none s
  else arrive m.claims (serveOn sc t (.notesClaims m.counts m.claims.length) s)

/-- R61: the merge of notes that have been read, which waits while the Seen Table is engaged in a decision point (log 10). -/
def notesDue (sc : Scan) (t : Task) (notes : List PeerNote) (s : State) : State :=
  if seenEngaged s then serveOn sc t (.notesWait notes) s else notesMerged sc t notes s

/-- PEER_NOTES (R58): every note is read before any is merged; a merge that waits is made at a later PEER_NOTES (R61; log 10). -/
def execPeerNotes (s : State) : Host.Outcome State Fault Refusal :=
  match handedTask s, servedTask s with
  | some (sc, ⟨tag, .peerNotes n address⟩), _ =>
    settled (askRead .scan address (16 * n) (serveOn sc ⟨tag, .peerNotes n address⟩ .notesRead s))
  | none, some (sc, t, .notesWait notes) => settled (notesDue sc t notes s)
  | _, _ => .next s

/-- R62: the next export record is written to its place, or the task completes. -/
def exportNext (sc : Scan) (t : Task) (address : Word) (rest : List SeenRecord) (place : Nat) (body : AnswerBody)
    (s : State) : State :=
  match rest with
  | [] => completeTask sc t.tag body none s
  | r :: rs =>
    askWrite .scan (address + BitVec.ofNat 32 (32 * place)) (exportBytes r)
      (serveOn sc t (.exportWrite rs (place + 1) body) s)

/-- SEEN_EXPORT (R62, R63): the records are gathered at one event and then written one after another. The task stays in hand
while the Seen Table is engaged in a decision point (log 10). -/
def execSeenExport (s : State) : Host.Outcome State Fault Refusal :=
  match handedTask s with
  | some (sc, ⟨tag, .seenExport after capacity address⟩) =>
    let gathered := localAbove after s.snt
    if seenEngaged s then .next s
    else settled (exportNext sc ⟨tag, .seenExport after capacity address⟩ address (gathered.take capacity) 0
      (exportSummary gathered capacity s.snt.counter) s)
  | _ => .next s

/-! ### Field and power -/

/-- R123: the field is asked for off; the test is BUSY, SKIPPED, or made. -/
def fieldTested (sc : Scan) (tag : Half) (s : State) : State :=
  if s.clk.holder ≠ .none then completeTask sc tag (fieldTestAnswer .busy s.fmn) none s
  else if passiveSkipped s then completeTask sc tag (fieldTestAnswer .skipped s.fmn) none s
  else serveOn sc ⟨tag, .fieldTest⟩ .antennaCheck { s with fmn := { s.fmn with passive := some .fieldTest } }

/-- FIELD_TEST (R123). -/
def execFieldTest (dieTemp : Int) (s : State) : Host.Outcome State Fault Refusal :=
  match handedTask s with
  | some (sc, ⟨tag, .fieldTest⟩) => settled (fieldTested sc tag (measure dieTemp s))
  | _ => .next s

/-- R160: a target of DOZE or SLEEP is refused while the card hold holds a task, and in HALTING. -/
def powerRefused (target : PowerState) (s : State) : Bool :=
  endsScan target && (!s.clk.hold.isEmpty || s.mpt.runState == .halting)

/-- R159, R165: nothing but the task in hand can need the bus: the Journal Writer is quiet, no update that may claim an entry is
on its way, and no access is made or waits. -/
def busIdle (s : State) : Bool :=
  journalQuiet s.jnw && s.snt.updates.isEmpty && s.mpt.flight.isNone && s.mpt.waiting.isEmpty

/-- R159, R165: DOZE and SLEEP, in which nothing but a check and a scan uses the bus, wait for work sent before (log 35). -/
def powerWaits (target : PowerState) (s : State) : Bool := endsScan target && !busIdle s

/-- POWER (R160): the answer; the change follows the DONE (R161). An accepted target that has to wait stays in hand. The held
tasks of a BUSY answer are counted at this event (DESIGN CHOICE, log 45). -/
def execPower (s : State) : Host.Outcome State Fault Refusal :=
  match handedTask s with
  | some (sc, ⟨tag, .power target period near⟩) =>
    if powerRefused target s then
      settled (completeTask sc tag (powerBusy s.pev.power s.clk.hold.length) none s)
    else if powerWaits target s then .next s
    else settled (completeTask sc tag (powerAnswer s.pev.power target) (some ⟨target, period, near⟩) s)
  | _ => .next s

/-! ### CANCEL (R107 to R109) -/

/-- R108: whether a held task in a session state is past cancelling. -/
def tooLate : Session → Bool
  | .stamping _ _ _ | .closing _ _ _ => true
  | .waitingField | .presence | .reading | .asking _ | .deciding _ _ _ => false

/-- R109: a held task is ended: WAITING FIELD has no card ID; the others are the head's session. -/
def cancelHeld (t : HeldTask) (s : State) : State :=
  match t.session with
  | .waitingField => handOver t (.coded .cancelled none) s
  | .presence | .reading => closeHead t (.coded .cancelled (cardIdOf s)) {} s
  | .asking _ => endAsking t .cancelled s
  | .deciding _ p _ => endDeciding t p .cancelled .cancelled s
  | .stamping _ _ _ | .closing _ _ _ => s

/-- The held task of a slot. -/
def findHeld (slot : Nat) (s : State) : Option HeldTask := s.clk.hold.find? fun t => t.slot == slot

/-- A slot state as found, in an answer: a code that names none of the four is FREE (R125). -/
def foundState (b : Byte) : Nat := if b.toNat ≤ 3 then b.toNat else slotFree.toNat

/-- R107, R108: a CANCEL of a held task ends it, unless it is past cancelling; its own answer follows the target's DONE
(log 19). -/
def cancelOfHeld (sc : Scan) (tag : Half) (target : Nat) (t : HeldTask) (s : State) : State :=
  if tooLate t.session then
    completeTask sc tag (cancelAnswer .tooLate slotTaken.toNat (some t.session)) none s
  else
    cancelHeld t (serveOn sc ⟨tag, .cancel target⟩
      (.cancelWait target (cancelAnswer .targetCancelled slotTaken.toNat (some t.session))) s)

/-- R107, R108: a CANCEL of a slot not held is decided at this event by the slot's state and kind: a POSTED CARD INSPECT is
to be taken and completed, its tag being read first; anything else is NOT PENDING. -/
def cancelOfSlot (sc : Scan) (tag : Half) (target : Nat) (state kind : Byte) (s : State) : State :=
  if kind = 1 ∧ state = slotPosted then
    askRead .scan (slotAddress s target 2) 2 (serveOn sc ⟨tag, .cancel target⟩ .cancelRead s)
  else completeTask sc tag (cancelAnswer .notPending (foundState state) none) none s

/-- R107, R108: the CANCEL is decided by its target: itself, a held task, or a slot by its state and kind. -/
def cancelTaken (sc : Scan) (tag : Half) (target : Nat) (state kind : Byte) (s : State) : State :=
  if target = sc.index then completeTask sc tag (cancelAnswer .notPending slotTaken.toNat none) none s
  else match findHeld target s with
    | some t => cancelOfHeld sc tag target t s
    | none => cancelOfSlot sc tag target state kind s

/-- CANCEL (R107, R108): decided at this event, by the target slot's state and kind as memory then holds them; a held target,
and the CANCEL's own slot, by what the part itself knows of them. -/
def execCancel (s : State) (state : Byte := 0) (kind : Byte := 0) : Host.Outcome State Fault Refusal :=
  match handedTask s with
  | some (sc, ⟨tag, .cancel target⟩) => settled (cancelTaken sc tag target state kind s)
  | _ => .next s

/-! ### Keys, status and identity (10_keys_status_and_identity.md) -/

/-- KEY_LOAD (R170): the 16 bytes of the key are read. -/
def execKeyLoad (s : State) : Host.Outcome State Fault Refusal :=
  match handedTask s with
  | some (sc, ⟨tag, .keyLoad slot replace address⟩) =>
    settled (askRead .scan address 16 (serveOn sc ⟨tag, .keyLoad slot replace address⟩ .keyRead s))
  | _ => .next s

/-- Whether a key slot is loaded. -/
def keyLoaded (slot : Nat) (v : VerdictEngine) : Bool := ((v.keys[slot]?).join).isSome

/-- The key table with a slot set. -/
def setKey (slot : Nat) (key : Option (List Byte)) (v : VerdictEngine) : VerdictEngine :=
  { v with keys := v.keys.setIfInBounds slot key }

/-- R170 steps 2 and 3: the key read is refused, or taken. -/
def keyServed (sc : Scan) (tag : Half) (slot : Nat) (replace : Bool) (key : List Byte) (s : State) : State :=
  if keyLoaded slot s.ven && !replace then completeTask sc tag (keyLoadAnswer (some .slotLoaded) s.ven) none s
  else
    let v := setKey slot (some key) s.ven
    completeTask sc tag (keyLoadAnswer none v) none { s with ven := v }

/-- KEY_CLEAR (R171). -/
def execKeyClear (s : State) : Host.Outcome State Fault Refusal :=
  match handedTask s with
  | some (sc, ⟨tag, .keyClear slot⟩) =>
    let v := setKey slot none s.ven
    settled (completeTask sc tag (keyClearAnswer (keyLoaded slot s.ven) v) none { s with ven := v })
  | _ => .next s

/-- Whether a block gives its part of the status record at an event that names those asked: the Seen Table not while it is
engaged in a decision point (log 10). -/
def statusDue (asks : List StatusBlock) (s : State) (b : StatusBlock) : Bool :=
  asks.contains b && !(b == .seenTable && seenEngaged s)

/-- R172: the blocks named that have yet to answer give their part of the record at this event; when none is left the record
is written to the buffer. The Field Monitor measures the die for its part (R122; log 7). -/
def statusAsked (sc : Scan) (t : Task) (address : Word) (dieTemp : Int) (overLimit : Bool) (asks left : List StatusBlock)
    (r : StatusRecord) (s : State) : State :=
  let now := left.filter fun b => statusDue asks s b
  let rest := left.filter fun b => !statusDue asks s b
  let s := if now.contains .fieldMonitor then measure dieTemp s else s
  let r := statusParts overLimit s now r
  if rest.isEmpty then askWrite .scan address (statusBytes r) (serveOn sc t .recordWrite s)
  else serveOn sc t (.statusAsk rest r) s

/-- STATUS (R172, R173): each block gives its part of the record at an event of its own (log 10). -/
def execStatus (dieTemp : Int) (overLimit : Bool) (s : State) (asks : List StatusBlock := StatusBlock.all) :
    Host.Outcome State Fault Refusal :=
  match handedTask s, servedTask s with
  | some (sc, ⟨tag, .status address⟩), _ =>
    settled (statusAsked sc ⟨tag, .status address⟩ address dieTemp overLimit asks StatusBlock.all {} s)
  | none, some (sc, ⟨tag, .status address⟩, .statusAsk left r) =>
    settled (statusAsked sc ⟨tag, .status address⟩ address dieTemp overLimit asks left r s)
  | _, _ => .next s

/-- IDENTIFY (R174). -/
def execIdentify (s : State) : Host.Outcome State Fault Refusal :=
  match handedTask s with
  | some (sc, ⟨tag, .identify address⟩) =>
    settled (askWrite .scan address identityBytes (serveOn sc ⟨tag, .identify address⟩ .recordWrite s))
  | _ => .next s

end Sys2Proof.Machine
end

