-- ==== Sys2Proof/Machine/JournalSteps.lean ====
section
/-! DEFINITION. The Journal Writer's service of claims and fills (08_the_journal.md, 8.3 and 8.4), and what the session or
task that made a claim does when it has been served. -/

namespace Sys2Proof.Machine

/-! ### A card's session learns of its entries (R96, R97, R102) -/

/-- R96, R102: a session in CLOSING hands its answer over when the Journal Writer owes it nothing more. -/
def closeIfReady (t : HeldTask) (e : SessionEnd) (owed : Owed) (s : State) : State :=
  if owed = {} then handOver t e s else setSession t.slot (.closing e owed .awaitJournal) s

/-- What is still owed after an entry has been served. -/
def owedAfter (kind : EntryKind) (o : Owed) : Owed :=
  if kind = .resolved then { o with resolved := false } else { o with denied := false }

/-- R96, R97: the head's session learns that its DENIED or RESOLVED claim has been served: a session in CLOSING comes nearer
its answer, one at its decision point keeps what it learnt, one that waits to claim a reservation claims it. -/
def cardEntryServed (kind : EntryKind) (serial : Option Word) (s : State) : State :=
  match s.clk.hold with
  | [] => s
  | t :: _ =>
    match t.session with
    | .closing (.ok d) owed .awaitJournal => closeIfReady t (.ok (noteEntry kind serial d)) (owedAfter kind owed) s
    | .asking a => if kind = .resolved then setSession t.slot (.asking (noteResolved serial a)) s else s
    | .deciding d p .awaitResolved =>
      arrive [.reserve] (setSession t.slot (.deciding (noteEntry kind serial d) p .awaitReservation) s)
    | .waitingField | .presence | .reading | .deciding _ _ .awaitReservation | .stamping _ _ _ | .closing _ _ _ => s

/-- R97: the reservation claim met a full ring. -/
def reservationRefused (s : State) : State :=
  match s.clk.hold with
  | [] => s
  | t :: _ =>
    match t.session with
    | .deciding d p .awaitReservation => refuseRide t d p .journalFull {} s
    | .deciding _ _ .awaitResolved | .waitingField | .presence | .reading | .asking _ | .stamping _ _ _
    | .closing _ _ _ => s

/-- R101, R153: the head's session learns that its fill is done. -/
def fillServed (s : State) : State :=
  match s.clk.hold with
  | [] => s
  | t :: _ =>
    match t.session with
    | .closing e owed .awaitJournal => closeIfReady t e { owed with fill := false } s
    | .waitingField | .presence | .reading | .asking _ | .deciding _ _ _ | .stamping _ _ _ | .closing _ _ _ => s

/-! ### The tasks in hand learn of their entries (R17, R20, R60) -/

/-- R20: the outcome of a token ride whose claim has been served. -/
def tokenRideDraft (d : Draft) (p : RidePlan) (serial : Option Word) : Draft :=
  match serial with
  | some n => { d with verdict := .rideTaken, ridesLeft := some (p.rides - 1), journalSerial := some n }
  | none => { d with verdict := .rideNotTaken, reason := some .journalFull, ridesLeft := some p.rides }

/-- R22, R53: the update of a token ride. -/
def tokenRideUpdate (p : RidePlan) (serial : Option Word) : SeenUpdate :=
  ⟨p.cred, if serial.isSome then .token else .refused, p.ctx⟩

/-- R17, R20: the TOKEN INSPECT in hand learns of its entry and completes. -/
def tokenEntryServed (serial : Option Word) (s : State) : State :=
  match servedTask s with
  | some (sc, t, .tokenDenied d) => completeTask sc t.tag (inspectionAnswer (noteEntry .denied serial d)) none s
  | some (sc, t, .tokenRide d p) =>
    completeTask sc t.tag (inspectionAnswer (tokenRideDraft d p serial)) none (sendUpdate (tokenRideUpdate p serial) s)
  | _ => s

/-- R60, R61: the PEER NOTES in hand learns of a CONFLICT entry, and completes after the last. -/
def noteEntryServed (serial : Option Word) (s : State) : State :=
  match servedTask s with
  | some (sc, t, .notesClaims c owed) =>
    let c := if serial.isNone then { c with notJournalled := c.notJournalled + 1 } else c
    if owed ≤ 1 then completeTask sc t.tag (notesAnswer c) none s else serveOn sc t (.notesClaims c (owed - 1)) s
  | _ => s

/-- R151: the serial, or the loss, goes back to whoever made the claim. -/
def entryServed (kind : EntryKind) (who : ClaimFor) (serial : Option Word) (s : State) : State :=
  match who with
  | .nobody => s
  | .card => cardEntryServed kind serial s
  | .token => tokenEntryServed serial s
  | .note => noteEntryServed serial s

/-! ### The service of a claim (R150 to R153) -/

/-- R150: a claim is granted the cursor entry and the next serial. An entry's fields are then written; a reservation is
recorded, and its session begins to stamp; the reservation of a session that has ended is filled VOID. -/
def grantClaim (j : JournalJob) (ring : Ring) (s : State) : State :=
  let entry := s.jnw.cursor
  let serial := s.jnw.nextSerial
  let s := takeEntry ring s
  match j with
  | .entry e _ => writeFields ring entry serial e s
  | .reserve =>
    beginStamping serial (popJob { s with jnw := { s.jnw with reservation := some ⟨entry, serial⟩ } })
  | .reserveVoid e => writeFields ring entry serial e { s with jnw := { s.jnw with reservation := some ⟨entry, serial⟩ } }
  | .fill _ => s

/-- R150, R151: a claim that meets a full ring is refused, with JOURNAL FULL. -/
def refuseClaim (j : JournalJob) (s : State) : State :=
  let s := raiseEvent evJournalFull s
  match j with
  | .entry e who => entryServed e.kind who none (popJob (countMissed e.kind s))
  | .reserve => reservationRefused (popJob s)
  | .reserveVoid _ => popJob s
  | .fill _ => s

/-- R146, R150: the mark read decides: PART grants, and every other code is read as HOST. The entry of a reservation still held,
which a cursor that has gone round the ring meets, is marked PART until its fill, and is granted like any other (DESIGN
CHOICE, log 42). -/
def serveClaim (j : JournalJob) (mark : Byte) (ring : Ring) (s : State) : State :=
  if mark = markPart then grantClaim j ring s else refuseClaim j s

/-- Whether a job is a claim; a fill reads no mark (R153). -/
def isClaim : JournalJob → Bool
  | .fill _ => false
  | .entry _ _ | .reserve | .reserveVoid _ => true

/-- JOURNAL_CLAIM (R150): the first claim is granted or refused by the mark that has been read (log 6). -/
def execJournalClaim (s : State) : Host.Outcome State Fault Refusal :=
  match s.jnw.service, s.jnw.queue, s.jnw.ring with
  | .markRead mark, j :: _, some ring => if isClaim j then settled (serveClaim j mark ring s) else .next s
  | _, _, _ => .next s

/-- RESERVATION_FILL (R153): the fill that is first in order is written into the reserved entry, with its serial. -/
def execReservationFill (s : State) : Host.Outcome State Fault Refusal :=
  match s.jnw.service, s.jnw.queue, s.jnw.ring, s.jnw.reservation with
  | .idle, .fill e :: _, some ring, some r => settled (writeFields ring r.entry r.serial e s)
  | _, _, _, _ => .next s

/-- SEEN_UPDATE (R53): the oldest update in transit arrives. It waits while the Seen Table is engaged in a decision point
(log 10). -/
def execSeenUpdate (s : State) : Host.Outcome State Fault Refusal :=
  if seenEngaged s then .next s else settled (deliverUpdate s)

/-! ### The end of a service (R151, R153) -/

/-- R151, R153: the owner HOST is written: JOURNAL ENTRY is raised, the job leaves, and its serial goes back; a fill ends the
reservation. -/
def entryWritten (j : JournalJob) (serial : Word) (s : State) : State :=
  let s := raiseEvent evJournalEntry s
  match j with
  | .entry e who => entryServed e.kind who (some serial) (popJob s)
  | .fill _ => fillServed (popJob { s with jnw := { s.jnw with reservation := none } })
  | .reserveVoid _ => popJob { s with jnw := { s.jnw with reservation := none } }
  | .reserve => s

/-- The answer of a bus access of the Journal Writer: the mark is kept for the decision, the owner HOST follows the fields,
and the service ends. -/
def journalGoesOn (data : List Byte) (s : State) : State :=
  match s.jnw.service, s.jnw.queue, s.jnw.ring with
  | .readingMark, _, _ => { s with jnw := { s.jnw with service := .markRead (byteAt data 0) } }
  | .writingFields entry serial, _, some ring => writeHost ring entry serial s
  | .writingHost _ serial, j :: _, _ => entryWritten j serial s
  | _, _, _ => s

end Sys2Proof.Machine
end

