-- ==== Sys2Proof/Machine/RunState.lean ====
section
/-! DEFINITION. The run states (07_the_inspection_sheet.md, 7.4): START with the setup block and the sweep, the entry to
HALTING with what it does to the card hold (R110), and the end of HALTING. -/

namespace Sys2Proof.Machine

/-! ### The entry to HALTING (R143, R110) -/

/-- R110: the head of the card hold, by its state. -/
def haltHead (s : State) : State :=
  match s.clk.hold with
  | [] => s
  | t :: _ =>
    match t.session with
    | .waitingField => handOver t (.coded .halted none) s
    | .presence | .reading => closeHead t (.coded .halted (cardIdOf s)) {} s
    | .asking _ => endAsking t .halted s
    | .deciding _ p _ => endDeciding t p .halted .halted s
    | .stamping _ d p => settleStamp t d p .uncertain s
    | .closing _ _ _ => s

/-- R110: the second of the card hold, which waits for the field unless a CANCEL has ended it. -/
def haltSecond (s : State) : State :=
  match s.clk.hold with
  | [] | [_] => s
  | _ :: t :: _ => if t.session = .waitingField then handOver t (.coded .halted none) s else s

/-- R143: a HALT moves the part to HALTING: no scan begins, the poll timer stops, the extra scan pending is cleared, and
the tasks in the card hold are brought to completion. -/
def enterHalting (s : State) : State :=
  haltHead (haltSecond
    { s with
      mpt := { s.mpt with runState := .halting, haltPending := false }
      ssc := { s.ssc with pollTimer := none, extraScan := false, startUp := none } })

/-! ### START (R140 to R142) -/

/-- R142: after the last slot the cursor is 0, the part enters RUNNING and makes one scan. -/
def enterRunning (s : State) : State :=
  beginScan
    { s with
      mpt := { s.mpt with runState := .running }
      ssc := { s.ssc with startUp := none, cursor := 0 } }

/-- R142: the sweep goes on at a slot: a HALT taken meanwhile is taken here, and after the last slot the part enters
RUNNING. -/
def sweepFrom (slot : Nat) (s : State) : State :=
  if s.mpt.haltPending then enterHalting s
  else if slot < slotCount s then
    askRead .startUp (slotAddress s slot 0) 1 { s with ssc := { s.ssc with startUp := some (.sweepState slot) } }
  else enterRunning s

/-- R141: the values of a valid setup block are handed to their owners. The scan cursor and the fill cursor become 0
(R132, R155). -/
def handSetup (b : Setup) (s : State) : State :=
  { s with
    ssc := { s.ssc with sheet := some b.sheet, pollInterval := b.pollInterval, cursor := 0 }
    jnw := { s.jnw with ring := some b.ring, cursor := 0 }
    rcx := { s.rcx with conductor := b.conductor }
    fmn := { s.fmn with
      stopOnOpen := b.stopOnOpen
      reportOpen := b.reportOpen
      reportOvercurrent := b.reportOvercurrent
      reportWarning := b.reportWarning
      reportShutdown := b.reportShutdown } }

/-- R140: the setup block, read whole, is checked at one event; an invalid one gives the part nothing. -/
def checkSetup (data : List Byte) (s : State) : State :=
  match readSetup data with
  | none => enterHalted .setupInvalid s
  | some b => sweepFrom 0 (handSetup b s)

/-- R142: the answer of a bus access of the start-up work. -/
def startUpGoesOn (p : StartPhase) (data : List Byte) (s : State) : State :=
  match p with
  | .setupRead => checkSetup data s
  | .sweepState slot =>
    if byteAt data 0 = slotTaken then
      askRead .startUp (slotAddress s slot 2) 2 { s with ssc := { s.ssc with startUp := some (.sweepTag slot) } }
    else sweepFrom (slot + 1) s
  | .sweepTag slot =>
    askAnswer .startUp slot (halfAt data 0) abandonedAnswer
      { s with ssc := { s.ssc with startUp := some (.sweepAnswer slot) } }
  | .sweepAnswer slot =>
    askSlotState .startUp slot slotDone { s with ssc := { s.ssc with startUp := some (.sweepDone slot) } }
  | .sweepDone slot => sweepFrom (slot + 1) (raiseEvent evTaskDone s)

/-- R140: the read of the setup block is asked for, or an address that is no multiple of 4 makes the block invalid. -/
def startPart (s : State) : State :=
  let s := { s with mpt := { s.mpt with runState := .starting } }
  if s.mpt.setupAddress.toNat % 4 = 0 then
    askRead .startUp s.mpt.setupAddress 32 { s with ssc := { s.ssc with startUp := some .setupRead } }
  else enterHalted .setupInvalid s

/-- START (R139, R140): taken in HALTED, ignored in every other run state. -/
def execStart (s : State) : Host.Outcome State Fault Refusal :=
  if s.mpt.runState = .halted then settled (startPart s) else .next s

/-! ### The end of HALTING -/

/-- R143, R147: nothing the part has taken is left to complete: no task, no claim, no reservation, no update in transit,
no bus access, and the field off (log 12). -/
def nothingLeft (s : State) : Bool :=
  s.clk.hold.isEmpty && s.ssc.scan.isNone && s.ssc.startUp.isNone && journalQuiet s.jnw && s.snt.updates.isEmpty
  && s.clk.holder == .none && s.mpt.flight.isNone && s.mpt.waiting.isEmpty

/-- HALTING_END (R143): the part enters HALTED with cause COMMAND and raises HALTED. -/
def execHaltingEnd (s : State) : Host.Outcome State Fault Refusal :=
  if s.mpt.runState = .halting ∧ nothingLeft s = true then .next (enterHalted .command s) else .next s

end Sys2Proof.Machine
end

