-- ==== Sys2Proof/Machine/Power.lean ====
section
/-! DEFINITION. Power and Events (09_power_states_and_events.md): NUDGE and HALT in each power state, the timers of the
part, the card-near sense, and the entry to DOZE and SLEEP. -/

namespace Sys2Proof.Machine

/-! ### NUDGE and HALT (R133, R139, R164) -/

/-- R133: a NUDGE begins a scan, or sets the extra scan pending while one is in progress. -/
def nudgeAwake (s : State) : State :=
  if s.ssc.scan.isSome then { s with ssc := { s.ssc with extraScan := true } } else beginScan s

/-- R164: a wake from SLEEP begins its settling; a NUDGE met by one in progress is absorbed into it. -/
def nudgeAsleep (s : State) : State :=
  match s.pev.settling with
  | none => { s with pev := { s.pev with settling := some .scan } }
  | some _ => s

/-- R133, R164: a NUDGE taken in RUNNING. -/
def nudge (s : State) : State :=
  match s.pev.power with
  | .run | .reduced => nudgeAwake s
  | .doze => nudgeAwake (wakeToRun s)
  | .sleep => nudgeAsleep s

/-- NUDGE (R133, R139, R164): ignored in HALTED and HALTING; in STARTING the scan at the entry to RUNNING serves it. -/
def execNudge (s : State) : Host.Outcome State Fault Refusal :=
  if s.mpt.runState = .running then settled (nudge s) else .next s

/-- R164: a wake by HALT ends a sense pulse in progress at once, with no measurement. -/
def endPulse (s : State) : State := if s.clk.holder = .sense then turnOff s else s

/-- R139, R143, R164: a HALT taken in RUNNING, which in DOZE and SLEEP first wakes the part. -/
def haltRunning (s : State) : State :=
  match s.pev.power with
  | .run | .reduced => enterHalting s
  | .doze => enterHalting (endPulse (wakeToRun s))
  | .sleep => { s with pev := { s.pev with settling := some .halt } }

/-- HALT (R139): in STARTING it waits for the slot in hand (R142); it is ignored in HALTED and HALTING. -/
def execHalt (s : State) : Host.Outcome State Fault Refusal :=
  match s.mpt.runState with
  | .starting => .next { s with mpt := { s.mpt with haltPending := true } }
  | .running => settled (haltRunning s)
  | .halted | .halting => .next s

/-! ### The timers -/

/-- POLL_TIMER_EXPIRY (R133): in RUNNING in RUN or REDUCED a scan begins. -/
def execPollTimerExpiry (s : State) : Host.Outcome State Fault Refusal :=
  if scansAllowed s = true ∧ s.ssc.pollTimer.isSome = true ∧ s.ssc.scan = none then settled (beginScan s) else .next s

/-- R34: the minute rises by one, or holds at 2,879 and sets the clock stale. -/
def minutePasses (c : RunningContext) : RunningContext :=
  if c.minute = Config.lastMinute then { c with stale := true } else { c with minute := c.minute + 1 }

/-- MINUTE_TIMER_EXPIRY (R34): the timer runs in every power state but SLEEP and in every run state. -/
def execMinuteTimerExpiry (s : State) : Host.Outcome State Fault Refusal :=
  if s.rcx.minuteTimer then .next { s with rcx := minutePasses s.rcx } else .next s

/-- R162: the wake timer expires: the passive check, which needs the field off (R116), at once or when the sense pulse in
progress has ended. -/
def wakeExpires (period : Nat) (s : State) : State :=
  let s := { s with pev := { s.pev with wakeTimer := none } }
  if s.clk.holder = .none then beginDozeCheck period s
  else { s with pev := { s.pev with dozeJob := some (.awaitPulse period) } }

/-- WAKE_TIMER_EXPIRY (R162), in DOZE. -/
def execWakeTimerExpiry (s : State) : Host.Outcome State Fault Refusal :=
  match s.pev.wakeTimer with
  | none => .next s
  | some period =>
    if s.mpt.runState = .running ∧ s.pev.power = .doze then settled (wakeExpires period s) else .next s

/-! ### The card-near sense (R163) -/

/-- SENSE_TIMER_EXPIRY (R163, R86): in DOZE the sense claims the field for a pulse; a blocked field makes none. -/
def execSenseTimerExpiry (s : State) : Host.Outcome State Fault Refusal :=
  if s.mpt.runState = .running ∧ s.pev.power = .doze ∧ s.pev.senseTimer = true ∧ s.clk.holder = .none
      ∧ fieldBlocked s = false then
    settled (turnOn .sense s)
  else .next s

/-- R163: whether a measurement is a card near: more than 5 mA from a reference that there is. -/
def cardIsNear (reference : Option Nat) (m : Nat) : Bool :=
  match reference with
  | none => false
  | some r => decide (r + Config.senseMargin < m) || decide (m + Config.senseMargin < r)

/-- R163: a wake by card-near raises CARD NEAR and WOKE, makes no scan, and starts the poll timer, which waits for the end
of a scan in progress. -/
def wakeByCard (s : State) : State :=
  let s := wakeToRun (raiseEvent evCardNear s)
  if s.ssc.scan = none then startPoll s else s

/-- R163: the measurement is compared with the reference, in DOZE (log 31). -/
def senseMeasured (m : Nat) (s : State) : State :=
  if s.mpt.runState = .running ∧ s.pev.power = .doze then
    if cardIsNear s.pev.senseReference m then wakeByCard s
    else { s with pev := { s.pev with senseReference := some m } }
  else s

/-- SENSE_PULSE_END (R163, R86): the field is released, the measurement compared, and what waited for the end of the pulse
goes on. -/
def execSensePulseEnd (m : Nat) (s : State) : Host.Outcome State Fault Refusal :=
  if s.clk.holder = .sense then settled (afterPulse (senseMeasured m (turnOff s))) else .next s

/-! ### The wake from SLEEP (R164) -/

/-- R164: the part moves to RUN, the clock is marked stale, and the minute timer restarts. -/
def wakeFromSleep (s : State) : State :=
  wakeToRun
    { s with
      pev := { s.pev with settling := none }
      rcx := { s.rcx with stale := true, minuteTimer := true } }

/-- SETTLING_END (R164): a wake by NUDGE is followed by a scan, a wake by HALT by the HALT. -/
def execSettlingEnd (s : State) : Host.Outcome State Fault Refusal :=
  match s.pev.settling with
  | none => .next s
  | some .scan => settled (nudgeAwake (wakeFromSleep s))
  | some .halt => settled (enterHalting (wakeFromSleep s))

/-! ### The entry to DOZE and SLEEP (R161) -/

/-- R161: the entry to DOZE. -/
def enterDoze (c : PowerChange) (s : State) : State :=
  { s with
    ssc := { s.ssc with pollTimer := none }
    pev := { s.pev with
      power := .doze
      wakeTimer := some c.period
      dozeJob := none
      cardNear := c.cardNear
      senseTimer := c.cardNear
      senseReference := none } }

/-- R161: the entry to SLEEP stops the part's clock, and every timer and check with it (R159; log 23). -/
def enterSleep (s : State) : State :=
  { s with
    ssc := { s.ssc with pollTimer := none }
    rcx := { s.rcx with minuteTimer := false }
    fmn := { s.fmn with passive := none }
    pev := { s.pev with power := .sleep } }

/-- R161: the entry to the target of an accepted POWER task, with the field off. -/
def enterPower (c : PowerChange) (s : State) : State :=
  match c.target with
  | .doze => enterDoze c (endPulse s)
  | .sleep => enterSleep (endPulse s)
  | .run | .reduced => { s with pev := { s.pev with power := c.target } }

/-- R137, R161: an accepted target of DOZE or SLEEP ends the scan with the POWER slot written DONE; an extra scan pending
is a NUDGE in the new state. -/
def endScanInto (sc : Scan) (c : PowerChange) (s : State) : State :=
  let extra := s.ssc.extraScan
  let s := closeScan sc { s with ssc := { s.ssc with extraScan := false } }
  let s := enterPower c s
  if extra then nudge s else s

/-- R160, R161: what follows the DONE of a POWER slot. In HALTING the part does not change to DOZE or SLEEP (log 14),
but does to RUN or REDUCED (DESIGN CHOICE, log 47). -/
def powerDone (sc : Scan) (c : PowerChange) (s : State) : State :=
  if endsScan c.target then
    if s.mpt.runState = .running then endScanInto sc c s else goOn sc s
  else goOn sc (enterPower c s)

end Sys2Proof.Machine
end

