-- ==== Sys2Proof/Machine/MemoryResponse.lean ====
section
/-! DEFINITION. The answer of a bus access and the memory fault (R144): the work that asked for the access goes on, or the
part halts at once. -/

namespace Sys2Proof.Machine

/-! ### The scan examines slots (R134, R135) -/

/-- R134, R137: the state of the slot in hand is read: a POSTED slot's kind and tag are read next, and in HALTING no further
slot is taken. -/
def stateRead (sc : Scan) (data : List Byte) (s : State) : State :=
  if byteAt data 0 ≠ slotPosted then goOn sc s
  else if s.mpt.runState = .running then
    askRead .scan (slotAddress s sc.index 1) 3 (setScan { sc with phase := .readHead } s)
  else endScan { sc with leftPosted := sc.leftPosted ++ [sc.index] } s

/-- R130: the kind and the tag of a POSTED slot are read: of a task of unknown kind nothing beyond them is read, and it is
taken; the request area of a known kind is read next. -/
def headRead (sc : Scan) (data : List Byte) (s : State) : State :=
  if s.mpt.runState ≠ .running then endScan { sc with leftPosted := sc.leftPosted ++ [sc.index] } s
  else if taskKind (byteAt data 0) = none then takeSlot sc (halfAt data 1) .badKind s
  else askRead .scan (slotAddress s sc.index 4) 20 (setScan { sc with phase := .readRequest data } s)

/-- R135: a CARD INSPECT with good fields that the scan must pass over. -/
def passOver (sc : Scan) (p : Parsed) (s : State) : Bool :=
  match p with
  | .good (.cardInspect _) => decide (Config.holdPlaces ≤ s.clk.hold.length) || sc.cardPassed
  | _ => false

/-- R134: a POSTED slot is treated by the first case that fits it. The bytes read begin at the kind, so one byte stands for
the state. -/
def requestRead (sc : Scan) (head data : List Byte) (s : State) : State :=
  let b := slotPosted :: (head ++ data)
  let p := readSlot (slotCount s) b
  if s.mpt.runState ≠ .running then endScan { sc with leftPosted := sc.leftPosted ++ [sc.index] } s
  else if passOver sc p s then goOn { sc with leftPosted := sc.leftPosted ++ [sc.index], cardPassed := true } s
  else takeSlot sc (halfAt b 2) p s

/-- R130, R134: TAKEN is written: a bad task is refused, a good one goes to its owner. -/
def slotTakenWritten (sc : Scan) (tag : Half) (p : Parsed) (s : State) : State :=
  match p with
  | .badKind => completeTask sc tag (refusedAnswer .badKind) none s
  | .badField k => completeTask sc tag (badFieldAnswer k s) none s
  | .good r => setScan { sc with phase := .handed ⟨tag, r⟩ } s

/-! ### A task's buffers and the target of a CANCEL -/

/-- R25: the token has been read: serial 0 is refused; otherwise the decision point begins, with the record as place 0. -/
def tokenServed (sc : Scan) (t : Task) (r : TokenRequest) (data : List Byte) (s : State) : State :=
  if credAt data 0 = 0 then completeTask sc t.tag (refusedAnswer .badField) none s
  else
    serveOn sc t (.tokenAsk
      { inspection :=
          { card := false, cred := credAt data 0, places := [readPlace (data.drop 8), none, none], stamp := .absent
            seated := r.seated, ride := r.ride } }) s

/-- R37, R39, R40: the stop list has been read: a refusal; the Seen Table emptied, with the installation to follow; or the
continuation installed. -/
def routeServed (sc : Scan) (t : Task) (r : RouteRequest) (data : List Byte) (s : State) : State :=
  let stops := readStops r.count data
  match checkRoute r stops s.rcx with
  | .error why => completeTask sc t.tag (routeRefused why s.rcx) none s
  | .ok .newTrip => serveOn sc t (.routeInstall stops) (emptyForTrip s)
  | .ok (.continueAt p before) =>
    let c := installContinue r stops p s.rcx
    completeTask sc t.tag (routeAnswer r.mode (some before) c) none { s with rcx := c }

/-- R58 to R61: the notes have been read: one out of range refuses the task; otherwise they are merged, as soon as the Seen
Table is free for it. -/
def notesServed (sc : Scan) (t : Task) (n : Nat) (data : List Byte) (s : State) : State :=
  match readNotes n data with
  | none => completeTask sc t.tag (refusedAnswer .badField) none s
  | some notes => notesDue sc t notes s

/-- R108: the tag of a CANCEL's POSTED target is read: TAKEN is written there. The slot counts as taken by this scan, and is no
longer left POSTED (R136; log 19). -/
def cancelTagRead (sc : Scan) (t : Task) (target : Nat) (data : List Byte) (s : State) : State :=
  askSlotState .scan target slotTaken
    (serveOn { sc with lastTaken := some target, leftPosted := sc.leftPosted.filter (fun i => i != target) } t
      (.cancelTaken (halfAt data 0)) s)

/-- The work of the task in hand goes on at the answer of its bus access. -/
def servingGoesOn (sc : Scan) (t : Task) (g : ServeStage) (data : List Byte) (s : State) : State :=
  match g, t.req with
  | .tokenRead, .tokenInspect r => tokenServed sc t r data s
  | .routeRead, .route r => routeServed sc t r data s
  | .replaceRead, .denyReplace r => replaceServed sc t.tag r data s
  | .deltaRead, .denyDelta r => deltaServed sc t.tag r data s
  | .notesRead, .peerNotes n _ => notesServed sc t n data s
  | .exportWrite rest place body, .seenExport _ _ address => exportNext sc t address rest place body s
  | .recordWrite, _ => completeTask sc t.tag (okAnswer []) none s
  | .keyRead, .keyLoad slot replace _ => keyServed sc t.tag slot replace data s
  | .cancelRead, .cancel target => cancelTagRead sc t target data s
  | .cancelTaken tag, .cancel target =>
    askAnswer .scan target tag { code := .cancelled } (serveOn sc t .cancelAnswer s)
  | .cancelAnswer, .cancel target => askSlotState .scan target slotDone (serveOn sc t .cancelDone s)
  | .cancelDone, _ =>
    completeTask sc t.tag (cancelAnswer .targetCancelled slotPosted.toNat none) none (raiseEvent evTaskDone s)
  | _, _ => s

/-! ### Completion (R131, R160, R161) -/

/-- R131, R160: the answer is written: DONE is written next, but an accepted POWER to DOZE or SLEEP that a HALT has
overtaken is answered BUSY (log 14), the held tasks being counted then (log 45). -/
def answerWritten (sc : Scan) (tag : Half) (change : Option PowerChange) (s : State) : State :=
  if (change.map fun c => endsScan c.target).getD false && s.mpt.runState == .halting then
    completeTask sc tag (powerBusy s.pev.power s.clk.hold.length) none s
  else askSlotState .scan sc.index slotDone (setScan { sc with phase := .writeDone change } s)

/-- R131: DONE is written: TASK DONE is raised and the scan moves on, or the power state changes (R161). -/
def doneWritten (sc : Scan) (change : Option PowerChange) (s : State) : State :=
  match change with
  | none => goOn sc (raiseEvent evTaskDone s)
  | some c => powerDone sc c (raiseEvent evTaskDone s)

/-- The answer of a bus access of the scan. -/
def scanGoesOn (sc : Scan) (data : List Byte) (s : State) : State :=
  match sc.phase with
  | .readState => stateRead sc data s
  | .readHead => headRead sc data s
  | .readRequest head => requestRead sc head data s
  | .writeTaken tag p => slotTakenWritten sc tag p s
  | .handed _ => s
  | .serving t g => servingGoesOn sc t g data s
  | .writeAnswer tag change => answerWritten sc tag change s
  | .writeDone change => doneWritten sc change s

/-- R109: the CANCEL that waits for a held target's DONE completes. -/
def cancelServed (slot : Nat) (s : State) : State :=
  match servedTask s with
  | some (sc, t, .cancelWait target body) => if target = slot then completeTask sc t.tag body none s else s
  | _ => s

/-- R102, R131: the answer of a bus access of a card task in CLOSING: DONE follows the answer; at DONE the task leaves the
hold and the second becomes head (R88). -/
def cardGoesOn (slot : Nat) (s : State) : State :=
  match findHeld slot s with
  | none => s
  | some t =>
    match t.session with
    | .closing e owed .writeAnswer =>
      askSlotState (.card slot) slot slotDone (setSession slot (.closing e owed .writeDone) s)
    | .closing _ _ .writeDone => cancelServed slot (leaveHold slot (raiseEvent evTaskDone s))
    | .closing _ _ .awaitJournal | .waitingField | .presence | .reading | .asking _ | .deciding _ _ _
    | .stamping _ _ _ => s

/-! ### The commands -/

/-- The work that asked for an access goes on with what it read. -/
def resume (c : Client) (data : List Byte) (s : State) : State :=
  match c, s.ssc.startUp, s.ssc.scan with
  | .startUp, some p, _ => startUpGoesOn p data s
  | .startUp, none, _ => s
  | .scan, _, some sc => scanGoesOn sc data s
  | .scan, _, none => s
  | .card slot, _, _ => cardGoesOn slot s
  | .journal, _, _ => journalGoesOn data s

/-- MEMORY_RESPONSE (R144): the access in flight is answered, and the block that asked for it goes on with its work. Bytes
that do not answer the access have no effect (log 25). -/
def execMemoryResponse (data : List Byte) (s : State) : Host.Outcome State Fault Refusal :=
  match s.mpt.flight with
  | none => .next s
  | some a =>
    if answers data a then settled (resume a.client data { s with mpt := { s.mpt with flight := none } }) else .next s

/-- R165: what a memory fault does to Power and Events: DOZE ends in RUN with no WOKE, and its timers stop; RUN and REDUCED
stay. None meets the part in SLEEP, where no access is made. -/
def faultPower (p : PowerEvents) : PowerEvents :=
  { p with
    power := if p.power = .doze then .run else p.power
    settling := none, wakeTimer := none, dozeJob := none, cardNear := false, senseTimer := false, senseReference := none }

/-- R144, R111, R157, R116, R165: the part halts at once; every task, session and journal service is dropped. Updates of
rides already sent reach the Seen Table first (log 11). -/
def memoryFaultHalts (s : State) : State :=
  let s := deliverUpdates s
  raiseEvent (evMemoryFault ||| evHalted)
    { s with
      mpt := { s.mpt with
        runState := .halted, haltCause := .memoryFault, haltPending := false, flight := none, waiting := [], asked := [] }
      ssc := { s.ssc with scan := none, startUp := none, pollTimer := none, extraScan := false }
      clk := {}
      fmn := { s.fmn with passive := none, detected := false }
      jnw := dropJournalWork s.jnw
      pev := faultPower s.pev }

/-- MEMORY_FAULT (R144): the access in flight goes unanswered for 20 microseconds. -/
def execMemoryFault (s : State) : Host.Outcome State Fault Refusal :=
  if s.mpt.flight.isSome then .next (memoryFaultHalts s) else .next s

end Sys2Proof.Machine
end

