-- ==== Sys2Proof/Machine/Registers.lean ====
section
/-! DEFINITION. The register window (09_power_states_and_events.md, 9.6; 11.7): what each register reads, what a write to
CONTROL gives, the writes to the other three, RESET, and CLEAR FAULTS. -/

namespace Sys2Proof.Machine

/-! ### Reads (R169, R178) -/

/-- A read of CONTROL (R169, 11.7): run state at 17:16, halt cause at 19:18, power state at 21:20, the latched flags at
27:24, 0 elsewhere. -/
def readControl (s : State) : Word :=
  (BitVec.ofNat 32 (runStateCode s.mpt.runState) <<< 16) ||| (BitVec.ofNat 32 (haltCauseCode s.mpt.haltCause) <<< 18)
  ||| (BitVec.ofNat 32 (powerCode s.pev.power) <<< 20) ||| ((latchedFlags s.fmn).setWidth 32 <<< 24)

/-- A read of SETUP ADDRESS (R169). -/
def readSetupAddress (s : State) : Word := s.mpt.setupAddress

/-- A read of EVENTS (R169). -/
def readEvents (s : State) : Word := s.pev.events.setWidth 32

/-- A read of EVENT ENABLE (R167). -/
def readEventEnable (s : State) : Word := s.pev.enables.setWidth 32

/-! ### Writes -/

/-- The commands that a write to CONTROL gives (R139, R164, R169, R178): RESET alone where it is set; HALT alone of the
run commands where it is set; a run command and CLEAR FAULTS are two events without an order, and the first argument says
which comes first (log 21). The temperature is the one that RESET then measures. -/
def controlWrite (clearFirst : Bool) (dieTemp : Int) (v : Word) : List Instr :=
  let run := if v.getLsbD 1 then [Instr.halt]
    else (if v.getLsbD 0 then [Instr.start] else []) ++ (if v.getLsbD 2 then [Instr.nudge] else [])
  let clear := if v.getLsbD 3 then [Instr.clearFaults] else []
  if v.getLsbD 7 then [Instr.reset dieTemp]
  else if clearFirst then clear ++ run else run ++ clear

/-- EVENTS_WRITE (R166, R178): a 1 clears its flag, a 0 leaves it; bits 31 to 8 have no effect. -/
def execEventsWrite (v : Word) (s : State) : Host.Outcome State Fault Refusal :=
  .next { s with pev := { s.pev with events := s.pev.events &&& ~~~(v.setWidth 8) } }

/-- EVENT_ENABLE_WRITE (R167, R178): bits 0 to 7 replace the enables. -/
def execEventEnableWrite (v : Word) (s : State) : Host.Outcome State Fault Refusal :=
  .next { s with pev := { s.pev with enables := v.setWidth 8 } }

/-- SETUP_ADDRESS_WRITE (R169): any value replaces the value held; the next START reads it. -/
def execSetupAddressWrite (v : Word) (s : State) : Host.Outcome State Fault Refusal :=
  .next { s with mpt := { s.mpt with setupAddress := v } }

/-! ### RESET (R145, R112) -/

/-- R112: a die found at or above 105 or 125 degrees latches the matching flag at once after the reset. -/
def latchHotDie (s : State) : State :=
  let s := if 105 ≤ s.fmn.dieTemp then warm s else s
  if 125 ≤ s.fmn.dieTemp then latchShutdown { s with fmn := { s.fmn with shutdownBlock := true } } else s

/-- R145: every block returns to its values for RESET, with the die temperature measured. The queue of commands and the
counter of free values are no state of the part, and they stay (log 27). -/
def resetPart (dieTemp : Int) (s : State) : State :=
  latchHotDie
    { State.reset with fmn := { dieTemp := clampTemp dieTemp }, draws := s.draws, pending := s.pending }

/-- RESET written to CONTROL (R145), in every run state and power state. -/
def execReset (dieTemp : Int) (s : State) : Host.Outcome State Fault Refusal := .next (resetPart dieTemp s)

/-- RESET_LINE (R145): the same effect. -/
def execResetLine (dieTemp : Int) (s : State) : Host.Outcome State Fault Refusal := .next (resetPart dieTemp s)

/-! ### CLEAR FAULTS (R120) -/

/-- R120: the ANTENNA OPEN flag is cleared unless the finding is OPEN, and its block lifts with it. -/
def clearOpen (s : State) : State :=
  if s.fmn.antennaOpen = true ∧ s.fmn.finding ≠ .openAntenna then
    let t := { s with fmn := { s.fmn with antennaOpen := false, openBlock := false } }
    if s.fmn.openBlock then blockLifted t else t
  else s

/-- R120: the OVERCURRENT flag is always cleared, and its block lifts with it. -/
def clearOvercurrent (s : State) : State :=
  if s.fmn.overcurrent then
    let t := { s with fmn := { s.fmn with overcurrent := false, overcurrentBlock := false } }
    if s.fmn.overcurrentBlock then blockLifted t else t
  else s

/-- R120: the thermal flags are cleared unless reduced duty, or the shutdown block, is in force. -/
def clearThermal (f : FieldMonitor) : FieldMonitor :=
  { f with
    thermalWarning := f.thermalWarning && f.reducedDuty
    thermalShutdown := f.thermalShutdown && f.shutdownBlock }

/-- R120: CLEAR FAULTS as one event at the Field Monitor. -/
def clearFaults (s : State) : State :=
  let s := clearOvercurrent (clearOpen s)
  { s with fmn := clearThermal s.fmn }

/-- CLEAR_FAULTS (R120, R139): taken in every run state. -/
def execClearFaults (s : State) : Host.Outcome State Fault Refusal := .next (clearFaults s)

end Sys2Proof.Machine
end

