-- ==== Sys2Proof/Machine/Dispatch.lean ====
section
/-! DEFINITION. The meaning of each command: one arm per constructor, each a call of its meaning. -/

namespace Sys2Proof.Machine

/-- What a command does to everything but the queue. -/
def exec (i : Instr) (s : State) : Host.Outcome State Fault Refusal :=
  match i with
  | .start => Sys2Proof.Machine.execStart s
  | .halt => Sys2Proof.Machine.execHalt s
  | .nudge => Sys2Proof.Machine.execNudge s
  | .clearFaults => Sys2Proof.Machine.execClearFaults s
  | .reset dieTemp => Sys2Proof.Machine.execReset dieTemp s
  | .resetLine dieTemp => Sys2Proof.Machine.execResetLine dieTemp s
  | .eventsWrite value => Sys2Proof.Machine.execEventsWrite value s
  | .eventEnableWrite value => Sys2Proof.Machine.execEventEnableWrite value s
  | .setupAddressWrite value => Sys2Proof.Machine.execSetupAddressWrite value s
  | .memoryResponse data => Sys2Proof.Machine.execMemoryResponse data s
  | .memoryFault => Sys2Proof.Machine.execMemoryFault s
  | .pollTimerExpiry => Sys2Proof.Machine.execPollTimerExpiry s
  | .minuteTimerExpiry => Sys2Proof.Machine.execMinuteTimerExpiry s
  | .wakeTimerExpiry => Sys2Proof.Machine.execWakeTimerExpiry s
  | .senseTimerExpiry => Sys2Proof.Machine.execSenseTimerExpiry s
  | .sensePulseEnd current => Sys2Proof.Machine.execSensePulseEnd current s
  | .passiveCheckEnd carried dieTemp => Sys2Proof.Machine.execPassiveCheckEnd carried dieTemp s
  | .settlingEnd => Sys2Proof.Machine.execSettlingEnd s
  | .presenceIntervalExpiry => Sys2Proof.Machine.execPresenceIntervalExpiry s
  | .presentationDeadline => Sys2Proof.Machine.execPresentationDeadline s
  | .replyLimitExpiry => Sys2Proof.Machine.execReplyLimitExpiry s
  | .antennaOpenDetection => Sys2Proof.Machine.execAntennaOpenDetection s
  | .antennaCurrentRise => Sys2Proof.Machine.execAntennaCurrentRise s
  | .overcurrentDetection => Sys2Proof.Machine.execOvercurrentDetection s
  | .thermalWarning dieTemp => Sys2Proof.Machine.execThermalWarning dieTemp s
  | .reducedDutyLift dieTemp => Sys2Proof.Machine.execReducedDutyLift dieTemp s
  | .thermalShutdown dieTemp => Sys2Proof.Machine.execThermalShutdown dieTemp s
  | .shutdownBlockLift dieTemp => Sys2Proof.Machine.execShutdownBlockLift dieTemp s
  | .hello link cardId filled stampPresent => Sys2Proof.Machine.execHello link cardId filled stampPresent s
  | .area link records stamp asks => Sys2Proof.Machine.execArea link records stamp s asks
  | .stampAck link cardId => Sys2Proof.Machine.execStampAck link cardId s
  | .checkStampReply link stamp => Sys2Proof.Machine.execCheckStampReply link stamp s
  | .cardInspect => Sys2Proof.Machine.execCardInspect s
  | .tokenInspect asks => Sys2Proof.Machine.execTokenInspect s asks
  | .route => Sys2Proof.Machine.execRoute s
  | .position => Sys2Proof.Machine.execPosition s
  | .denyReplace => Sys2Proof.Machine.execDenyReplace s
  | .denyDelta => Sys2Proof.Machine.execDenyDelta s
  | .denyPrune => Sys2Proof.Machine.execDenyPrune s
  | .peerNotes => Sys2Proof.Machine.execPeerNotes s
  | .seenExport => Sys2Proof.Machine.execSeenExport s
  | .fieldTest dieTemp => Sys2Proof.Machine.execFieldTest dieTemp s
  | .power => Sys2Proof.Machine.execPower s
  | .cancel state kind => Sys2Proof.Machine.execCancel s state kind
  | .keyLoad => Sys2Proof.Machine.execKeyLoad s
  | .keyClear => Sys2Proof.Machine.execKeyClear s
  | .status dieTemp overLimit asks => Sys2Proof.Machine.execStatus dieTemp overLimit s asks
  | .identify => Sys2Proof.Machine.execIdentify s
  | .journalClaim => Sys2Proof.Machine.execJournalClaim s
  | .reservationFill => Sys2Proof.Machine.execReservationFill s
  | .seenUpdate => Sys2Proof.Machine.execSeenUpdate s
  | .haltingEnd => Sys2Proof.Machine.execHaltingEnd s

end Sys2Proof.Machine
end

