-- ==== Sys2Proof/Safety.lean ====
section
/-! DEFINITION. What stays true of the part: the invariants that the manual's rules give, stated of a state; and the words in
which statements say what a command asks of the bus and what becomes of the task in hand. -/

namespace Sys2Proof.Machine

/-- R144: one access at a time, and none waits while the bus is free; between steps no request is out of the queue. -/
def portRule (s : State) : Bool := s.mpt.asked.isEmpty && (s.mpt.flight.isSome || s.mpt.waiting.isEmpty)

/-- R86, R116: the field is on only while no block is in force, and a passive check runs only with the field off. -/
def fieldRule (s : State) : Bool :=
  (s.clk.holder == .none || !fieldBlocked s) && (s.fmn.passive.isNone || s.clk.holder == .none)

/-- R112, R118, R119: the temperature lies in the sensor's range, the shutdown block is in force at 125 degrees or above and
not below 110, and reduced duty at 105 or above and not at 95 or below. -/
def heatRule (s : State) : Bool := tempQuiet s.fmn.dieTemp s.fmn

/-! ### The card hold (R88, R91, R127) -/

/-- Whether the scan has taken a CARD INSPECT that has not yet entered the hold. -/
def cardComing (s : State) : Bool :=
  match s.ssc.scan.map Scan.phase with
  | some (.writeTaken _ (.good (.cardInspect _))) | some (.handed ⟨_, .cardInspect _⟩) => true
  | _ => false

/-- A session that waits its turn or has ended (R91). -/
def waitsOrCloses : Session → Bool
  | .waitingField | .closing _ _ _ => true
  | .presence | .reading | .asking _ | .deciding _ _ _ | .stamping _ _ _ => false

/-- A session that may come to send a STAMP UNCERTAIN update: at its decision point, one whose consult found room for a pin. -/
def mayStamp : Session → Bool
  | .asking a => a.seen.any fun r => decide (r.pins < Config.pinned)
  | .deciding _ _ _ | .stamping _ _ _ => true
  | .waitingField | .presence | .reading | .closing _ _ _ => false

/-- R88, R127: the hold never holds more than two tasks, with a place left for a task being taken; no slot is held twice;
the slot in hand is not held; and only the head's session goes beyond WAITING FIELD. -/
def holdRule (s : State) : Bool :=
  decide (s.clk.hold.length ≤ Config.holdPlaces) && (!cardComing s || decide (s.clk.hold.length < Config.holdPlaces))
  && decide (heldSlots s).Nodup
  && (s.ssc.scan.all fun sc => !(heldSlots s).contains sc.index)
  && (s.clk.hold.tail.all fun t => waitsOrCloses t.session)

/-! ### The Seen Table (R47 to R55) -/

/-- Updates in transit that pin a record when they arrive. -/
def pinsInTransit (t : SeenTable) : Nat :=
  t.updates.countP fun u => match u.outcome with
    | .uncertain _ _ => true
    | .landed _ | .token | .stampFailed _ | .refused => false

/-- R55, R97: the pinned records, those about to be pinned, and the one a session may yet pin are no more than 32, and the
table holds no more than 2,048 records. -/
def pinRule (s : State) : Bool :=
  decide (pinCount s.snt + pinsInTransit s.snt + bit (s.clk.hold.any fun t => mayStamp t.session) ≤ Config.pinned)
  && decide (s.snt.records.length ≤ Config.seenRecords)

/-- An insertion number below the counter (R49). -/
def belowCounter (n : Word) : InsertionCounter → Prop
  | .next m => n < m
  | .exhausted => True

/-- R48, R49: one record for each credential, in rising insertion number, each number below the counter; a pending sequence
stands exactly beside stamp state UNCERTAIN. -/
def seenRule (t : SeenTable) : Prop :=
  (t.records.map SeenRecord.cred).Nodup
  ∧ (t.records.map SeenRecord.number).Pairwise (fun a b => a < b)
  ∧ (∀ r ∈ t.records, belowCounter r.number t.counter)
  ∧ (∀ r ∈ t.records, r.pendingSequence.isSome = (r.stamp == .uncertain))

/-! ### The Deny List (R64 to R68) -/

/-- The entries of a table that fall into a cell. -/
def inCell (k : Fin 4096) (es : List DenyEntry) : Nat := es.countP fun e => cellOf e.cred == k

/-- R68: a cell holds the number of entries that fall into it, or 15, at which it sticks. -/
def filterRule (d : DenyList) : Prop := ∀ k : Fin 4096, d.filter[k] = 15 ∨ d.filter[k].toNat = inCell k d.table

/-- R73: the highest credential ID loaded is the last of the table. -/
def highestRule (d : DenyList) : Prop := ∀ l, d.load = some l → l.highest = d.table.getLast?.map DenyEntry.cred

/-- R64, R66, R76: the list in its three states. -/
def denyStateRule (d : DenyList) : Prop :=
  (d.load.isSome ↔ d.state = .loading) ∧ (d.staging.isSome → d.state = .ready) ∧ (d.state = .invalid → d.table = [])

/-- R64 to R79: the table in strictly ascending order of credential ID and within its capacity, the filter counting it, the
load and the staging area where the list state allows them, and no more than 1,024 staged operations. -/
def denyRule (d : DenyList) : Prop :=
  (d.table.map DenyEntry.cred).Pairwise (fun a b => a < b) ∧ d.table.length ≤ Config.denyEntries
  ∧ filterRule d ∧ highestRule d ∧ denyStateRule d
  ∧ (∀ st, d.staging = some st → st.ops.length ≤ Config.stagingOps)

/-! ### The Running Context (R30 to R32) -/

/-- R32: a position on a route. -/
def positionOk (n : Nat) : Position → Bool
  | .atStop k => decide (k < n)
  | .between k => decide (k + 1 < n)

/-- R31: a route table of 2 to 48 stops, with codes 1 to 65,534, none twice, and zones 0 to 31. -/
def routeOk (route : List Stop) : Bool := stopCountOk route.length && route.all stopOk && codesDistinct route

/-- R30 to R32, R34: nothing of a trip in state NONE; in ACTIVE a route, a position on it and a trip number; the minute at
most 2,879. -/
def contextOk (c : RunningContext) : Bool :=
  minuteOk c.minute
  && match c.state with
    | .none => c.route.isEmpty && c.position.isNone && c.trip == 0
    | .active => routeOk c.route && (c.position.map (positionOk c.route.length)).getD false && c.trip != 0

/-- R36, R42: a ROUTE or POSITION whose fields the Sheet Scanner has checked. -/
def requestOk : Request → Bool
  | .route r => r.trip != 0 && minuteOk r.minute
  | .position r => stopCodeOk r.stop && (r.minute.map minuteOk).getD true
  | _ => true

/-- R37: the stage of a ROUTE after each of its checks. -/
def stageOk : Request → ServeStage → Bool
  | .route r, .routeRead => stopCountOk r.count
  | .route r, .routeInstall stops => routeOk stops && (stopIndex stops r.start).isSome
  | _, _ => true

/-- The task in hand has passed the checks that its phase comes after (R130, R37). -/
def taskOk (s : State) : Bool :=
  match s.ssc.scan.map Scan.phase with
  | some (.writeTaken _ (.good r)) => requestOk r
  | some (.handed t) => requestOk t.req
  | some (.serving t g) => requestOk t.req && stageOk t.req g
  | _ => true

/-- The context and the task in hand. -/
def contextRule (s : State) : Bool := contextOk s.rcx && taskOk s

/-! ### Where the sheet and the ring lie (R125, R132, R146) -/

/-- R125: a sheet of 4 to 256 slots at a multiple of 64. -/
def sheetOk (sh : Sheet) : Bool := decide (sh.base.toNat % 64 = 0) && decide (4 ≤ sh.slots) && decide (sh.slots ≤ 256)

/-- R146: a ring of 8 to 1,024 entries at a multiple of 32. -/
def ringOk (r : Ring) : Bool := decide (r.base.toNat % 32 = 0) && decide (8 ≤ r.entries) && decide (r.entries ≤ 1024)

/-- R125, R132, R146, R147: sheet, poll interval, ring and fill cursor in their ranges. -/
def layoutRule (s : State) : Bool :=
  s.ssc.sheet.all sheetOk && decide (s.ssc.pollInterval ≤ 250) && s.jnw.ring.all ringOk
  && match s.jnw.ring with
    | none => s.jnw.cursor == 0
    | some r => decide (s.jnw.cursor < r.entries)

/-! ### A part that has halted -/

/-- R85, R127, R132, R138, R143, R147: no task, session, journal work, update or bus access is left. -/
def restRule (s : State) : Bool :=
  s.clk.hold.isEmpty && s.ssc.scan.isNone && journalQuiet s.jnw && s.snt.updates.isEmpty && s.clk.holder == .none

/-- R85, R127, R138: a HALTED part is at rest with the bus free; a STARTING part is at rest but for its start-up work; and
the work of DOZE is done in DOZE alone. -/
def haltedRule (s : State) : Bool :=
  (match s.mpt.runState with
    | .halted => restRule s && s.mpt.flight.isNone && s.mpt.waiting.isEmpty && s.ssc.startUp.isNone
    | .starting => restRule s && s.ssc.startUp.isSome
        && (s.mpt.flight.map Access.client) == some .startUp && s.mpt.waiting.isEmpty
    | .running | .halting => s.ssc.startUp.isNone)
  && (s.pev.dozeJob.isNone || (s.mpt.runState == .running && s.pev.power == .doze))
  && (s.pev.settling.isNone || (s.mpt.runState == .running && s.pev.power == .sleep))
  && s.mpt.asked.isEmpty

/-- R159, R165: no task is held and nothing is left for the Journal Writer, so only a scan can ask for the bus. -/
def scanAlone (s : State) : Bool :=
  s.clk.hold.isEmpty && journalQuiet s.jnw && s.snt.updates.isEmpty && s.mpt.waiting.isEmpty

/-- A scan that has taken no slot (R162). -/
def looksOnly : ScanPhase → Bool
  | .readState | .readHead | .readRequest _ => true
  | .writeTaken _ _ | .handed _ | .serving _ _ | .writeAnswer _ _ | .writeDone _ => false

/-- R162, R165: in DOZE the bus is free but for the scan of a wake-timer expiry, which has taken no slot; while the wake timer
runs there is no such work. -/
def dozeRule (s : State) : Bool :=
  (s.pev.wakeTimer.isNone || s.pev.dozeJob.isNone)
  && match s.ssc.scan with
    | none => s.mpt.flight.isNone
    | some sc =>
      looksOnly sc.phase
      && (match s.pev.dozeJob with
        | some (.scanning _) => true
        | some (.awaitPulse _) | some (.checking _) | none => false)
      && (s.mpt.flight.map Access.client) == some .scan

/-- R160, R161: whether a POWER to DOZE or SLEEP has been answered OK and the change is to follow its DONE. -/
def changeComes (s : State) : Bool :=
  match s.ssc.scan.map Scan.phase with
  | some (.writeAnswer _ (some c)) | some (.writeDone (some c)) => endsScan c.target
  | _ => false

/-- R139, R159, R162, R164, R165: only a RUNNING part is in DOZE or SLEEP; in both no task is held and the Journal Writer has
nothing to do, in SLEEP no scan runs and no access is made, and in DOZE an access is made by the scan of a wake-timer expiry
alone; and so it stands when the change to either comes. -/
def powerRule (s : State) : Bool :=
  (s.mpt.runState == .running || s.pev.power == .run || s.pev.power == .reduced)
  && (match s.pev.power with
    | .sleep => scanAlone s && s.ssc.scan.isNone && s.mpt.flight.isNone
    | .doze => scanAlone s && dozeRule s
    | .run | .reduced => true)
  && (!changeComes s || (scanAlone s && (s.mpt.flight.map Access.client) == some .scan))

/-! ### What a command asks of the bus -/

/-- R144: the port after accesses are asked for in this order: the oldest is in flight, with its summary taken from the
state t if it is an answer, and the others wait. -/
def busAfter (t : State) (m : MemoryPort) (asked : List Access) : MemoryPort :=
  match m.flight, m.waiting ++ asked with
  | none, a :: rest => { m with flight := some (stampSummary t a), waiting := rest }
  | _, w => { m with waiting := w }

/-- R144: accesses asked for at one event, in an order left open (log 4). -/
def AsksFor (asked : List Access) (m : MemoryPort) (t : State) : Prop :=
  ∃ order : List Access, order.Perm asked ∧ t.mpt = busAfter t m order

/-- A read of a block. -/
def readOf (c : Client) (address : Word) (length : Nat) : Access :=
  { client := c, address := address, kind := .read length }

/-- A write of a block. -/
def writeOf (c : Client) (address : Word) (data : List Byte) : Access :=
  { client := c, address := address, kind := .write data }

/-- The write of an answer into a slot (R131). -/
def answerOf (c : Client) (s : State) (slot : Nat) (tag : Half) (body : AnswerBody) : Access :=
  { client := c, address := slotAddress s slot 24, kind := .write (answerBytes tag body), summary := true }

/-- R131: from s to t the task in hand completes: its answer is asked for, and DONE is to follow. -/
def Completes (sc : Scan) (tag : Half) (body : AnswerBody) (change : Option PowerChange) (s t : State) : Prop :=
  t.mpt = busAfter t s.mpt [answerOf .scan s sc.index tag body]
  ∧ t.ssc = { s.ssc with scan := some { sc with phase := .writeAnswer tag change } }

/-- From s to t the task in hand asks for an access and waits for it at a stage. -/
def ServesOn (sc : Scan) (task : Task) (g : ServeStage) (a : Access) (s t : State) : Prop :=
  t.mpt = busAfter t s.mpt [a] ∧ t.ssc = { s.ssc with scan := some { sc with phase := .serving task g } }

/-- The scan's access in flight is answered with these bytes. -/
def ScanAnswered (data : List Byte) (s : State) : Prop :=
  ∃ a, s.mpt.flight = some a ∧ a.client = .scan ∧ answers data a = true

/-- The start-up work's access in flight is answered with these bytes. -/
def StartUpAnswered (data : List Byte) (s : State) : Prop :=
  ∃ a, s.mpt.flight = some a ∧ a.client = .startUp ∧ answers data a = true

/-- The card task's access in flight, for the task of a slot, is answered. -/
def CardAnswered (slot : Nat) (s : State) : Prop :=
  ∃ a, s.mpt.flight = some a ∧ a.client = .card slot ∧ answers [] a = true

/-- The Journal Writer's access in flight is answered with these bytes. -/
def JournalAnswered (data : List Byte) (s : State) : Prop :=
  ∃ a, s.mpt.flight = some a ∧ a.client = .journal ∧ answers data a = true

/-! ### The slots of a scan -/

/-- R128: the task in hand waits at its owner. -/
def InHand (sc : Scan) (t : Task) (s : State) : Prop := s.ssc.scan = some sc ∧ sc.phase = .handed t

/-- The task in hand is being served, and has come to a stage. -/
def Serving (sc : Scan) (t : Task) (g : ServeStage) (s : State) : Prop :=
  s.ssc.scan = some sc ∧ sc.phase = .serving t g

/-- The slot that lies k slots after the one next to the slot in hand (R134). -/
def slotAhead (sc : Scan) (k : Nat) (s : State) : Nat := (sc.index + 1 + k) % slotCount s

/-- R134: the first slot not held, after the slot in hand, lies k slots ahead, and the scan has yet to examine it. -/
def NextFree (held : List Nat) (sc : Scan) (k : Nat) (s : State) : Prop :=
  k < sc.remaining ∧ slotAhead sc k s ∉ held ∧ ∀ m < k, slotAhead sc m s ∈ held

/-- R134: every slot the scan has yet to examine is held. -/
def NoneFree (held : List Nat) (sc : Scan) (s : State) : Prop := ∀ m < sc.remaining, slotAhead sc m s ∈ held

/-- R134: the scan, as it goes on to the slot k ahead, whose state is read. -/
def scanAt (sc : Scan) (k : Nat) (s : State) : Scan :=
  { sc with index := slotAhead sc k s, remaining := sc.remaining - 1 - k, phase := .readState }

/-- R134: the read of the state of a slot. -/
def stateReadOf (s : State) (slot : Nat) : Access := readOf .scan (slotAddress s slot 0) 1

/-- R134: the scan that begins at a slot, with all the others left to examine. -/
def scanFrom (s : State) (slot : Nat) : Scan :=
  { index := slot, remaining := slotCount s - 1, leftPosted := [], lastTaken := none, cardPassed := false
    phase := .readState }

/-- R133, R136, R137, R162: from s to t the scan ends. The cursor goes to the first slot left POSTED, else to the slot after the
last one taken, else it stays. In RUN and REDUCED an extra scan pending begins there, or the poll timer starts with the poll
interval, four times as long in REDUCED, unless the interval is 0; in DOZE the wake timer starts again with its period; in
HALTING nothing follows. -/
def ScanEnds (sc : Scan) (s t : State) : Prop :=
  let cursor := match sc.leftPosted, sc.lastTaken with
    | i :: _, _ => i
    | [], some i => (i + 1) % slotCount s
    | [], none => s.ssc.cursor
  t = { s with mpt := t.mpt, ssc := t.ssc, pev := t.pev }
  ∧ (s.mpt.runState = .running → s.pev.power = .run ∨ s.pev.power = .reduced →
    t.pev = s.pev
    ∧ (s.ssc.extraScan = false →
      t.mpt = busAfter t s.mpt []
      ∧ t.ssc = { s.ssc with
          scan := none, cursor := cursor
          pollTimer :=
            if s.ssc.pollInterval = 0 then none
            else if s.pev.power = .reduced then some (4 * s.ssc.pollInterval)
            else some s.ssc.pollInterval })
    ∧ (s.ssc.extraScan = true → cursor < slotCount s → cursor ∉ heldSlots s →
      t.mpt = busAfter t s.mpt [stateReadOf s cursor]
      ∧ t.ssc = { s.ssc with
          cursor := cursor, pollTimer := none, extraScan := false, scan := some (scanFrom s cursor) }))
  ∧ (∀ period, s.mpt.runState = .running → s.pev.power = .doze → s.pev.dozeJob = some (.scanning period) →
    t.mpt = busAfter t s.mpt [] ∧ t.ssc = { s.ssc with scan := none, cursor := cursor }
    ∧ t.pev = { s.pev with wakeTimer := some period, dozeJob := none })
  ∧ (s.mpt.runState = .halting → s.pev.dozeJob = none →
    t.mpt = busAfter t s.mpt [] ∧ t.ssc = { s.ssc with scan := none, cursor := cursor } ∧ t.pev = s.pev)

/-- R131: the write of DONE into a slot. -/
def doneOf (c : Client) (s : State) (slot : Nat) : Access := writeOf c (slotAddress s slot 0) [slotDone]

/-- The bus with its access in flight answered. -/
def freeBus (s : State) : MemoryPort := { s.mpt with flight := none }

/-- R150, R153: whether the first of the jobs is a claim, whose service begins by itself, and not a fill. -/
def claimFirst : List JournalJob → Bool
  | [] | .fill _ :: _ => false
  | .entry _ _ :: _ | .reserve :: _ | .reserveVoid _ :: _ => true

/-- R150: the service that an idle Journal Writer begins with these jobs waiting. -/
def serviceAfter (jobs : List JournalJob) : JournalService := if claimFirst jobs then .readingMark else .idle

/-- R150: the read of the cursor entry's mark with which that service begins. -/
def markReads (ring : Ring) (cursor : Nat) (jobs : List JournalJob) : List Access :=
  if claimFirst jobs then [readOf .journal (entryAddress ring cursor 0) 1] else []

/-- R151, R153: the command that ends the service of a claim whose entry is to be filled in it: the grant's last write, answered,
with the entry's serial, or the refusal. -/
def ClaimEnds (c : Instr) (serial : Option Word) (s : State) : Prop :=
  (c = .memoryResponse [] ∧ JournalAnswered [] s
    ∧ ∃ entry n, s.jnw.service = .writingHost entry n ∧ serial = some n)
  ∨ (c = .journalClaim ∧ serial = none ∧ ∃ mark, mark ≠ markPart ∧ s.jnw.service = .markRead mark)

/-- The bus at the end of such a service: the grant's last write is answered, a refusal has made none. -/
def busAtEnd (serial : Option Word) (s : State) : MemoryPort := if serial.isSome then freeBus s else s.mpt

/-- R151, R150: the event of the end of such a service: JOURNAL ENTRY or JOURNAL FULL. -/
def claimEvent (serial : Option Word) : BitVec 8 := if serial.isSome then evJournalEntry else evJournalFull

/-- R151: the missed count after the service of an entry's claim. -/
def missedAfter (kind : EntryKind) (serial : Option Word) (missed : Word) : Word :=
  if serial = none ∧ (kind = .denied ∨ kind = .resolved ∨ kind = .conflict) then saturate missed else missed

/-- The head of the card hold has a session in the given state. -/
def HeadIn (x : Session) (t : HeldTask) (rest : List HeldTask) (s : State) : Prop :=
  s.clk.hold = t :: rest ∧ t.session = x

end Sys2Proof.Machine
end

