-- ==== Sys2Proof/Certificates/Slice0/Obligations.lean ====
section
/-! DEFINITION. The statements for the provers. Where a statement rests on a choice of the model, its docstring names the log
entry. -/

open Sys2Proof Sys2Proof.Machine

/-! ### The queue of commands -/

/-- A step runs the command at the front of the queue with the queue's rest; on an empty queue it idles (log 24). -/
def Obligations.StepRunsTheFrontCommand : Prop :=
  ∀ s : State,
    (s.pending = [] → step s = .next s)
    ∧ ∀ c rest, s.pending = c :: rest → step s = exec c { s with pending := rest }

/-- Every command ends in a next state, whatever the state and its operands, and leaves the queue as it is (log 33). -/
def Obligations.EveryCommandCompletes : Prop :=
  ∀ (c : Instr) (s : State), ∃ t, exec c s = .next t ∧ t.pending = s.pending

/-! ### Reset and the register window -/

/-- The state after reset is that of the tables of R23, R30, R47, R64, R85, R112, R132, R138, R147, R158 and R169 under
RESET. The die temperature of State.reset is the model's choice (log 1) and is not named. -/
def Obligations.ResetStateIsThatOfTheTables : Prop :=
  let s := State.reset
  (s.mpt.runState = .halted ∧ s.mpt.haltCause = .reset ∧ s.mpt.setupAddress = 0 ∧ s.mpt.flight = none
    ∧ s.mpt.waiting = [])
  ∧ (s.ssc.sheet = none ∧ s.ssc.pollInterval = 0 ∧ s.ssc.pollTimer = none ∧ s.ssc.cursor = 0 ∧ s.ssc.scan = none
    ∧ s.ssc.extraScan = false ∧ heldList s = [])
  ∧ (s.rcx.state = .none ∧ s.rcx.route = [] ∧ s.rcx.position = none ∧ s.rcx.trip = 0 ∧ s.rcx.day = 0 ∧ s.rcx.minute = 0
    ∧ s.rcx.stale = true ∧ s.rcx.conductor = 0 ∧ s.rcx.minuteTimer = true)
  ∧ (∀ k < 8, keyLoaded k s.ven = false)
  ∧ (s.dnl.state = .invalid ∧ s.dnl.generation = 0 ∧ s.dnl.table = [] ∧ s.dnl.load = none ∧ s.dnl.staging = none
    ∧ s.dnl.discards = 0 ∧ s.dnl.falseHits = 0 ∧ ∀ k : Fin 4096, s.dnl.filter[k] = 0)
  ∧ (s.snt.records = [] ∧ s.snt.counter = .next 1 ∧ pinCount s.snt = 0 ∧ s.snt.evictions = 0 ∧ s.snt.updates = [])
  ∧ (s.clk.holder = .none ∧ s.clk.hold = [] ∧ s.clk.deadline = none ∧ s.clk.tries = 0 ∧ s.clk.identity = none
    ∧ s.clk.pendingStamp = none)
  ∧ (latchedFlags s.fmn = 0 ∧ fieldBlocked s = false ∧ s.fmn.reducedDuty = false ∧ s.fmn.finding = .unknown
    ∧ s.fmn.stopOnOpen = false ∧ s.fmn.reportOpen = .event ∧ s.fmn.reportOvercurrent = .event
    ∧ s.fmn.reportWarning = .answerOnly ∧ s.fmn.reportShutdown = .event ∧ s.fmn.passive = none)
  ∧ (s.jnw.ring = none ∧ s.jnw.cursor = 0 ∧ s.jnw.nextSerial = 1 ∧ s.jnw.reservation = none ∧ s.jnw.missed = 0
    ∧ s.jnw.queue = [])
  ∧ (s.pev.power = .run ∧ s.pev.settling = none ∧ s.pev.wakeTimer = none ∧ s.pev.cardNear = false
    ∧ s.pev.senseTimer = false ∧ s.pev.senseReference = none ∧ s.pev.events = 0 ∧ s.pev.enables = 0
    ∧ interruptLine s = false)
  ∧ s.pending = []

/-- A write to EVENTS clears the flags written with a 1 and leaves the others, a read of EVENTS gives the flags and 0
above them, and a write to SETUP ADDRESS replaces its value, which a read gives back; nothing else changes (R166, R169,
R178). CONTROL reads the run state, halt cause, power state and latched flags at their bits and 0 elsewhere; a write that
carries RESET is RESET alone, HALT beats START and NUDGE, CLEAR FAULTS goes beside the run command, and a write without a
command bit, or of a value read, gives none (R139, R169, R178). The order of the two commands of one write is free (log
21). -/
def Obligations.RegistersReadAndCommand : Prop :=
  (∀ (v : Word) (s : State),
     (∃ e : BitVec 8, exec (.eventsWrite v) s = .next { s with pev := { s.pev with events := e } }
       ∧ ∀ i < 8, e.getLsbD i = (s.pev.events.getLsbD i && !v.getLsbD i))
     ∧ (∀ i < 32, (readEvents s).getLsbD i = (decide (i < 8) && s.pev.events.getLsbD i))
     ∧ ∃ t, exec (.setupAddressWrite v) s = .next t ∧ t = { s with mpt := { s.mpt with setupAddress := v } }
       ∧ readSetupAddress t = v)
  ∧ ((∀ s : State,
       (readControl s).extractLsb' 16 2 = BitVec.ofNat 2 (runStateCode s.mpt.runState)
       ∧ (readControl s).extractLsb' 18 2 = BitVec.ofNat 2 (haltCauseCode s.mpt.haltCause)
       ∧ (readControl s).extractLsb' 20 2 = BitVec.ofNat 2 (powerCode s.pev.power)
       ∧ (readControl s).getLsbD 24 = s.fmn.antennaOpen ∧ (readControl s).getLsbD 25 = s.fmn.overcurrent
       ∧ (readControl s).getLsbD 26 = s.fmn.thermalWarning ∧ (readControl s).getLsbD 27 = s.fmn.thermalShutdown
       ∧ readControl s &&& 0xF0C0FFFF = 0
       ∧ ∀ b d, controlWrite b d (readControl s) = [])
     ∧ ∀ (b : Bool) (d : Int) (v : Word),
       (v.getLsbD 7 = true → controlWrite b d v = [.reset d])
       ∧ (v.getLsbD 7 = false →
         (Instr.halt ∈ controlWrite b d v ↔ v.getLsbD 1 = true)
         ∧ (Instr.start ∈ controlWrite b d v ↔ v.getLsbD 0 = true ∧ v.getLsbD 1 = false)
         ∧ (Instr.nudge ∈ controlWrite b d v ↔ v.getLsbD 2 = true ∧ v.getLsbD 1 = false)
         ∧ (Instr.clearFaults ∈ controlWrite b d v ↔ v.getLsbD 3 = true)
         ∧ (controlWrite b d v).all (fun c => c == .halt || c == .start || c == .nudge || c == .clearFaults) = true))

/-- R167 whole: a write replaces the eight enables and nothing else, a read returns them, the enables choose which flags
drive the line and not which latch, RESET clears them, and HALT, START and a memory fault keep them. -/
def Obligations.EnablesAreReplacedAndChooseTheLine : Prop :=
  ∀ (v : Word) (s : State),
    (∃ t, exec (.eventEnableWrite v) s = .next t ∧ t = { s with pev := { s.pev with enables := v.setWidth 8 } }
      ∧ readEventEnable t = v &&& 0xFF)
    ∧ (interruptLine s = true ↔ ∃ i < 8, s.pev.events.getLsbD i = true ∧ s.pev.enables.getLsbD i = true)
    ∧ (∀ flag, (raiseEvent flag s).pev = { s.pev with events := s.pev.events ||| flag })
    ∧ (∀ d, ∃ t, exec (.reset d) s = .next t ∧ t.pev.enables = 0)
    ∧ (∀ d, ∃ t, exec (.resetLine d) s = .next t ∧ t.pev.enables = 0)
    ∧ ∀ c ∈ [Instr.halt, .start, .memoryFault], ∃ t, exec c s = .next t ∧ t.pev.enables = s.pev.enables

/-- RESET and the reset line return every block to its values at once, in every state; a die then found at 105 or 125
degrees latches the thermal flags, and only a shutdown raises FIELD FAULT (R112, R145). A temperature outside -40 to 150 is
brought to the nearest end (log 7); the queue and the counter of free values stay (log 27); the presence interval of the last
WAKE is then 0 (log 41). -/
def Obligations.ResetReturnsEveryBlock : Prop :=
  ∀ (d : Int) (s : State),
    exec (.resetLine d) s = exec (.reset d) s
    ∧ ∃ t, exec (.reset d) s = .next t
      ∧ t.fmn =
          { dieTemp := clampTemp d
            thermalWarning := decide (105 ≤ clampTemp d), reducedDuty := decide (105 ≤ clampTemp d)
            thermalShutdown := decide (125 ≤ clampTemp d), shutdownBlock := decide (125 ≤ clampTemp d) }
      ∧ t.pev = { events := if 125 ≤ clampTemp d then evFieldFault else 0 }
      ∧ t = { State.reset with fmn := t.fmn, pev := t.pev, draws := s.draws, pending := s.pending }

/-- CLEAR FAULTS clears each flag whose condition is absent and lifts the blocks of ANTENNA OPEN and OVERCURRENT with their
flags; in DOZE a lifted block makes the sense reference none; nothing else changes, and it is taken in every run state
(R120, R163). -/
def Obligations.ClearFaultsTestsEachFlag : Prop :=
  ∀ s : State,
    let openGoes := s.fmn.antennaOpen && s.fmn.finding != .openAntenna
    let lifts := (openGoes && s.fmn.openBlock) || (s.fmn.overcurrent && s.fmn.overcurrentBlock)
    exec .clearFaults s = .next
      { s with
        fmn := { s.fmn with
          antennaOpen := s.fmn.antennaOpen && s.fmn.finding == .openAntenna
          openBlock := s.fmn.openBlock && !openGoes
          overcurrent := false
          overcurrentBlock := s.fmn.overcurrentBlock && !s.fmn.overcurrent
          thermalWarning := s.fmn.thermalWarning && s.fmn.reducedDuty
          thermalShutdown := s.fmn.thermalShutdown && s.fmn.shutdownBlock }
        pev := { s.pev with
          senseReference := if s.pev.power = .doze ∧ lifts = true then none else s.pev.senseReference } }

/-! ### START and the sweep -/

/-- START in HALTED moves the part to STARTING and asks for the 32 bytes of the setup block at SETUP ADDRESS; an address
that is no multiple of 4 makes the block invalid with no read; in every other run state START leaves no trace (R139,
R140). The setup block read in STARTING: an invalid one halts the part with cause SETUP INVALID and gives it nothing; a
valid one is handed to its owners, with both cursors 0, and the sweep asks for the state of slot 0, or, where a HALT was
taken meanwhile, HALTING follows (R140, R141, R142). -/
def Obligations.StartTakesTheSetupBlock : Prop :=
  (∀ s : State, portRule s = true →
     (s.mpt.runState = .halted → s.mpt.setupAddress.toNat % 4 = 0 →
       ∃ t, exec .start s = .next t
         ∧ t.mpt = busAfter t { s.mpt with runState := .starting } [readOf .startUp s.mpt.setupAddress 32]
         ∧ t = { s with mpt := t.mpt, ssc := { s.ssc with startUp := some .setupRead } })
     ∧ (s.mpt.runState = .halted → s.mpt.setupAddress.toNat % 4 ≠ 0 →
       exec .start s = .next
         { s with
           mpt := { s.mpt with runState := .halted, haltCause := .setupInvalid, haltPending := false }
           ssc := { s.ssc with startUp := none }
           pev := { s.pev with events := s.pev.events ||| evHalted } })
     ∧ (s.mpt.runState ≠ .halted → exec .start s = .next s))
  ∧ (∀ (data : List Byte) (s : State), StartUpAnswered data s → s.mpt.asked = [] → s.mpt.waiting = [] →
       s.ssc.startUp = some .setupRead → s.clk.hold = [] →
       (readSetup data = none →
         exec (.memoryResponse data) s = .next
           { s with
             mpt := { freeBus s with runState := .halted, haltCause := .setupInvalid, haltPending := false }
             ssc := { s.ssc with startUp := none }
             pev := { s.pev with events := s.pev.events ||| evHalted } })
       ∧ ∀ b, readSetup data = some b →
         ∃ t, exec (.memoryResponse data) s = .next t
           ∧ t.rcx = { s.rcx with conductor := b.conductor }
           ∧ t.jnw = { s.jnw with ring := some b.ring, cursor := 0 }
           ∧ t.fmn = { s.fmn with
               stopOnOpen := b.stopOnOpen, reportOpen := b.reportOpen, reportOvercurrent := b.reportOvercurrent
               reportWarning := b.reportWarning, reportShutdown := b.reportShutdown }
           ∧ t.ssc.sheet = some b.sheet ∧ t.ssc.pollInterval = b.pollInterval ∧ t.ssc.cursor = 0
           ∧ t = { s with mpt := t.mpt, ssc := t.ssc, rcx := t.rcx, jnw := t.jnw, fmn := t.fmn }
           ∧ (s.mpt.haltPending = false →
             t.mpt = { freeBus s with flight := some (readOf .startUp b.sheet.base 1) }
             ∧ t.ssc.startUp = some (.sweepState 0))
           ∧ (s.mpt.haltPending = true →
             t.mpt = { freeBus s with runState := .halting, haltPending := false } ∧ t.ssc.startUp = none))

/-- A setup block is valid exactly where every field lies in its valid values, neither structure runs past the top of the
address space, and no byte lies in both; its values are then those at their offsets (R140, R113, 11.2). -/
def Obligations.SetupBlockIsValidExactlyWhen : Prop :=
  ∀ data : List Byte,
    let base := (wordAt data 0).toNat
    let k := (byteAt data 4).toNat
    let ring := (wordAt data 8).toNat
    let j := (byteAt data 5).toNat
    ((readSetup data).isSome = true ↔
      base % 64 = 0 ∧ (2 ≤ k ∧ k ≤ 8) ∧ ring % 32 = 0 ∧ (3 ≤ j ∧ j ≤ 10) ∧ (halfAt data 6).toNat ≤ 250
      ∧ halfAt data 12 ≠ 0 ∧ base + 64 * 2 ^ k ≤ 2 ^ 32 ∧ ring + 32 * 2 ^ j ≤ 2 ^ 32
      ∧ ¬ ∃ a, (base ≤ a ∧ a < base + 64 * 2 ^ k) ∧ (ring ≤ a ∧ a < ring + 32 * 2 ^ j))
    ∧ ∀ b, readSetup data = some b →
      b.sheet = ⟨wordAt data 0, 2 ^ k⟩ ∧ b.ring = ⟨wordAt data 8, 2 ^ j⟩ ∧ b.pollInterval = (halfAt data 6).toNat
      ∧ b.conductor = halfAt data 12 ∧ b.stopOnOpen = (byteAt data 14).getLsbD 0
      ∧ (b.reportWarning = .event ↔ (byteAt data 15).extractLsb' 4 2 = 1)
      ∧ (b.reportOpen = .answerOnly ↔ (byteAt data 15).extractLsb' 0 2 = 2)
      ∧ (b.reportOvercurrent = .answerOnly ↔ (byteAt data 15).extractLsb' 2 2 = 2)
      ∧ (b.reportShutdown = .answerOnly ↔ (byteAt data 15).extractLsb' 6 2 = 2)

/-- The sweep: a slot found TAKEN has its tag read, is answered ABANDONED with that tag, and is written DONE with TASK DONE
raised; a slot in another state is left; the sweep goes on with the next slot, and after the last the cursor is 0 and the
part enters RUNNING; a HALT taken meanwhile lets the slot in hand be finished, and HALTING follows in place of the next slot
(R142; log 13). -/
def Obligations.SweepAnswersTakenSlots : Prop :=
  ∀ (data : List Byte) (i : Nat) (s : State), StartUpAnswered data s → s.mpt.asked = [] → s.mpt.waiting = [] →
    (s.ssc.startUp = some (.sweepState i) → byteAt data 0 = slotTaken →
      exec (.memoryResponse data) s = .next
        { s with
          mpt := { freeBus s with flight := some (readOf .startUp (slotAddress s i 2) 2) }
          ssc := { s.ssc with startUp := some (.sweepTag i) } })
    ∧ (s.ssc.startUp = some (.sweepTag i) →
      exec (.memoryResponse data) s = .next
        { s with
          mpt := { freeBus s with flight := some (stampSummary s (answerOf .startUp s i (halfAt data 0) abandonedAnswer)) }
          ssc := { s.ssc with startUp := some (.sweepAnswer i) } })
    ∧ (s.ssc.startUp = some (.sweepAnswer i) →
      exec (.memoryResponse data) s = .next
        { s with
          mpt := { freeBus s with flight := some (writeOf .startUp (slotAddress s i 0) [slotDone]) }
          ssc := { s.ssc with startUp := some (.sweepDone i) } })
    ∧ (s.mpt.haltPending = false →
      (s.ssc.startUp = some (.sweepState i) → byteAt data 0 ≠ slotTaken → i + 1 < slotCount s →
        exec (.memoryResponse data) s = .next
          { s with
            mpt := { freeBus s with flight := some (readOf .startUp (slotAddress s (i + 1) 0) 1) }
            ssc := { s.ssc with startUp := some (.sweepState (i + 1)) } })
      ∧ (s.ssc.startUp = some (.sweepDone i) → i + 1 < slotCount s →
        exec (.memoryResponse data) s = .next
          { s with
            mpt := { freeBus s with flight := some (readOf .startUp (slotAddress s (i + 1) 0) 1) }
            ssc := { s.ssc with startUp := some (.sweepState (i + 1)) }
            pev := { s.pev with events := s.pev.events ||| evTaskDone } })
      ∧ (s.ssc.startUp = some (.sweepDone i) → i + 1 = slotCount s → s.clk.hold = [] →
        ∃ t, exec (.memoryResponse data) s = .next t ∧ t.mpt.runState = .running ∧ t.ssc.startUp = none
          ∧ t.ssc.cursor = 0 ∧ t.pev = { s.pev with events := s.pev.events ||| evTaskDone })
      ∧ (s.ssc.startUp = some (.sweepState i) → byteAt data 0 ≠ slotTaken → i + 1 = slotCount s → s.clk.hold = [] →
        exec (.memoryResponse data) s = .next
          { s with
            mpt := { freeBus s with runState := .running, flight := some (readOf .scan (slotAddress s 0 0) 1) }
            ssc := { s.ssc with
              startUp := none, cursor := 0, pollTimer := none, extraScan := false, scan := some (scanFrom s 0) } }))
    ∧ (s.mpt.haltPending = true → s.clk.hold = [] →
      let halting := { freeBus s with runState := .halting, haltPending := false }
      let ssc := { s.ssc with startUp := none, pollTimer := none, extraScan := false }
      (s.ssc.startUp = some (.sweepState i) → byteAt data 0 ≠ slotTaken →
        exec (.memoryResponse data) s = .next { s with mpt := halting, ssc := ssc })
      ∧ (s.ssc.startUp = some (.sweepDone i) →
        exec (.memoryResponse data) s = .next
          { s with mpt := halting, ssc := ssc, pev := { s.pev with events := s.pev.events ||| evTaskDone } }))

/-! ### HALT, HALTING, memory fault, NUDGE -/

/-- HALT by run state and power state, with no task held: HALTED and HALTING ignore it; STARTING keeps it for the slot in hand
(log 13); RUNNING in RUN or REDUCED enters HALTING; DOZE first wakes with WOKE and ends a sense pulse, and no check that still
waits is made and no scan follows a check (log 22); SLEEP begins, or turns, the settling toward a HALT (R139, R142, R143, R164). HALT in RUNNING completes the tasks of the hold: WAITING FIELD, the
second's too, PRESENCE and READING end HALTED with the card ID if HELLO was answered; DECIDING ends HALTED with its waiting
claims disowned and a waiting reservation to be filled VOID; STAMPING is settled as STAMP UNCERTAIN with its fill and update
sent; CLOSING goes on (R110, R101; that a decision point in progress stands as DECIDING is log 10). -/
def Obligations.HaltBringsThePartToHalting : Prop :=
  (∀ s : State, portRule s = true →
     (s.mpt.runState = .halted ∨ s.mpt.runState = .halting → exec .halt s = .next s)
     ∧ (s.mpt.runState = .starting → exec .halt s = .next { s with mpt := { s.mpt with haltPending := true } })
     ∧ (s.mpt.runState = .running → s.pev.power = .run ∨ s.pev.power = .reduced → s.clk.hold = [] →
       exec .halt s = .next
         { s with
           mpt := { s.mpt with runState := .halting, haltPending := false }
           ssc := { s.ssc with pollTimer := none, extraScan := false, startUp := none } })
     ∧ (s.mpt.runState = .running → s.pev.power = .doze → s.clk.hold = [] →
       ∃ t, exec .halt s = .next t
         ∧ t.mpt = { s.mpt with runState := .halting, haltPending := false }
         ∧ t.ssc = { s.ssc with pollTimer := none, extraScan := false, startUp := none }
         ∧ t.pev = { s.pev with
             power := .run, wakeTimer := none, dozeJob := none, cardNear := false, senseTimer := false
             senseReference := none, events := s.pev.events ||| evWoke }
         ∧ (s.clk.holder = .sense → t.clk = { s.clk with holder := .none } ∧ t.fmn = { s.fmn with detected := false })
         ∧ (s.clk.holder ≠ .sense → t.clk = s.clk ∧ t.fmn = s.fmn)
         ∧ t = { s with mpt := t.mpt, ssc := t.ssc, pev := t.pev, clk := t.clk, fmn := t.fmn })
     ∧ (s.mpt.runState = .running → s.pev.power = .sleep →
       exec .halt s = .next { s with pev := { s.pev with settling := some .halt } }))
  ∧ (∀ (h : HeldTask) (rest : List HeldTask) (s : State), portRule s = true → s.mpt.runState = .running →
       s.pev.power = .run ∨ s.pev.power = .reduced → s.clk.hold = h :: rest → rest.length ≤ 1 →
       h.slot ∉ rest.map HeldTask.slot → (∀ x ∈ rest, waitsOrCloses x.session = true) →
       let rest' := rest.map fun x =>
         if x.session = .waitingField then { x with session := .closing (.coded .halted none) {} .writeAnswer } else x
       (h.session = .waitingField →
         ∃ t, exec .halt s = .next t ∧ t.mpt.runState = .halting
           ∧ t.clk = { s.clk with hold := { h with session := .closing (.coded .halted none) {} .writeAnswer } :: rest' }
           ∧ t = { s with mpt := t.mpt, ssc := t.ssc, clk := t.clk, draws := t.draws })
       ∧ (h.session = .presence ∨ h.session = .reading → s.clk.holder = .session →
         ∃ t, exec .halt s = .next t ∧ t.mpt.runState = .halting
           ∧ t.clk.hold = { h with session := .closing (.coded .halted (cardIdOf s)) {} .writeAnswer } :: rest'
           ∧ t.clk.holder = .none ∧ t.clk.deadline = none
           ∧ t = { s with
               mpt := t.mpt, ssc := t.ssc, clk := t.clk, fmn := { s.fmn with detected := false }, draws := t.draws })
       ∧ (∀ a, h.session = .asking a → s.clk.holder = .session →
         ∃ t, exec .halt s = .next t ∧ t.mpt.runState = .halting
           ∧ t.clk.hold = { h with session := .closing (.coded .halted (cardIdOf s)) {} .writeAnswer } :: rest'
           ∧ t.clk.holder = .none
           ∧ t.jnw = { s.jnw with queue := s.jnw.queue.map disownJob }
           ∧ t = { s with
               mpt := t.mpt, ssc := t.ssc, clk := t.clk, jnw := t.jnw, fmn := { s.fmn with detected := false }
               draws := t.draws })
       ∧ (∀ d p g, h.session = .deciding d p g → s.clk.holder = .session →
         ∃ t, exec .halt s = .next t ∧ t.mpt.runState = .halting
           ∧ t.clk.hold = { h with session := .closing (.coded .halted (cardIdOf s)) {} .writeAnswer } :: rest'
           ∧ t.clk.holder = .none
           ∧ t.jnw = { s.jnw with queue := s.jnw.queue.map (orphanJob (voidEntry p .halted)) }
           ∧ t = { s with
               mpt := t.mpt, ssc := t.ssc, clk := t.clk, jnw := t.jnw, fmn := { s.fmn with detected := false }
               draws := t.draws })
       ∧ (∀ x d p ps, h.session = .stamping x d p → s.clk.pendingStamp = some ps → s.clk.holder = .session →
         ∃ t, exec .halt s = .next t ∧ t.mpt.runState = .halting
           ∧ t.clk.hold =
               { h with session := .closing (.ok (outcomeDraft .uncertain d p ps)) { fill := true } .awaitJournal } :: rest'
           ∧ t.clk.holder = .none ∧ t.clk.pendingStamp = none
           ∧ t.jnw.queue = s.jnw.queue ++ [.fill (outcomeEntry .uncertain p ps)]
           ∧ t.snt = { s.snt with updates := s.snt.updates ++ [outcomeUpdate .uncertain p ps] })
       ∧ (∀ e o g, h.session = .closing e o g →
         ∃ t, exec .halt s = .next t ∧ t.mpt.runState = .halting ∧ t.clk = { s.clk with hold := h :: rest' }))
  ∧ (∀ (void e : EntryContents) (who : ClaimFor),
       (disownJob (.entry e .card) = .entry e .nobody ∧ orphanJob void (.entry e .card) = .entry e .nobody)
       ∧ (who ≠ .card → disownJob (.entry e who) = .entry e who ∧ orphanJob void (.entry e who) = .entry e who)
       ∧ orphanJob void .reserve = .reserveVoid void
       ∧ ∀ j, j = .reserveVoid e ∨ j = .fill e → disownJob j = j ∧ orphanJob void j = j)

/-- HALTING ends, with cause COMMAND and the HALTED event, when nothing the part has taken is left to complete, and not
before (R143). The absence of updates in transit and of bus accesses is asked for as well (log 12). A memory fault halts
the part at once: the access, the scan, the hold, the reservation and the claims are dropped, the poll timer stops, the
field goes off, DOZE ends in RUN without WOKE, and MEMORY FAULT and HALTED are raised; tables, keys, context, cursor,
serial and counts are kept (R111, R144, R157, R165). Updates of rides already sent reach the Seen Table first (log 11); the
presence interval of the last WAKE is then 0 (log 41). -/
def Obligations.EntriesToHalted : Prop :=
  (∀ s : State, s.mpt.runState = .halting →
     (nothingLeft s = true →
       exec .haltingEnd s = .next
         { s with
           mpt := { s.mpt with runState := .halted, haltCause := .command, haltPending := false }
           ssc := { s.ssc with startUp := none }
           pev := { s.pev with events := s.pev.events ||| evHalted } })
     ∧ (s.clk.hold ≠ [] ∨ s.ssc.scan.isSome = true ∨ s.jnw.reservation.isSome = true ∨ s.jnw.queue ≠ []
         ∨ s.clk.holder ≠ .none →
       exec .haltingEnd s = .next s))
  ∧ (∀ s : State, s.mpt.flight.isSome = true →
       ∃ t, exec .memoryFault s = .next t
         ∧ t.mpt = { s.mpt with
             runState := .halted, haltCause := .memoryFault, flight := none, waiting := [], asked := [], haltPending := false }
         ∧ t.ssc = { s.ssc with scan := none, startUp := none, pollTimer := none, extraScan := false }
         ∧ t.clk = {}
         ∧ t.fmn = { s.fmn with passive := none, detected := false }
         ∧ t.jnw = { s.jnw with reservation := none, queue := [], service := .idle }
         ∧ t.pev.events = s.pev.events ||| evMemoryFault ||| evHalted ∧ t.pev.enables = s.pev.enables
         ∧ (s.pev.power = .run ∨ s.pev.power = .reduced → t.pev.power = s.pev.power)
         ∧ (s.pev.power = .doze → t.pev.power = .run)
         ∧ (t.pev.settling = none ∧ t.pev.wakeTimer = none ∧ t.pev.dozeJob = none ∧ t.pev.cardNear = false
           ∧ t.pev.senseTimer = false ∧ t.pev.senseReference = none)
         ∧ t.snt = (deliverUpdates s).snt ∧ t.snt.updates = []
         ∧ t.rcx = s.rcx ∧ t.ven = s.ven ∧ t.dnl = s.dnl)

/-- NUDGE by run state and power state: ignored outside RUNNING; a NUDGE during a scan sets the extra scan pending and nothing
else; in DOZE it wakes with WOKE, a check that still waits is not made and no scan of the wake timer follows one that runs
(log 22), and a scan of its own follows, or the extra scan pending is set beside the scan in progress; in SLEEP it begins the
settling, or is absorbed into the one in progress (R133, R139, R164). -/
def Obligations.NudgeByRunAndPowerState : Prop :=
  ∀ s : State, portRule s = true →
    (s.mpt.runState ≠ .running → exec .nudge s = .next s)
    ∧ (s.mpt.runState = .running → s.pev.power = .run ∨ s.pev.power = .reduced → s.ssc.scan.isSome = true →
      exec .nudge s = .next { s with ssc := { s.ssc with extraScan := true } })
    ∧ (s.mpt.runState = .running → s.pev.power = .doze →
      ∃ t, exec .nudge s = .next t ∧ t.pev = (wakeToRun s).pev ∧ t.pev.power = .run
        ∧ t.pev.events = s.pev.events ||| evWoke ∧ t = { s with mpt := t.mpt, ssc := t.ssc, pev := t.pev }
        ∧ (s.ssc.scan.isSome = true → t.mpt = s.mpt ∧ t.ssc = { s.ssc with extraScan := true })
        ∧ (s.ssc.scan = none → s.ssc.cursor < slotCount s → s.ssc.cursor ∉ heldSlots s →
          t.mpt = busAfter t s.mpt [stateReadOf s s.ssc.cursor]
          ∧ t.ssc = { s.ssc with pollTimer := none, extraScan := false, scan := some (scanFrom s s.ssc.cursor) }))
    ∧ (s.mpt.runState = .running → s.pev.power = .sleep →
      exec .nudge s = .next
        { s with pev := { s.pev with settling := some (s.pev.settling.getD .scan) } })

/-! ### The verdict -/

/-- R12 whole, on a route that R31 allows: a point-to-point record whose two stops are on the route is judged by their
indices, SINGLE and GROUP forward alone, the others either way; a record from a stop to itself covers that stop and nothing
in between; a SINGLE against the running order never covers; and the zone set is not consulted. -/
def Obligations.CoverageByStops : Prop :=
  ∀ (route : List Stop) (cls : ProductClass) (r : FareRecord) (o d : Nat) (so sd : Stop),
    routeOk route = true → cls ≠ .zonePass →
    route[o]? = some so → so.code = r.origin → route[d]? = some sd → sd.code = r.destination →
    (∀ k, cls = .single ∨ cls = .group →
      (covers route (.atStop k) cls r = true ↔ o ≤ k ∧ k ≤ d)
      ∧ (covers route (.between k) cls r = true ↔ o ≤ k ∧ k + 1 ≤ d))
    ∧ (∀ k, cls = .returnFare ∨ cls = .carnet ∨ cls = .periodPass →
      (covers route (.atStop k) cls r = true ↔ min o d ≤ k ∧ k ≤ max o d)
      ∧ (covers route (.between k) cls r = true ↔ min o d ≤ k ∧ k + 1 ≤ max o d))
    ∧ (o = d → covers route (.atStop o) cls r = true ∧ ∀ k, covers route (.between k) cls r = false)
    ∧ (cls = .single → d < o → ∀ p, covers route p cls r = false)
    ∧ ∀ p z, covers route p cls { r with zones := z } = covers route p cls r

/-- R13: a ZONE PASS, and a record one of whose stops is 0 or not on the route, covers exactly where its zone set contains
the zone of every stop of the segment; an empty set covers nothing, and the stops of a ZONE PASS are not read. -/
def Obligations.CoverageByZones : Prop :=
  ∀ (route : List Stop) (cls : ProductClass) (r : FareRecord), routeOk route = true →
    (cls = .zonePass ∨ r.origin = 0 ∨ r.origin ∉ route.map Stop.code ∨ r.destination = 0
      ∨ r.destination ∉ route.map Stop.code →
      (∀ k, covers route (.atStop k) cls r = true ↔ ∃ x, route[k]? = some x ∧ r.zones.getLsbD x.zone.toNat = true)
      ∧ (∀ k, covers route (.between k) cls r = true ↔
        (∃ x, route[k]? = some x ∧ r.zones.getLsbD x.zone.toNat = true)
        ∧ ∃ x, route[k + 1]? = some x ∧ r.zones.getLsbD x.zone.toNat = true)
      ∧ (r.zones = 0 → ∀ p, covers route p cls r = false))
    ∧ ∀ p a b, covers route p .zonePass { r with origin := a, destination := b } = covers route p .zonePass r

/-- R9 with R4, R5, R7 and R10: the eight tests in their order, the first that fails giving the result, with the key table,
the check value over key and record, the ranges, the current time and the effective rides left spelled out; every place that
is not EMPTY has the result of its record, and the judged places are those, in order. The stop codes of a ZONE PASS are held
to the ranges too (log 36). -/
def Obligations.TestsInOrder : Prop :=
  ∀ (j : Judging) (place : Nat) (r : FareRecord),
    ((7 < r.keyIndex.toNat ∨ j.keys.keys[r.keyIndex.toNat]? = some none) →
      testRecord j place r = .failed .unknownKey)
    ∧ (∀ key, j.keys.keys[r.keyIndex.toNat]? = some (some key) →
      (crc32 (key ++ r.covered) ≠ r.check ∨ ¬ (1 ≤ r.classCode.toNat ∧ r.classCode.toNat ≤ 6)
          ∨ (r.travelClass ≠ 1 ∧ r.travelClass ≠ 2) ∨ (r.classCode = 6 ∧ ¬ (1 ≤ r.partySize.toNat ∧ r.partySize.toNat ≤ 9))
          ∨ (r.classCode = 3 ∧ 99 < r.rides.toNat) ∨ r.origin = 65535 ∨ r.destination = 65535
          ∨ 2879 < r.fromMinute.toNat ∨ 2879 < r.untilMinute.toNat →
        testRecord j place r = .failed .forged)
      ∧ ∀ cls, crc32 (key ++ r.covered) = r.check → productClass r.classCode = some cls →
        r.travelClass = 1 ∨ r.travelClass = 2 → (cls = .group → 1 ≤ r.partySize.toNat ∧ r.partySize.toNat ≤ 9) →
        (cls = .carnet → r.rides.toNat ≤ 99) → r.origin ≠ 65535 → r.destination ≠ 65535 → r.fromMinute.toNat ≤ 2879 →
        r.untilMinute.toNat ≤ 2879 →
        testRecord j place r =
          if cls = .carnet ∧ j.stamp = .damaged then .failed .stampDamaged
          else if j.rcx.day.toNat < r.fromDay.toNat
              ∨ (j.rcx.day = r.fromDay ∧ j.rcx.minute.toNat < r.fromMinute.toNat) then .failed .notYetValid
          else if r.untilDay.toNat < j.rcx.day.toNat
              ∨ (r.untilDay = j.rcx.day ∧ r.untilMinute.toNat < j.rcx.minute.toNat) then .failed .expired
          else if j.seated = 1 ∧ r.travelClass = 2 then .failed .wrongClass
          else if covers j.rcx.route j.position cls r = false then .failed .wrongSegment
          else if cls = .carnet ∧ effectiveRides j.stamp place r = 0 ∧ j.rideShown = false then .failed .noRidesLeft
          else .usable)
    ∧ (∀ st, j.stamp = .intact st → st.place.toNat = place → effectiveRides j.stamp place r = st.rides)
    ∧ ((∀ st, j.stamp = .intact st → st.place.toNat ≠ place) → effectiveRides j.stamp place r = r.rides)
    ∧ ∀ places : List (Option FareRecord),
      (testPlaces j places).length = places.length
      ∧ (places[place]? = some none → (testPlaces j places)[place]? = some .empty)
      ∧ (places[place]? = some (some r) → (testPlaces j places)[place]? = some (testRecord j place r))
      ∧ (∀ x, x ∈ judgedPlaces j places ↔
        places[x.place]? = some (some x.record) ∧ x.result = testRecord j x.place x.record)
      ∧ ((judgedPlaces j places).map Judged.place).Pairwise (fun a b => a < b)

/-- R14 and R15: of the usable records the class first in the order of preference is chosen, of one class the lower place;
with none usable the failure of highest rank is named, of one failure the lower place; and of the place chosen or named the
class, the travel class, the concession mark and the party size go into the answer being formed. -/
def Obligations.ChoiceAndRanking : Prop :=
  preference = [.zonePass, .periodPass, .returnFare, .single, .group, .carnet]
  ∧ failureRank = [.wrongClass, .wrongSegment, .noRidesLeft, .notYetValid, .expired, .stampDamaged, .unknownKey, .forged]
  ∧ (∀ js : List Judged, (js.map Judged.place).Pairwise (fun a b => a < b) →
    (chooseUsable js = none ↔ ∀ x ∈ js, x.result = .usable → productClass x.record.classCode = none)
    ∧ (∀ x, chooseUsable js = some x →
      x ∈ js ∧ x.result = .usable
      ∧ ∃ c, productClass x.record.classCode = some c
        ∧ ∀ y ∈ js, ∀ e, y.result = .usable → productClass y.record.classCode = some e →
          preference.idxOf c < preference.idxOf e ∨ (c = e ∧ x.place ≤ y.place))
    ∧ (rankFailure js = none ↔ ∀ x ∈ js, ∀ f, x.result ≠ .failed f)
    ∧ ∀ x f, rankFailure js = some (x, f) →
      x ∈ js ∧ x.result = .failed f
      ∧ ∀ y ∈ js, ∀ g, y.result = .failed g →
        failureRank.idxOf f < failureRank.idxOf g ∨ (f = g ∧ x.place ≤ y.place))
  ∧ ∀ x : Judged, chosenOf x =
    { place := x.place, classCode := x.record.classCode, travelClass := x.record.travelClass
      concession := x.record.concession, party := if x.record.classCode = 6 then x.record.partySize else 1 }

/-- R16, R18 and R19: the order in which the verdict is decided, from the answers of the Deny List, the Running Context and
the Seen Table: DENIED, NO CONTEXT, the chosen record with the ride rules for a CARNET, the ranked failure, NO FARE. R28: the
flags those answers give. -/
def Obligations.VerdictOrder : Prop :=
  ∀ (q : Inspection) (v : VerdictEngine) (r : Replies),
    let flags : AnswerFlags :=
      { listIncomplete := r.denied.state == .loading, listInvalid := r.denied.state == .invalid
        clockStale := r.context.stale, seenBefore := r.seen.record.isSome, uncertainResolved := r.seen.claim != .none
        journalMissed := r.seen.claim == .served none }
    let serial := match r.seen.claim with
      | .served n => n
      | .none | .waiting => none
    let seen := r.seen.record.map detailsOf
    (∀ e, r.denied.hit = some e →
      rule q v r = .final
        { verdict := .denied, cred := some q.cred, places := some (notJudged q.places), denyReason := some e.reason
          denyAction := some e.action, flags := flags, resolutionSerial := serial, seen := seen })
    ∧ (r.denied.hit = none → r.context.state = .none →
      rule q v r = .final
        { verdict := .noContext, cred := some q.cred, places := some (notJudged q.places), flags := flags
          resolutionSerial := serial, seen := seen })
    ∧ (∀ p, notJudged q.places = p →
      p.length = q.places.length ∧ ∀ i : Nat,
        (q.places[i]? = some none → p[i]? = some .empty) ∧ ∀ x, q.places[i]? = some (some x) → p[i]? = some .notJudged)
    ∧ ∀ p, r.denied.hit = none → r.context.state = .active → r.context.position = some p →
      let shown := (r.seen.record.map fun x => x.ride != .none).getD false
      let j : Judging :=
        { keys := v, rcx := r.context, position := p, stamp := q.stamp, seated := q.seated, rideShown := shown }
      let base : Draft :=
        { verdict := .noContext, cred := some q.cred, places := some (testPlaces j q.places), flags := flags
          resolutionSerial := serial, seen := seen }
      (∀ x, chooseUsable (judgedPlaces j q.places) = some x →
        let d := { base with chosen := some (chosenOf x), flags := { flags with checkProof := x.record.concession } }
        (productClass x.record.classCode ≠ some .carnet → rule q v r = .final { d with verdict := .valid })
        ∧ (productClass x.record.classCode = some .carnet →
          let left := effectiveRides q.stamp x.place x.record
          (shown = true → rule q v r = .final { d with verdict := .rideTakenEarlier, ridesLeft := some left })
          ∧ (shown = false → q.ride = false →
            rule q v r = .final { d with verdict := .rideNotTaken, reason := some .notRequested, ridesLeft := some left })
          ∧ (shown = false → q.ride = true → rule q v r = .ride { d with verdict := .rideNotTaken } x.place left)))
      ∧ (chooseUsable (judgedPlaces j q.places) = none → ∀ x f, rankFailure (judgedPlaces j q.places) = some (x, f) →
        rule q v r = .final { base with verdict := .failed f, chosen := some (chosenOf x) })
      ∧ (chooseUsable (judgedPlaces j q.places) = none → rankFailure (judgedPlaces j q.places) = none →
        rule q v r = .final { base with verdict := .noFare })

/-- R21, R46, R51, R69: each block answers the decision point once, with its state as the question finds it: the Running
Context its whole state, the Deny List the lookup, which may count a false hit, the Seen Table the record and the pin count,
after the updates sent to it before (log 11), but not while it is engaged in another decision point, from its answer there
until that one ends (log 10). R16, R17, R22, R52: when all three have answered the ruling is that of their answers; a final
verdict updates the Seen Table, and only its eviction is left where a new trip has emptied the table since the consult (log
10); a ride does not; a DENIED entry is claimed, in an order left open with the claims of the same event; nothing else changes.
Which blocks answer at which command is the sender's choice (log 10). -/
def Obligations.DecisionPointConsultsTheBlocks : Prop :=
  (∀ (w : Asks) (a : Asking) (s : State),
    let c := a.inspection.cred
    let asksSeen := w.seenTable = true ∧ a.seen = none ∧ seenEngaged s = false
    let x := askBlocks w a s
    (w.context = true → a.context = none → x.asking.context = some s.rcx)
    ∧ (w.context = false ∨ a.context.isSome = true → x.asking.context = a.context)
    ∧ (w.denyList = true → a.denied = none →
      x.asking.denied = some ⟨s.dnl.state, lookup c s.dnl⟩ ∧ x.state.dnl = afterLookup c s.dnl)
    ∧ (w.denyList = false ∨ a.denied.isSome = true → x.asking.denied = a.denied ∧ x.state.dnl = s.dnl)
    ∧ (asksSeen → ∀ u, u = deliverUpdates s →
      (a.inspection.card = false ∨ (∀ r, findSeen c u.snt = some r → r.stamp ≠ .uncertain) →
        x.asking.seen = some ⟨findSeen c u.snt, pinCount u.snt, .none⟩ ∧ x.claims = [] ∧ x.state.snt = u.snt)
      ∧ (∀ t jobs, a.inspection.card = true → resolve c a.inspection.stamp (contextAnswer s.rcx) u.snt = some (t, jobs) →
        x.asking.seen = some ⟨findSeen c t, pinCount t, .waiting⟩ ∧ x.claims = jobs ∧ x.state.snt = t)
      ∧ x.state = { s with mpt := u.mpt, dnl := x.state.dnl, snt := x.state.snt, jnw := u.jnw })
    ∧ (w.seenTable = false ∨ a.seen.isSome = true ∨ seenEngaged s = true →
      x.asking.seen = a.seen ∧ x.claims = [] ∧ x.state = { s with dnl := x.state.dnl })
    ∧ x.asking.inspection = a.inspection ∧ x.asking.emptied = a.emptied
    ∧ (∀ d e f, x.asking.context = some d → x.asking.denied = some e → x.asking.seen = some f →
      x.asking.replies = some ⟨d, e, f⟩)
    ∧ (x.asking.context = none ∨ x.asking.denied = none ∨ x.asking.seen = none → x.asking.replies = none))
  ∧ (∀ s : State, seenEngaged s = true ↔
    (∃ h ∈ s.clk.hold, ∃ a, h.session = .asking a ∧ a.seen.isSome = true)
    ∨ ∃ sc task a, s.ssc.scan = some sc ∧ sc.phase = .serving task (.tokenAsk a) ∧ a.seen.isSome = true)
  ∧ (∀ (a : Asking) (r : Replies) (claims : List JournalJob) (s : State),
    let q := a.inspection
    let ctx := contextAnswer r.context
    let x := conclude a r claims s
    x.2.ruling = rule q s.ven r ∧ x.2.ctx = ctx ∧ x.2.deniedOwed = r.denied.hit.isSome
    ∧ (x.2.resolvedOwed = true ↔ r.seen.claim = .waiting) ∧ x.2.pins = r.seen.pins
    ∧ (∀ d, x.2.ruling = .final d → a.emptied = none → x.1.snt = noteInspection q.cred d.verdict ctx s.snt)
    ∧ (∀ d n, x.2.ruling = .final d → a.emptied = some n → x.1.snt = { s.snt with evictions := n })
    ∧ (∀ d p n, x.2.ruling = .ride d p n → x.1.snt = s.snt)
    ∧ (r.denied.hit = none → x.1.jnw.queue = s.jnw.queue ++ claims)
    ∧ (∀ e, r.denied.hit = some e → ∃ k ≤ claims.length,
      x.1.jnw.queue = s.jnw.queue
        ++ insertAt k (.entry (deniedEntry q.cred ctx e) (if q.card then .card else .token)) claims)
    ∧ x.1 = { s with
        mpt := x.1.mpt, snt := x.1.snt, jnw := { s.jnw with queue := x.1.jnw.queue, service := x.1.jnw.service }
        draws := x.1.draws })
  ∧ ∀ c : RunningContext,
    (c.state = .none → contextAnswer c = ⟨0, c.day, c.minute, 0, c.conductor⟩)
    ∧ (c.state = .active → contextAnswer c = ⟨c.trip, c.day, c.minute, currentStop c, c.conductor⟩)

/-- R55, R56, R103, R104: at the consult of a card whose record stands UNCERTAIN the doubt is resolved by the card's stamp: the
stamp state, the ride state and the pending sequence of the record change as the outcome gives and no other field does, and
a RESOLVED entry is claimed, followed by a CONFLICT entry where a LANDED ride meets PEER; any other record, and a token,
resolves nothing. The decision point then answers from the record as resolved: the draft carries UNCERTAIN RESOLVED, the
RESOLVED claim is awaited, and the two claims keep their order. -/
def Obligations.DoubtfulStampIsResolved : Prop :=
  (∀ (q : Inspection) (ctx : ContextAnswer) (t : SeenTable),
    q.card = false ∨ findSeen q.cred t = none ∨ (∃ r, findSeen q.cred t = some r ∧ r.stamp ≠ .uncertain) →
    consult q ctx t = (t, none))
  ∧ ∀ (q : Inspection) (s : State) (r : SeenRecord), q.card = true → findSeen q.cred s.snt = some r → r.stamp = .uncertain →
    let ctx := contextAnswer s.rcx
    let out : Resolution :=
      match q.stamp with
      | .absent => .notLanded
      | .damaged => .damaged
      | .intact st => if r.pendingSequence = some st.sequence then .landed else .notLanded
    let after : SeenRecord :=
      { r with
        ride := if out = .landed then (if r.ride = .none ∨ r.ride = .localRide then .localRide else .both) else r.ride
        stamp := (match out with
          | .landed => .done
          | .notLanded => .none
          | .damaged => .damaged)
        pendingSequence := none }
    let claims : List JournalJob :=
      .entry
          ⟨.resolved, q.cred, ctx, r.place,
            (match q.stamp with
              | .intact st => if out = .landed then some st.rides else none
              | .absent | .damaged => none),
            (match out with
              | .landed => 1
              | .notLanded => 2
              | .damaged => 3)⟩ .card
        :: (if out = .landed ∧ r.ride = .peer then
              [.entry ⟨.conflict, q.cred, ctx, r.place, none, r.peerConductor.getD 0⟩ .nobody]
            else [])
    consult q ctx s.snt = (replaceSeen after s.snt, some claims)
    ∧ (s.snt.updates = [] → seenEngaged s = false →
      let x := askBlocks .all { inspection := q } s
      let y : Replies :=
        { context := s.rcx, denied := ⟨s.dnl.state, lookup q.cred s.dnl⟩
          seen := ⟨some after, pinCount (replaceSeen after s.snt), .waiting⟩ }
      x.asking.replies = some y ∧ x.claims = claims ∧ x.state.snt = replaceSeen after s.snt
      ∧ let z := conclude x.asking y x.claims x.state
        z.2.resolvedOwed = true ∧ z.2.pins = pinCount (replaceSeen after s.snt)
        ∧ List.Sublist claims z.1.jnw.queue
        ∧ ∀ d, (z.2.ruling = .final d ∨ ∃ p n, z.2.ruling = .ride d p n) →
          d.flags.uncertainResolved = true ∧ d.flags.seenBefore = true
          ∧ d.seen = some ⟨r.firstStop, r.firstMinute, r.source, r.count⟩)

/-! ### Scans, timers, DOZE and SLEEP -/

/-- R133, R134: the expiry of the poll timer, and a NUDGE with no scan in progress, begin a scan: the first slot that is
not held, from the cursor upward and wrapping, has its state read, and every slot after it up to the one before the cursor
is left to examine; the poll timer stops and the extra scan pending is cleared. R136, R133, R137, R162: the scan ends after
its last slot, whether that slot was not POSTED, was passed over and left POSTED, or was taken and completed, and in HALTING
at the slot in hand, which is left POSTED or completes; what follows is as ScanEnds says: the cursor set, an extra scan, the
poll timer, in DOZE the wake timer. -/
def Obligations.ScansBeginAndEnd : Prop :=
  (∀ (k : Nat) (s : State), s.mpt.asked = [] → scansAllowed s = true → s.ssc.scan = none →
     let n := slotCount s
     let i := (s.ssc.cursor + k) % n
     k < n → s.ssc.cursor < n → i ∉ heldSlots s → (∀ m < k, (s.ssc.cursor + m) % n ∈ heldSlots s) →
     ∃ t, t.mpt = busAfter t s.mpt [readOf .scan (slotAddress s i 0) 1]
       ∧ t = { s with
           mpt := t.mpt
           ssc := { s.ssc with
             pollTimer := none, extraScan := false
             scan := some
               { index := i, remaining := n - 1 - k, leftPosted := [], lastTaken := none, cardPassed := false
                 phase := .readState } } }
       ∧ exec .nudge s = .next t
       ∧ (s.ssc.pollTimer.isSome = true → exec .pollTimerExpiry s = .next t))
  ∧ (∀ (data : List Byte) (sc : Scan) (s : State), ScanAnswered data s → s.mpt.asked = [] → s.ssc.scan = some sc →
       let ends := fun (sc' : Scan) (u : State) =>
         ∃ t, exec (.memoryResponse data) s = .next t ∧ ScanEnds sc' { u with mpt := freeBus s } t
       let left := { sc with leftPosted := sc.leftPosted ++ [sc.index] }
       let done := { s with pev := { s.pev with events := s.pev.events ||| evTaskDone } }
       (s.mpt.runState = .running → NoneFree (heldSlots s) sc s →
         (sc.phase = .readState → byteAt data 0 ≠ 1 → ends sc s)
         ∧ (∀ head r, sc.phase = .readRequest head →
           readSlot (slotCount s) (slotPosted :: (head ++ data)) = .good (.cardInspect r) →
           2 ≤ s.clk.hold.length ∨ sc.cardPassed = true → ends { left with cardPassed := true } s)
         ∧ (sc.phase = .writeDone none → ends sc done))
       ∧ (s.mpt.runState = .halting →
         (sc.phase = .readState → byteAt data 0 ≠ 1 → ends sc s)
         ∧ (sc.phase = .readState → byteAt data 0 = 1 → ends left s)
         ∧ (sc.phase = .readHead ∨ (∃ head, sc.phase = .readRequest head) → ends left s)
         ∧ (sc.phase = .writeDone none → ends sc done)))

/-- R34, R164: the minute timer raises the minute, or holds it at 2,879 with the clock stale, and does nothing while it is
stopped; the end of the settling from SLEEP moves the part to RUN with WOKE, a stale clock and the minute timer running,
and then scans, or takes the HALT. An event that cannot arise has no effect (log 5). -/
def Obligations.ClockAndSettling : Prop :=
  ∀ s : State,
    (s.rcx.minuteTimer = true → s.rcx.minute ≠ 2879 →
      exec .minuteTimerExpiry s = .next { s with rcx := { s.rcx with minute := s.rcx.minute + 1 } })
    ∧ (s.rcx.minuteTimer = true → s.rcx.minute = 2879 →
      exec .minuteTimerExpiry s = .next { s with rcx := { s.rcx with stale := true } })
    ∧ (s.rcx.minuteTimer = false → exec .minuteTimerExpiry s = .next s)
    ∧ (s.pev.settling = none → exec .settlingEnd s = .next s)
    ∧ (portRule s = true →
      let rcx := { s.rcx with stale := true, minuteTimer := true }
      let pev := { s.pev with
        power := .run, settling := none, wakeTimer := none, dozeJob := none, cardNear := false, senseTimer := false
        senseReference := none, events := s.pev.events ||| evWoke }
      (s.pev.settling = some .halt → s.clk.hold = [] →
        exec .settlingEnd s = .next
          { s with
            mpt := { s.mpt with runState := .halting, haltPending := false }
            ssc := { s.ssc with pollTimer := none, extraScan := false, startUp := none }
            rcx := rcx
            pev := pev })
      ∧ (s.pev.settling = some .scan → s.ssc.scan = none → s.ssc.cursor < slotCount s → s.ssc.cursor ∉ heldSlots s →
        ∃ t, exec .settlingEnd s = .next t
          ∧ t.mpt = busAfter t s.mpt [readOf .scan (slotAddress s s.ssc.cursor 0) 1]
          ∧ t.ssc = { s.ssc with
              pollTimer := none, extraScan := false
              scan := some
                { index := s.ssc.cursor, remaining := slotCount s - 1, leftPosted := [], lastTaken := none
                  cardPassed := false, phase := .readState } }
          ∧ t = { s with mpt := t.mpt, ssc := t.ssc, rcx := rcx, pev := pev }))

/-- R162, R116: the expiry of the wake timer in DOZE begins the passive check with the field off, waits for the end of a
sense pulse, or, where a flag skips the check, scans at once; the end of a check sets the finding, latches ANTENNA OPEN
for OPEN and blocks the field under the stop option; the scan of DOZE, or the answer of the FIELD TEST, follows. R123,
R116: a FIELD TEST is BUSY while the field is held, SKIPPED while the OVERCURRENT or THERMAL SHUTDOWN flag is set, and
otherwise begins the passive check, after which its answer follows; a check abandoned because a session is granted the field
ends it BUSY, and one abandoned at a thermal shutdown SKIPPED, after which the scan of DOZE follows. The commands bring the
die temperature (log 7); the end of a check that does not run has no effect (log 5). -/
def Obligations.PassiveChecks : Prop :=
  (∀ s : State, portRule s = true →
     (∀ period, s.mpt.runState = .running → s.pev.power = .doze → s.pev.wakeTimer = some period →
       (s.clk.holder = .none → s.fmn.overcurrent = false → s.fmn.thermalShutdown = false →
         exec .wakeTimerExpiry s = .next
           { s with
             fmn := { s.fmn with passive := some .doze }
             pev := { s.pev with wakeTimer := none, dozeJob := some (.checking period) } })
       ∧ (s.clk.holder = .none → s.fmn.overcurrent = true ∨ s.fmn.thermalShutdown = true →
         s.ssc.cursor < slotCount s → s.ssc.cursor ∉ heldSlots s →
         ∃ t, exec .wakeTimerExpiry s = .next t
           ∧ t.mpt = busAfter t s.mpt [readOf .scan (slotAddress s s.ssc.cursor 0) 1]
           ∧ (t.ssc.scan.map Scan.index) = some s.ssc.cursor
           ∧ t = { s with
               mpt := t.mpt, ssc := t.ssc
               pev := { s.pev with wakeTimer := none, dozeJob := some (.scanning period) } })
       ∧ (s.clk.holder ≠ .none →
         exec .wakeTimerExpiry s = .next
           { s with pev := { s.pev with wakeTimer := none, dozeJob := some (.awaitPulse period) } }))
     ∧ (∀ (carried : Bool) (d : Int) (use : PassiveUse), s.fmn.passive = some use →
       ∃ t, exec (.passiveCheckEnd carried d) s = .next t
         ∧ t.fmn = { (measure d s).fmn with
             passive := none
             finding := if carried then .connected else .openAntenna
             antennaOpen := s.fmn.antennaOpen || !carried
             openBlock := s.fmn.openBlock || (!carried && s.fmn.stopOnOpen) }
         ∧ t.pev.events = (if carried = false ∧ s.fmn.antennaOpen = false ∧ s.fmn.reportOpen = .event then
             s.pev.events ||| evFieldFault else s.pev.events)
         ∧ t = { s with mpt := t.mpt, ssc := t.ssc, fmn := t.fmn, pev := t.pev }
         ∧ (∀ sc task, use = .fieldTest → servedTask s = some (sc, task, .antennaCheck) →
           Completes sc task.tag (fieldTestAnswer (if carried then .connected else .openAntenna) t.fmn) none s t)
         ∧ (∀ period, use = .doze → s.pev.dozeJob = some (.checking period) → s.ssc.cursor < slotCount s →
           s.ssc.cursor ∉ heldSlots s →
           t.mpt = busAfter t s.mpt [readOf .scan (slotAddress s s.ssc.cursor 0) 1]
           ∧ (t.ssc.scan.map Scan.index) = some s.ssc.cursor
           ∧ t.pev = { s.pev with events := t.pev.events, dozeJob := some (.scanning period) }))
     ∧ ∀ (carried : Bool) (d : Int), s.fmn.passive = none → exec (.passiveCheckEnd carried d) s = .next s)
  ∧ (∀ (d : Int) (sc : Scan) (tag : Half) (s : State), s.mpt.asked = [] → InHand sc ⟨tag, .fieldTest⟩ s →
       let f := if tempQuiet d s.fmn = true then { s.fmn with dieTemp := d } else s.fmn
       ∃ t, exec (.fieldTest d) s = .next t
         ∧ (s.clk.holder ≠ .none →
           Completes sc tag (fieldTestAnswer .busy f) none s t ∧ t = { s with mpt := t.mpt, ssc := t.ssc, fmn := f })
         ∧ (s.clk.holder = .none → s.fmn.overcurrent = true ∨ s.fmn.thermalShutdown = true →
           Completes sc tag (fieldTestAnswer .skipped f) none s t ∧ t = { s with mpt := t.mpt, ssc := t.ssc, fmn := f })
         ∧ (s.clk.holder = .none → s.fmn.overcurrent = false → s.fmn.thermalShutdown = false →
           t.mpt = busAfter t s.mpt []
           ∧ t = { s with
               mpt := t.mpt, ssc := { s.ssc with scan := some { sc with phase := .serving ⟨tag, .fieldTest⟩ .antennaCheck } }
               fmn := { f with passive := some .fieldTest } }))
  ∧ (∀ (h h2 : HeldTask) (e : SessionEnd) (o : Owed) (sc : Scan) (task : Task) (s : State), CardAnswered h.slot s →
       s.mpt.asked = [] → s.clk.hold = [h, h2] → h.slot ≠ h2.slot → h.session = .closing e o .writeDone →
       h2.session = .waitingField → s.clk.holder = .none → fieldBlocked s = false → s.fmn.passive = some .fieldTest →
       servedTask s = some (sc, task, .antennaCheck) →
       ∃ t, exec (.memoryResponse []) s = .next t
         ∧ Completes sc task.tag (fieldTestAnswer .busy t.fmn) none { s with mpt := freeBus s } t
         ∧ t.clk.hold = [{ h2 with session := .presence }] ∧ t.clk.holder = .session
         ∧ t.fmn = { s.fmn with finding := t.fmn.finding, detected := false, passive := none })
  ∧ (∀ (d : Int) (s : State), portRule s = true → 125 ≤ d → d ≤ 150 → s.clk.holder = .none →
       ∃ t, exec (.thermalShutdown d) s = .next t
         ∧ t.fmn = { s.fmn with
             dieTemp := d, thermalWarning := true, reducedDuty := true, thermalShutdown := true, shutdownBlock := true
             passive := none }
         ∧ (∀ sc task, s.fmn.passive = some .fieldTest → servedTask s = some (sc, task, .antennaCheck) →
           Completes sc task.tag (fieldTestAnswer .skipped t.fmn) none s t)
         ∧ (∀ period, s.fmn.passive = some .doze → s.pev.dozeJob = some (.checking period) → s.ssc.cursor < slotCount s →
           s.ssc.cursor ∉ heldSlots s →
           t.mpt = busAfter t s.mpt [stateReadOf s s.ssc.cursor]
           ∧ (t.ssc.scan.map Scan.index) = some s.ssc.cursor ∧ t.pev.dozeJob = some (.scanning period)))

/-- R163, R86: in DOZE a sense expiry turns the field on for a pulse, or makes none in a blocked field; the end of a pulse
releases the field and takes the measurement for the reference, or, more than 5 mA from it, wakes the part with CARD NEAR
and WOKE and starts the poll timer with no scan; a check that waited for the pulse begins, but is not made where that very pulse wakes
the part (log 22). A check in progress is abandoned by the grant, and its scan follows (R116, R162). The finding at the turn-on
is free (log 8). -/
def Obligations.SensePulses : Prop :=
  ∀ s : State, portRule s = true → s.mpt.runState = .running → s.pev.power = .doze →
    (s.pev.senseTimer = true → s.clk.holder = .none → fieldBlocked s = false → s.fmn.passive = none →
      ∃ t, exec .senseTimerExpiry s = .next t
        ∧ (t.fmn.finding = .connected ∨ t.fmn.finding = s.fmn.finding)
        ∧ t = { s with
            clk := { s.clk with holder := .sense }
            fmn := { s.fmn with finding := t.fmn.finding, detected := false }
            draws := s.draws + 1 })
    ∧ (s.pev.senseTimer = true → s.clk.holder = .none → fieldBlocked s = false → s.fmn.passive = some .doze →
      ∃ t, exec .senseTimerExpiry s = .next t ∧ t.clk = { s.clk with holder := .sense } ∧ t.fmn.passive = none
        ∧ t.fmn.antennaOpen = s.fmn.antennaOpen ∧ t.fmn.openBlock = s.fmn.openBlock
        ∧ ∀ period, s.pev.dozeJob = some (.checking period) → s.ssc.cursor < slotCount s → s.ssc.cursor ∉ heldSlots s →
          t.mpt = busAfter t s.mpt [stateReadOf s s.ssc.cursor]
          ∧ t.ssc = { s.ssc with pollTimer := none, extraScan := false, scan := some (scanFrom s s.ssc.cursor) }
          ∧ t.pev = { s.pev with dozeJob := some (.scanning period) })
    ∧ (fieldBlocked s = true → exec .senseTimerExpiry s = .next s)
    ∧ ∀ m, s.clk.holder = .sense → s.clk.hold = [] →
      (s.pev.dozeJob = none → (∀ r, s.pev.senseReference = some r → m ≤ r + 5 ∧ r ≤ m + 5) →
        exec (.sensePulseEnd m) s = .next
          { s with
            clk := { s.clk with holder := .none }
            fmn := { s.fmn with detected := false }
            pev := { s.pev with senseReference := some m } })
      ∧ (∀ period, s.pev.dozeJob = some (.awaitPulse period) →
        (∀ r, s.pev.senseReference = some r → m ≤ r + 5 ∧ r ≤ m + 5) → passiveSkipped s = false →
        exec (.sensePulseEnd m) s = .next
          { s with
            clk := { s.clk with holder := .none }
            fmn := { s.fmn with detected := false, passive := some .doze }
            pev := { s.pev with senseReference := some m, dozeJob := some (.checking period) } })
      ∧ ∀ r, s.pev.senseReference = some r → r + 5 < m ∨ m + 5 < r → s.ssc.scan = none →
        exec (.sensePulseEnd m) s = .next
          { s with
            clk := { s.clk with holder := .none }
            fmn := { s.fmn with detected := false }
            ssc := { s.ssc with
              pollTimer := if s.ssc.pollInterval = 0 then none else some s.ssc.pollInterval }
            pev := { s.pev with
              power := .run, wakeTimer := none, dozeJob := none, cardNear := false, senseTimer := false
              senseReference := none, events := s.pev.events ||| evCardNear ||| evWoke } }

/-! ### The field and the die -/

/-- R115, R117, R114: an antenna-open detection while a session holds the field sets the finding OPEN and latches the flag,
blocks the field and forces it off under the stop option, and otherwise leaves it on; a rise of the current sets the finding
CONNECTED; an overcurrent latches, blocks and forces off whoever holds the field; FIELD FAULT is raised at a latch that is
reported as an event. R105: a field forced off ends the head session by its state: PRESENCE and READING complete FIELD FAULT
with nothing sent to the Seen Table or the journal; DECIDING completes FIELD FAULT, the claims of its consult stand, and its
waiting reservation is to be filled VOID (a decision point in progress stands as DECIDING: log 10); STAMPING is settled as
STAMP UNCERTAIN, with its fill and its update sent. -/
def Obligations.DetectionsForceTheFieldOff : Prop :=
  (∀ s : State, portRule s = true →
     (s.clk.holder = .session → s.fmn.detected = false →
       let events := if s.fmn.antennaOpen = false ∧ s.fmn.reportOpen = .event then s.pev.events ||| evFieldFault
         else s.pev.events
       (s.fmn.stopOnOpen = false →
         exec .antennaOpenDetection s = .next
           { s with
             fmn := { s.fmn with finding := .openAntenna, antennaOpen := true, detected := true }
             pev := { s.pev with events := events } })
       ∧ (s.fmn.stopOnOpen = true →
         ∃ t, exec .antennaOpenDetection s = .next t
           ∧ t.fmn = { s.fmn with finding := .openAntenna, antennaOpen := true, openBlock := true, detected := false }
           ∧ t.clk.holder = .none
           ∧ t = { s with
               mpt := t.mpt, clk := t.clk, fmn := t.fmn, jnw := t.jnw, snt := t.snt
               pev := { s.pev with events := events } }))
     ∧ (s.clk.holder ≠ .session ∨ s.fmn.detected = true → exec .antennaOpenDetection s = .next s)
     ∧ (s.clk.holder ≠ .none →
       exec .antennaCurrentRise s = .next { s with fmn := { s.fmn with finding := .connected, detected := false } })
     ∧ (s.clk.holder = .none → exec .antennaCurrentRise s = .next s ∧ exec .overcurrentDetection s = .next s)
     ∧ (s.clk.holder ≠ .none →
       ∃ t, exec .overcurrentDetection s = .next t
         ∧ t.fmn = { s.fmn with overcurrent := true, overcurrentBlock := true, detected := false }
         ∧ t.clk.holder = .none
         ∧ t.pev.events = (if s.fmn.overcurrent = false ∧ s.fmn.reportOvercurrent = .event then
             s.pev.events ||| evFieldFault else s.pev.events)
         ∧ t.rcx = s.rcx ∧ t.ven = s.ven ∧ t.dnl = s.dnl))
  ∧ (∀ (c : Instr) (h : HeldTask) (rest : List HeldTask) (s : State),
       portRule s = true → s.fmn.passive = none → s.clk.holder = .session → s.clk.hold = h :: rest →
       h.slot ∉ rest.map HeldTask.slot →
       (c = .overcurrentDetection ∨ (c = .antennaOpenDetection ∧ s.fmn.stopOnOpen = true ∧ s.fmn.detected = false)
         ∨ ∃ d, 125 ≤ d ∧ c = .thermalShutdown d) →
       (h.session = .presence ∨ h.session = .reading →
         ∃ t, exec c s = .next t
           ∧ t.clk.hold = { h with session := .closing (.coded .fieldFault (cardIdOf s)) {} .writeAnswer } :: rest
           ∧ t.clk.holder = .none ∧ t.snt = s.snt ∧ t.jnw = s.jnw
           ∧ t.mpt = busAfter t s.mpt
               [answerOf (.card h.slot) s h.slot h.tag (codedAnswer .fieldFault (cardIdOf s))])
       ∧ (∀ a, h.session = .asking a →
         ∃ t, exec c s = .next t
           ∧ t.clk.hold = { h with session := .closing (.coded .fieldFault (cardIdOf s)) {} .writeAnswer } :: rest
           ∧ t.clk.holder = .none ∧ t.snt = s.snt
           ∧ t.jnw = { s.jnw with queue := s.jnw.queue.map disownJob })
       ∧ (∀ d p g, h.session = .deciding d p g →
         ∃ t, exec c s = .next t
           ∧ t.clk.hold = { h with session := .closing (.coded .fieldFault (cardIdOf s)) {} .writeAnswer } :: rest
           ∧ t.clk.holder = .none ∧ t.snt = s.snt
           ∧ t.jnw = { s.jnw with queue := s.jnw.queue.map (orphanJob (voidEntry p .fieldFault)) })
       ∧ (∀ x d p ps, h.session = .stamping x d p → s.clk.pendingStamp = some ps →
         ∃ t, exec c s = .next t
           ∧ t.clk.hold =
               { h with session := .closing (.ok (outcomeDraft .uncertain d p ps)) { fill := true } .awaitJournal } :: rest
           ∧ t.clk.holder = .none ∧ t.clk.pendingStamp = none
           ∧ t.snt = { s.snt with updates := s.snt.updates ++ [outcomeUpdate .uncertain p ps] }
           ∧ t.jnw.queue = s.jnw.queue ++ [.fill (outcomeEntry .uncertain p ps)]))

/-- R118, R119, R114, R163: 105 degrees latches THERMAL WARNING and brings reduced duty; 125 degrees latches THERMAL SHUTDOWN,
blocks the field, forces it off and abandons a passive check; below 110 degrees the block lifts and at 95 degrees reduced
duty; a block lifted in DOZE makes the sense reference none; under reduced duty the driver is lowered between the exchanges of
a session, and full for each exchange and for the pulses of the sense. Each command brings the temperature reached (log 7). -/
def Obligations.TemperatureCrossings : Prop :=
  ∀ (d : Int) (s : State), portRule s = true →
    let lifted := if s.pev.power = .doze ∧ s.fmn.shutdownBlock = true then none else s.pev.senseReference
    let warned := if s.fmn.thermalWarning = false ∧ s.fmn.reportWarning = .event then s.pev.events ||| evFieldFault
      else s.pev.events
    (105 ≤ d → d < 125 → 110 ≤ d ∨ s.fmn.shutdownBlock = false →
      exec (.thermalWarning d) s = .next
        { s with
          fmn := { s.fmn with dieTemp := d, thermalWarning := true, reducedDuty := true }
          pev := { s.pev with events := warned } })
    ∧ (125 ≤ d → d ≤ 150 →
      ∃ t, exec (.thermalShutdown d) s = .next t
        ∧ t.fmn = { s.fmn with
            dieTemp := d, thermalWarning := true, reducedDuty := true, thermalShutdown := true, shutdownBlock := true
            passive := none, detected := s.fmn.detected && s.clk.holder == .none }
        ∧ t.clk.holder = .none
        ∧ t.pev.events = (if s.fmn.thermalShutdown = false ∧ s.fmn.reportShutdown = .event then warned ||| evFieldFault
            else warned)
        ∧ t.rcx = s.rcx ∧ t.ven = s.ven ∧ t.dnl = s.dnl
        ∧ (s.clk.holder = .none → s.fmn.passive = none → t = { s with fmn := t.fmn, pev := t.pev }))
    ∧ (95 < d → d < 110 → d < 105 ∨ (s.fmn.thermalWarning = true ∧ s.fmn.reducedDuty = true) →
      exec (.shutdownBlockLift d) s = .next
        { s with
          fmn := { s.fmn with dieTemp := d, shutdownBlock := false }
          pev := { s.pev with senseReference := lifted } })
    ∧ (-40 ≤ d → d ≤ 95 →
      exec (.reducedDutyLift d) s = .next
        { s with
          fmn := { s.fmn with dieTemp := d, reducedDuty := false, shutdownBlock := false }
          pev := { s.pev with senseReference := lifted } })
    ∧ (d < 105 → exec (.thermalWarning d) s = .next s) ∧ (d < 125 → exec (.thermalShutdown d) s = .next s)
    ∧ (110 ≤ d → exec (.shutdownBlockLift d) s = .next s) ∧ (95 < d → exec (.reducedDutyLift d) s = .next s)
    ∧ (s.clk.holder = .none → fieldDrive s = .off)
    ∧ (s.clk.holder = .sense ∨ (s.clk.holder = .session ∧ (s.fmn.reducedDuty = false ∨ s.clk.tries ≠ 0)) →
      fieldDrive s = .full)
    ∧ (s.clk.holder = .session → s.fmn.reducedDuty = true → s.clk.tries = 0 → fieldDrive s = .lowered)

/-! ### Card sessions -/

/-- R94: in PRESENCE each interval sends one WAKE, with 50 ms, or 200 ms in REDUCED or under reduced duty; a good HELLO is
kept and leads to READING; overlapping HELLOs end the session MULTIPLE CARDS; any other reply leaves the session waiting;
the deadline ends it NO CREDENTIAL; neither verdict reaches the Seen Table or the journal. -/
def Obligations.PresenceWaitsForOneCard : Prop :=
  ∀ (h : HeldTask) (rest : List HeldTask) (s : State), portRule s = true → s.clk.hold = h :: rest →
    h.slot ∉ rest.map HeldTask.slot → h.session = .presence → s.clk.holder = .session →
    let closed := fun (t : State) (v : Verdict) =>
      t.clk.hold = { h with session := .closing (.ok { verdict := v }) {} .writeAnswer } :: rest
      ∧ t.clk.holder = .none ∧ t.clk.deadline = none
      ∧ t.mpt = busAfter t s.mpt [answerOf (.card h.slot) s h.slot h.tag (inspectionAnswer { verdict := v })]
      ∧ t = { s with mpt := t.mpt, clk := t.clk, fmn := { s.fmn with detected := false } }
    exec .presenceIntervalExpiry s = .next
        { s with clk := { s.clk with
            tries := 1, interval := if s.fmn.reducedDuty = true ∨ s.pev.power = .reduced then 200 else 50 } }
    ∧ (∃ t, exec .presentationDeadline s = .next t ∧ closed t .noCredential)
    ∧ ∀ (cardId : Cred) (filled : Byte) (stamp : Bool), s.clk.tries ≠ 0 →
      (cardId ≠ 0 → filled.toNat ≤ 3 →
        exec (.hello .good cardId filled stamp) s = .next
          { s with clk := { s.clk with
              hold := { h with session := .reading } :: rest
              identity := some ⟨cardId, filled.toNat, stamp⟩
              tries := 1 } })
      ∧ (∃ t, exec (.hello .overlap cardId filled stamp) s = .next t ∧ closed t .multipleCards)
      ∧ ∀ link, link = .badCheck ∨ link = .malformed ∨ (link = .good ∧ (cardId = 0 ∨ 3 < filled.toNat)) →
        exec (.hello link cardId filled stamp) s = .next { s with clk := { s.clk with tries := 0 } }

/-- R93, R95, R99, R100: a reply that fails, or none within the limit, fails the try: the request is sent again while fewer
than three tries are used; an exhausted READ AREA ends the session UNREADABLE with the card ID; an exhausted PUT STAMP leads
to CHECK STAMP; an exhausted CHECK STAMP is UNCERTAIN; a WAKE is a single try. -/
def Obligations.TriesAndExhaustion : Prop :=
  ∀ (h : HeldTask) (rest : List HeldTask) (s : State), portRule s = true → s.clk.hold = h :: rest →
    h.slot ∉ rest.map HeldTask.slot → s.clk.holder = .session →
    (h.session = .presence → exec .replyLimitExpiry s = .next { s with clk := { s.clk with tries := 0 } })
    ∧ (s.clk.tries < 3 → h.session = .reading ∨ (∃ x d p, h.session = .stamping x d p) →
      exec .replyLimitExpiry s = .next { s with clk := { s.clk with tries := s.clk.tries + 1 } })
    ∧ (3 ≤ s.clk.tries → h.session = .reading →
      ∃ t, exec .replyLimitExpiry s = .next t
        ∧ t.clk.hold =
            { h with session := .closing (.ok { verdict := .unreadable, cred := cardIdOf s }) {} .writeAnswer } :: rest
        ∧ t.clk.holder = .none
        ∧ t = { s with mpt := t.mpt, clk := t.clk, fmn := { s.fmn with detected := false } })
    ∧ (∀ d p, 3 ≤ s.clk.tries → h.session = .stamping .put d p →
      exec .replyLimitExpiry s = .next
        { s with clk := { s.clk with hold := { h with session := .stamping .check d p } :: rest, tries := 1 } })
    ∧ (∀ d p ps, 3 ≤ s.clk.tries → h.session = .stamping .check d p → s.clk.pendingStamp = some ps →
      ∃ t, exec .replyLimitExpiry s = .next t
        ∧ t.clk.hold =
            { h with session := .closing (.ok (outcomeDraft .uncertain d p ps)) { fill := true } .awaitJournal } :: rest
        ∧ t.jnw.queue = s.jnw.queue ++ [.fill (outcomeEntry .uncertain p ps)]
        ∧ t.snt.updates = s.snt.updates ++ [outcomeUpdate .uncertain p ps])
    ∧ (h.session = .reading → ∀ link records stamp w, link ≠ .good →
      exec (.area link records stamp w) s = exec .replyLimitExpiry s)
    ∧ (∀ d p link cardId, h.session = .stamping .put d p → link ≠ .good ∨ cardIdOf s ≠ some cardId →
      exec (.stampAck link cardId) s = exec .replyLimitExpiry s)
    ∧ ∀ d p link stamp, h.session = .stamping .check d p → link ≠ .good →
      exec (.checkStampReply link stamp) s = exec .replyLimitExpiry s

/-- R95, R96, R97: an AREA reply that fits leads to the decision point, which later AREA commands carry on where blocks have
yet to answer; when the last has answered it ends. A final verdict closes the session, which waits for a DENIED or RESOLVED
claim; a ride is refused UNCERTAIN LIMIT at 32 pins, with its update sent; otherwise a reservation is claimed, after a
RESOLVED claim of the consult has been served. That the blocks may answer at several commands is log 10. -/
def Obligations.AreaLeadsToTheDecision : Prop :=
  ∀ (h : HeldTask) (rest : List HeldTask) (w : Asks) (s : State), portRule s = true → s.clk.hold = h :: rest →
    h.slot ∉ rest.map HeldTask.slot → s.clk.holder = .session →
    let decided := fun (a : Asking) (u t : State) =>
      let x := askBlocks w a u
      t.dnl = x.state.dnl ∧ t.rcx = s.rcx ∧ t.ven = s.ven ∧ t.ssc = s.ssc ∧ t.pev = s.pev
      ∧ (x.asking.replies = none →
        t.clk = { u.clk with hold := { h with session := .asking x.asking } :: rest }
        ∧ t.snt = x.state.snt ∧ t.jnw.queue = x.state.jnw.queue ++ x.claims)
      ∧ ∀ y, x.asking.replies = some y →
        let q := a.inspection
        let r := conclude x.asking y x.claims x.state
        (∀ d, r.2.ruling = .final d →
          let owed : Owed := { denied := r.2.deniedOwed, resolved := r.2.resolvedOwed }
          t.clk.hold =
            { h with session := .closing (.ok d) owed (if owed = {} then .writeAnswer else .awaitJournal) } :: rest
          ∧ t.clk.holder = .none ∧ t.snt = r.1.snt ∧ t.jnw = r.1.jnw)
        ∧ ∀ d place rides, r.2.ruling = .ride d place rides →
          let old := match q.stamp with
            | .intact st => some st.sequence
            | .absent | .damaged => none
          let p : RidePlan := ⟨q.cred, r.2.ctx, place, rides, old⟩
          (32 ≤ r.2.pins →
            t.clk.holder = .none
            ∧ t.snt = { r.1.snt with updates := r.1.snt.updates ++ [⟨q.cred, .refused, r.2.ctx⟩] }
            ∧ t.jnw = r.1.jnw
            ∧ (t.clk.hold.head?.map HeldTask.session) = some (.closing
                (.ok { d with verdict := .rideNotTaken, reason := some .uncertainLimit, ridesLeft := some rides })
                { resolved := r.2.resolvedOwed } (if r.2.resolvedOwed then .awaitJournal else .writeAnswer)))
          ∧ (r.2.pins < 32 → r.2.resolvedOwed = true →
            t.clk = { u.clk with hold := { h with session := .deciding d p .awaitResolved } :: rest }
            ∧ t.snt = r.1.snt ∧ t.jnw = r.1.jnw)
          ∧ (r.2.pins < 32 → r.2.resolvedOwed = false →
            t.clk = { u.clk with hold := { h with session := .deciding d p .awaitReservation } :: rest }
            ∧ t.snt = r.1.snt ∧ t.jnw.queue = r.1.jnw.queue ++ [.reserve])
    (∀ (id : CardIdentity) (records : List (List Byte)) (stamp : Option (List Byte)), h.session = .reading →
      s.clk.identity = some id → records.length = id.filled → (∀ r ∈ records, r.length = 32) →
      stamp.isSome = id.stamp → (∀ b, stamp = some b → b.length = 16) →
      ∃ t, exec (.area .good records stamp w) s = .next t
        ∧ decided
          { inspection :=
              { card := true, cred := id.cred, places := readPlaces records, stamp := stampStanding stamp
                seated := h.req.seated, ride := h.req.ride } }
          { s with clk := { s.clk with tries := 0 } } t)
    ∧ ∀ a link records stamp, h.session = .asking a →
      ∃ t, exec (.area link records stamp w) s = .next t ∧ decided a s t

/-- R99, R100: a STAMP ACK of the session's card leads to CHECK STAMP and proves nothing by itself; the reply to CHECK
STAMP is classified by its standing and sequence against the new stamp and the old one, row by row of the table. R101,
R149, R19: the CHECK STAMP reply taken, the outcome acts: the reservation is to be filled RIDE, VOID with cause STAMP
FAILED, or UNCERTAIN; the update goes to the Seen Table; the session enters CLOSING with the verdict of the outcome, the
rides left after and the reservation's serial, releases the field, and waits for the fill. That the fill reaches the Journal
Writer at this event, and the update after it, is log 39. -/
def Obligations.StampingIsClassifiedAndActs : Prop :=
  ((∀ (h : HeldTask) (rest : List HeldTask) (d : Draft) (p : RidePlan) (cardId : Cred) (s : State),
     s.clk.hold = h :: rest → h.slot ∉ rest.map HeldTask.slot → h.session = .stamping .put d p →
     cardIdOf s = some cardId →
     exec (.stampAck .good cardId) s = .next
       { s with clk := { s.clk with hold := { h with session := .stamping .check d p } :: rest, tries := 1 } })
   ∧ ∀ ps : PendingStamp,
     (∀ st, st.sequence = ps.stamp.sequence → classify ps (.intact st) = .landed)
     ∧ (∀ st, st.sequence ≠ ps.stamp.sequence → ps.old = some st.sequence → classify ps (.intact st) = .notLanded)
     ∧ (ps.old = none → classify ps .absent = .notLanded)
     ∧ classify ps .damaged = .uncertain
     ∧ (∀ st, st.sequence ≠ ps.stamp.sequence → ps.old ≠ some st.sequence → classify ps (.intact st) = .uncertain)
     ∧ (ps.old ≠ none → classify ps .absent = .uncertain))
  ∧ (∀ (h : HeldTask) (rest : List HeldTask) (d : Draft) (p : RidePlan) (ps : PendingStamp) (stamp : Option (List Byte))
       (s : State), s.clk.hold = h :: rest → h.slot ∉ rest.map HeldTask.slot → h.session = .stamping .check d p →
       s.clk.pendingStamp = some ps → (∀ b, stamp = some b → b.length = 16) → s.clk.holder = .session →
       ∃ t, exec (.checkStampReply .good stamp) s = .next t
         ∧ t.clk.holder = .none ∧ t.clk.pendingStamp = none ∧ t.clk.deadline = none ∧ t.clk.tries = 0
         ∧ t = { s with
             mpt := t.mpt, clk := t.clk, fmn := { s.fmn with detected := false }, snt := t.snt, jnw := t.jnw, draws := t.draws }
         ∧ let ends := fun (o : Draft) (e : EntryContents) (u : RideOutcome) =>
             t.clk.hold = { h with session := .closing (.ok o) { fill := true } .awaitJournal } :: rest
             ∧ t.jnw.queue = s.jnw.queue ++ [.fill e]
             ∧ t.snt = { s.snt with updates := s.snt.updates ++ [⟨p.cred, u, p.ctx⟩] }
           (classify ps (stampStanding stamp) = .landed →
             ends
               { d with
                 verdict := .rideTaken, reason := none, ridesLeft := some (p.rides - 1), journalSerial := some ps.serial }
               ⟨.ride, p.cred, p.ctx, some p.place, some ps.stamp.rides, 0⟩ (.landed p.place))
           ∧ (classify ps (stampStanding stamp) = .notLanded →
             ends
               { d with
                 verdict := .rideNotTaken, reason := some .stampFailed, ridesLeft := some p.rides
                 journalSerial := some ps.serial }
               ⟨.void, p.cred, p.ctx, some p.place, none, 1⟩ (.stampFailed p.place))
           ∧ (classify ps (stampStanding stamp) = .uncertain →
             ends
               { d with
                 verdict := .stampUncertain, reason := none, ridesLeft := some (p.rides - 1)
                 journalSerial := some ps.serial }
               ⟨.uncertain, p.cred, p.ctx, some p.place, some ps.stamp.rides, 0⟩ (.uncertain p.place ps.stamp.sequence)))

/-- R97, R98, R150, R152: a reservation claim that meets an entry marked PART is granted: the cursor entry and the next
serial are the session's, nothing is written, the new stamp is composed from the plan of the decision point, its check over
its first 12 bytes, and the session enters STAMPING with its first PUT STAMP. That the pending-stamp data is set at the grant,
and not at the claim, is log 46. -/
def Obligations.ReservationGrantedComposesTheStamp : Prop :=
  ∀ (h : HeldTask) (rest : List HeldTask) (d : Draft) (p : RidePlan) (ring : Ring) (s : State),
    portRule s = true → s.clk.hold = h :: rest → h.slot ∉ rest.map HeldTask.slot →
    h.session = .deciding d p .awaitReservation → s.jnw.ring = some ring → s.jnw.queue = [.reserve] →
    s.jnw.service = .markRead 0x5A →
    let stamp : StampRecord :=
      { sequence := (match p.old with
          | some n => n + 1
          | none => 1)
        day := p.ctx.day, trip := p.ctx.trip, stop := p.ctx.stop, conductor := p.ctx.conductor
        place := BitVec.ofNat 8 p.place, rides := p.rides - 1 }
    exec .journalClaim s = .next
        { s with
          jnw := { s.jnw with
            cursor := (s.jnw.cursor + 1) % ring.entries, nextSerial := s.jnw.nextSerial + 1
            reservation := some ⟨s.jnw.cursor, s.jnw.nextSerial⟩, queue := [], service := .idle }
          clk := { s.clk with
            hold := { h with session := .stamping .put d p } :: rest, tries := 1
            pendingStamp := some ⟨p.old, stamp, s.jnw.nextSerial⟩ } }
    ∧ (stampBytes stamp).length = 16 ∧ readStamp (stampBytes stamp) = stamp
    ∧ wordAt (stampBytes stamp) 12 = crc32 ((stampBytes stamp).take 12)

/-! ### Scans and the completion of tasks -/

/-- R130, R177: what a POSTED slot holds, by the code of its kind and the fields of its request: an unknown kind is a bad
kind, a field outside its values makes the task bad, and a good request carries the values at the offsets of the layout rule.
Byte 0 of the slot is its state. -/
def Obligations.RequestsAreReadByTheTable : Prop :=
  ∀ (slots : Nat) (b : List Byte),
    let kind := (byteAt b 1).toNat
    let yes := fun off => byteAt b off = 0 ∨ byteAt b off = 1
    let class12 := fun off => byteAt b off = 1 ∨ byteAt b off = 2
    let good := readSlot slots b ≠ .badKind ∧ ∀ k, readSlot slots b ≠ .badField k
    (readSlot slots b = .badKind ↔ kind = 0 ∨ 16 < kind)
    ∧ (kind = 1 → (good ↔ (byteAt b 4).toNat ≤ 30 ∧ class12 5 ∧ yes 6)
      ∧ (good → readSlot slots b = .good (.cardInspect
        ⟨if byteAt b 4 = 0 then 10 else (byteAt b 4).toNat, (byteAt b 5).toNat, byteAt b 6 == 1⟩)))
    ∧ (kind = 2 → (good ↔ class12 8 ∧ yes 9)
      ∧ (good → readSlot slots b = .good (.tokenInspect ⟨wordAt b 4, (byteAt b 8).toNat, byteAt b 9 == 1⟩)))
    ∧ (kind = 3 → (good ↔ class12 4 ∧ halfAt b 6 ≠ 0 ∧ (halfAt b 10).toNat ≤ 2879)
      ∧ (good → readSlot slots b = .good (.route
        ⟨if byteAt b 4 = 1 then .newTrip else .continueTrip, halfAt b 6, halfAt b 8, halfAt b 10, halfAt b 12,
          (halfAt b 14).toNat, wordAt b 16⟩)))
    ∧ (kind = 4 →
      (good ↔ class12 4 ∧ (halfAt b 6 ≠ 0 ∧ halfAt b 6 ≠ 65535) ∧ yes 8
        ∧ (byteAt b 8 = 1 → (halfAt b 10).toNat ≤ 2879))
      ∧ (good → readSlot slots b = .good (.position
        ⟨if byteAt b 4 = 1 then .arrive else .depart, halfAt b 6, if byteAt b 8 = 1 then some (halfAt b 10) else none⟩)))
    ∧ (kind = 5 → (good ↔ yes 6 ∧ yes 7 ∧ wordAt b 8 ≠ 0 ∧ (halfAt b 12).toNat ≤ 256)
      ∧ (good → readSlot slots b = .good (.denyReplace
        ⟨(halfAt b 4).toNat, byteAt b 6 == 1, byteAt b 7 == 1, wordAt b 8, (halfAt b 12).toNat, wordAt b 16⟩)))
    ∧ (kind = 6 → (good ↔ yes 6 ∧ yes 7 ∧ (byteAt b 12).toNat ≤ 128)
      ∧ (good → readSlot slots b = .good (.denyDelta
        ⟨(halfAt b 4).toNat, byteAt b 6 == 1, byteAt b 7 == 1, wordAt b 8, (byteAt b 12).toNat, wordAt b 16⟩)))
    ∧ (kind = 7 → readSlot slots b = .good (.denyPrune (halfAt b 4)))
    ∧ (kind = 8 → (good ↔ 1 ≤ (byteAt b 4).toNat ∧ (byteAt b 4).toNat ≤ 32)
      ∧ (good → readSlot slots b = .good (.peerNotes (byteAt b 4).toNat (wordAt b 8))))
    ∧ (kind = 9 → (good ↔ 1 ≤ (halfAt b 8).toNat ∧ (halfAt b 8).toNat ≤ 256)
      ∧ (good → readSlot slots b = .good (.seenExport (wordAt b 4) (halfAt b 8).toNat (wordAt b 12))))
    ∧ (kind = 10 → readSlot slots b = .good .fieldTest)
    ∧ (kind = 11 →
      (good ↔ (1 ≤ (byteAt b 4).toNat ∧ (byteAt b 4).toNat ≤ 4)
        ∧ (byteAt b 4 = 3 → 1 ≤ (halfAt b 6).toNat ∧ (halfAt b 6).toNat ≤ 600 ∧ yes 8))
      ∧ (byteAt b 4 = 1 → readSlot slots b = .good (.power .run 0 false))
      ∧ (byteAt b 4 = 2 → readSlot slots b = .good (.power .reduced 0 false))
      ∧ (byteAt b 4 = 3 → good → readSlot slots b = .good (.power .doze (halfAt b 6).toNat (byteAt b 8 == 1)))
      ∧ (byteAt b 4 = 4 → readSlot slots b = .good (.power .sleep 0 false)))
    ∧ (kind = 12 → (good ↔ (byteAt b 4).toNat < slots)
      ∧ (good → readSlot slots b = .good (.cancel (byteAt b 4).toNat)))
    ∧ (kind = 13 → (good ↔ (byteAt b 4).toNat ≤ 7 ∧ yes 5)
      ∧ (good → readSlot slots b = .good (.keyLoad (byteAt b 4).toNat (byteAt b 5 == 1) (wordAt b 8))))
    ∧ (kind = 14 → (good ↔ (byteAt b 4).toNat ≤ 7)
      ∧ (good → readSlot slots b = .good (.keyClear (byteAt b 4).toNat)))
    ∧ (kind = 15 → readSlot slots b = .good (.status (wordAt b 4)))
    ∧ (kind = 16 → readSlot slots b = .good (.identify (wordAt b 4)))

/-- R134, R135, R130, R162: the scan at a slot in RUNNING: a slot not POSTED is passed by; a POSTED slot has its kind and tag
read, at offsets 1 to 3, and where the kind is known its request area, at offsets 4 to 23 (accesses: log 3); one of unknown
kind is taken with nothing more read; a good CARD INSPECT with two tasks held, or after one passed over, is passed over and left
POSTED; any other POSTED task is taken, in DOZE with the wake to RUN, at the event at which the write of TAKEN is asked for (log
44); and after TAKEN a bad task is refused and a good one goes to its owner (the fields a refused answer carries: log 16). -/
def Obligations.ScanTreatsSlots : Prop :=
  ∀ (data : List Byte) (sc : Scan) (s : State), ScanAnswered data s → s.mpt.asked = [] → s.ssc.scan = some sc →
    s.mpt.runState = .running →
    let parsed := fun (head : List Byte) => readSlot (slotCount s) (slotPosted :: (head ++ data))
    let passed := fun (head : List Byte) =>
      (∃ r, parsed head = .good (.cardInspect r)) ∧ (2 ≤ s.clk.hold.length ∨ sc.cardPassed = true)
    let moved := fun (sc' : Scan) (slot : Nat) (t : State) =>
      t.mpt = busAfter t (freeBus s) [stateReadOf s slot]
      ∧ t = { s with mpt := t.mpt, ssc := { s.ssc with scan := some sc' } }
    let taken := fun (tag : Half) (p : Parsed) (t : State) =>
      t.mpt = busAfter t (freeBus s) [writeOf .scan (slotAddress s sc.index 0) [2]]
      ∧ t.ssc = { s.ssc with
          scan := some { sc with lastTaken := some sc.index, phase := .writeTaken tag p } }
      ∧ (s.pev.power ≠ .doze → t = { s with mpt := t.mpt, ssc := t.ssc })
      ∧ (s.pev.power = .doze →
        t.pev.power = .run ∧ t.pev.events = s.pev.events ||| evWoke
        ∧ t = { s with mpt := t.mpt, ssc := t.ssc, pev := (wakeToRun s).pev })
    (∀ k, sc.phase = .readState → byteAt data 0 ≠ 1 → NextFree (heldSlots s) sc k s →
      ∃ t, exec (.memoryResponse data) s = .next t ∧ moved (scanAt sc k s) (slotAhead sc k s) t)
    ∧ (sc.phase = .readState → byteAt data 0 = 1 →
      ∃ t, exec (.memoryResponse data) s = .next t
        ∧ t.mpt = busAfter t (freeBus s) [readOf .scan (slotAddress s sc.index 1) 3]
        ∧ t = { s with mpt := t.mpt, ssc := { s.ssc with scan := some { sc with phase := .readHead } } })
    ∧ (sc.phase = .readHead → (byteAt data 0).toNat = 0 ∨ 16 < (byteAt data 0).toNat →
      ∃ t, exec (.memoryResponse data) s = .next t ∧ taken (halfAt data 1) .badKind t)
    ∧ (sc.phase = .readHead → 1 ≤ (byteAt data 0).toNat → (byteAt data 0).toNat ≤ 16 →
      ∃ t, exec (.memoryResponse data) s = .next t
        ∧ t.mpt = busAfter t (freeBus s) [readOf .scan (slotAddress s sc.index 4) 20]
        ∧ t = { s with mpt := t.mpt, ssc := { s.ssc with scan := some { sc with phase := .readRequest data } } })
    ∧ (∀ head k, sc.phase = .readRequest head → passed head → NextFree (heldSlots s) sc k s →
      ∃ t, exec (.memoryResponse data) s = .next t
        ∧ moved { scanAt sc k s with leftPosted := sc.leftPosted ++ [sc.index], cardPassed := true } (slotAhead sc k s) t)
    ∧ (∀ head, sc.phase = .readRequest head → head.length = 3 → ¬ passed head →
      ∃ t, exec (.memoryResponse data) s = .next t ∧ taken (halfAt head 1) (parsed head) t)
    ∧ ∀ tag p, sc.phase = .writeTaken tag p →
      ∃ t, exec (.memoryResponse data) s = .next t ∧ t = { s with mpt := t.mpt, ssc := t.ssc }
        ∧ (p = .badKind →
          Completes sc tag { code := .refused, reason := some .badKind } none { s with mpt := freeBus s } t)
        ∧ (∀ k, p = .badField k → Completes sc tag (badFieldAnswer k s) none { s with mpt := freeBus s } t)
        ∧ ∀ r, p = .good r →
          t.mpt = busAfter t (freeBus s) []
          ∧ t.ssc = { s.ssc with scan := some { sc with phase := .handed ⟨tag, r⟩ } }

/-- R131, R127: the answer area is written first and DONE after it; at DONE the slot leaves the list of held slots, TASK
DONE is raised, and the scan moves on. R102, R131, R88: the answer of a card task is written and then DONE; at DONE TASK
DONE is raised and the task leaves the hold, and a second task becomes head with its session begun: PRESENCE where the
field is free, FIELD FAULT under a block. -/
def Obligations.CompletionAtDone : Prop :=
  (∀ (sc : Scan) (tag : Half) (s : State), ScanAnswered [] s → s.mpt.asked = [] → s.ssc.scan = some sc →
     (∀ change, sc.phase = .writeAnswer tag change →
       (∀ c, change = some c → endsScan c.target = true → s.mpt.runState ≠ .halting) →
       ∃ t, exec (.memoryResponse []) s = .next t
         ∧ t.mpt = busAfter t (freeBus s) [doneOf .scan s sc.index]
         ∧ t = { s with mpt := t.mpt, ssc := { s.ssc with scan := some { sc with phase := .writeDone change } } }
         ∧ heldList t = heldList s)
     ∧ ∀ k, s.mpt.runState = .running → sc.phase = .writeDone none → NextFree (heldSlots s) sc k s →
       ∃ t, exec (.memoryResponse []) s = .next t
         ∧ t.mpt = busAfter t (freeBus s) [stateReadOf s (slotAhead sc k s)]
         ∧ t = { s with
             mpt := t.mpt
             ssc := { s.ssc with scan := some (scanAt sc k s) }
             pev := { s.pev with events := s.pev.events ||| evTaskDone } }
         ∧ heldList s = heldSlots s ++ [sc.index] ∧ heldList t = heldSlots s)
  ∧ (∀ (h : HeldTask) (rest : List HeldTask) (e : SessionEnd) (o : Owed) (s : State), CardAnswered h.slot s →
       s.mpt.asked = [] → s.clk.hold = h :: rest → h.slot ∉ rest.map HeldTask.slot →
       (∀ sc t body, ¬ Serving sc t (.cancelWait h.slot body) s) →
       (h.session = .closing e o .writeAnswer →
         ∃ t, exec (.memoryResponse []) s = .next t
           ∧ t.mpt = busAfter t (freeBus s) [doneOf (.card h.slot) s h.slot]
           ∧ t = { s with
               mpt := t.mpt
               clk := { s.clk with hold := { h with session := .closing e o .writeDone } :: rest } })
       ∧ (h.session = .closing e o .writeDone → rest = [] →
         ∃ t, exec (.memoryResponse []) s = .next t
           ∧ t.mpt = busAfter t (freeBus s) []
           ∧ t = { s with
               mpt := t.mpt, clk := { s.clk with hold := [], identity := none }
               pev := { s.pev with events := s.pev.events ||| evTaskDone } })
       ∧ ∀ h2, h.session = .closing e o .writeDone → rest = [h2] → h2.session = .waitingField →
         (s.clk.holder = .none → fieldBlocked s = false → s.fmn.passive = none →
           ∃ t, exec (.memoryResponse []) s = .next t
             ∧ t.clk = { s.clk with
                 hold := [{ h2 with session := .presence }], holder := .session, deadline := some h2.req.timeout, tries := 1
                 interval := (if s.fmn.reducedDuty = true ∨ s.pev.power = .reduced then 200 else 50), identity := none }
             ∧ t.fmn = { s.fmn with finding := t.fmn.finding, detected := false }
             ∧ t = { s with
                 mpt := t.mpt, clk := t.clk, fmn := t.fmn, draws := s.draws + 1
                 pev := { s.pev with events := s.pev.events ||| evTaskDone } })
         ∧ (fieldBlocked s = true →
           ∃ t, exec (.memoryResponse []) s = .next t
             ∧ t.mpt = busAfter t (freeBus s)
                 [answerOf (.card h2.slot) s h2.slot h2.tag { code := .fieldFault }]
             ∧ t = { s with
                 mpt := t.mpt
                 clk := { s.clk with
                   hold := [{ h2 with session := .closing (.coded .fieldFault none) {} .writeAnswer }], identity := none }
                 pev := { s.pev with events := s.pev.events ||| evTaskDone } }))

/-- R88, R90, R106, R110: a CARD INSPECT in hand enters the hold and the scan goes on. As the first it becomes head: the field
is granted, PRESENCE begins with the deadline of its timeout and the first WAKE; under a block it completes FIELD FAULT;
behind a sense pulse, or as the second, it waits; one that a HALT has overtaken completes HALTED (log 14). Where no slot is left
the scan ends. -/
def Obligations.CardInspectEntersTheHold : Prop :=
  ∀ (sc : Scan) (tag : Half) (r : CardRequest) (k : Nat) (s : State), s.mpt.asked = [] →
    InHand sc ⟨tag, .cardInspect r⟩ s → sc.index ∉ heldSlots s →
    let entered := fun (x : Session) => s.clk.hold ++ [HeldTask.mk sc.index tag r x]
    (s.mpt.runState = .running → s.fmn.passive = none → NextFree (heldSlots s ++ [sc.index]) sc k s →
      ∃ t, exec .cardInspect s = .next t
        ∧ t.ssc = { s.ssc with scan := some (scanAt sc k s) }
        ∧ t = { s with mpt := t.mpt, ssc := t.ssc, clk := t.clk, fmn := t.fmn, draws := t.draws }
        ∧ (s.clk.hold = [] → s.clk.holder = .none → fieldBlocked s = false →
          t.clk = { s.clk with
              hold := entered .presence, holder := .session, deadline := some r.timeout, tries := 1
              interval := if s.fmn.reducedDuty = true ∨ s.pev.power = .reduced then 200 else 50 }
          ∧ t.fmn = { s.fmn with finding := t.fmn.finding, detected := false }
          ∧ t.mpt = busAfter t s.mpt [stateReadOf s (slotAhead sc k s)])
        ∧ (s.clk.hold = [] → fieldBlocked s = true →
          t.clk = { s.clk with hold := entered (.closing (.coded .fieldFault none) {} .writeAnswer) } ∧ t.fmn = s.fmn)
        ∧ (s.clk.hold ≠ [] ∨ (s.clk.holder ≠ .none ∧ fieldBlocked s = false) →
          t.clk = { s.clk with hold := entered .waitingField } ∧ t.fmn = s.fmn
          ∧ t.mpt = busAfter t s.mpt [stateReadOf s (slotAhead sc k s)]))
    ∧ (s.mpt.runState = .running → s.fmn.passive = none → NoneFree (heldSlots s ++ [sc.index]) sc s →
      fieldBlocked s = false →
      ∃ t, exec .cardInspect s = .next t ∧ (∃ x, t.clk.hold = entered x)
        ∧ ScanEnds sc { s with clk := t.clk, fmn := t.fmn, draws := t.draws } t)
    ∧ (s.mpt.runState = .halting →
      ∃ t, exec .cardInspect s = .next t
        ∧ t.mpt = busAfter t s.mpt [answerOf (.card sc.index) s sc.index tag { code := .halted }]
        ∧ t.clk = { s.clk with hold := entered (.closing (.coded .halted none) {} .writeAnswer) }
        ∧ t.ssc.scan = none
        ∧ t.rcx = s.rcx ∧ t.ven = s.ven ∧ t.dnl = s.dnl ∧ t.snt = s.snt ∧ t.fmn = s.fmn ∧ t.jnw = s.jnw)

/-! ### The tasks -/

/-- R25, R37, R71, R76, R58, R170: a task with a buffer has it read whole before anything changes: 40 bytes of a token, 4
for each stop, 16 for each entry, operation or note, 16 of a key. R70, R71, R76, R81: a deny task changes the Deny List
alone, at one event: when its buffer has been read, or at once where it reads none. What it changes is replaceList,
deltaList or pruneList, of which the statements below speak. One read a buffer is log 3; one past the top of the address space
is log 26. -/
def Obligations.TasksReadTheirBuffers : Prop :=
  (∀ (sc : Scan) (tag : Half) (req : Request) (s : State), s.mpt.asked = [] → InHand sc ⟨tag, req⟩ s →
     let reads := fun (c : Instr) (g : ServeStage) (address : Word) (length : Nat) =>
       ∃ t, exec c s = .next t ∧ ServesOn sc ⟨tag, req⟩ g (readOf .scan address length) s t
         ∧ t = { s with mpt := t.mpt, ssc := t.ssc }
     (∀ r w, req = .tokenInspect r → reads (.tokenInspect w) .tokenRead r.address 40)
     ∧ (∀ r, req = .route r → 2 ≤ r.count → r.count ≤ 48 → reads .route .routeRead r.address (4 * r.count))
     ∧ (∀ r, req = .denyReplace r → r.count ≠ 0 → reads .denyReplace .replaceRead r.address (16 * r.count))
     ∧ (∀ r, req = .denyDelta r → r.count ≠ 0 → reads .denyDelta .deltaRead r.address (16 * r.count))
     ∧ (∀ n a, req = .peerNotes n a → reads .peerNotes .notesRead a (16 * n))
     ∧ ∀ n b a, req = .keyLoad n b a → reads .keyLoad .keyRead a 16)
  ∧ (∀ (sc : Scan) (tag : Half) (s : State), s.mpt.asked = [] →
       let served := fun (c : Instr) (u : State) (x : DenyList × AnswerBody) =>
         ∃ t, exec c s = .next t ∧ Completes sc tag x.2 none u t ∧ t = { s with mpt := t.mpt, ssc := t.ssc, dnl := x.1 }
       (∀ r, InHand sc ⟨tag, .denyReplace r⟩ s → r.count = 0 → served .denyReplace s (replaceList r [] s.dnl))
       ∧ (∀ r, InHand sc ⟨tag, .denyDelta r⟩ s → r.count = 0 → served .denyDelta s (deltaList r [] s.dnl))
       ∧ (∀ day, InHand sc ⟨tag, .denyPrune day⟩ s → served .denyPrune s (pruneList day s.dnl))
       ∧ ∀ data, ScanAnswered data s →
         let u := { s with mpt := freeBus s }
         (∀ r, Serving sc ⟨tag, .denyReplace r⟩ .replaceRead s →
           served (.memoryResponse data) u (replaceList r data s.dnl))
         ∧ ∀ r, Serving sc ⟨tag, .denyDelta r⟩ .deltaRead s → served (.memoryResponse data) u (deltaList r data s.dnl))

/-- R25, R17, R20, R21: a token whose serial is 0 is refused; otherwise its decision point begins with its record as place 0 and
no stamp, and TOKEN_INSPECT commands carry it on; when the last block has answered, a final verdict is answered, after the
DENIED entry where one is claimed, and a ride claims its RIDE entry. That the blocks may answer at several commands is log
10. -/
def Obligations.TokenInspectDecides : Prop :=
  ∀ (sc : Scan) (tag : Half) (r : TokenRequest) (s : State), s.mpt.asked = [] →
    let task : Task := ⟨tag, .tokenInspect r⟩
    let stage := fun (g : ServeStage) => { s.ssc with scan := some { sc with phase := .serving task g } }
    (∀ data, ScanAnswered data s → Serving sc task .tokenRead s →
      ∃ t, exec (.memoryResponse data) s = .next t ∧ t = { s with mpt := t.mpt, ssc := t.ssc }
        ∧ (credAt data 0 = 0 →
          Completes sc tag { code := .refused, reason := some .badField } none { s with mpt := freeBus s } t)
        ∧ (credAt data 0 ≠ 0 →
          t.mpt = busAfter t (freeBus s) []
          ∧ t.ssc = stage (.tokenAsk
            { inspection :=
                { card := false, cred := credAt data 0, places := [readPlace (data.drop 8), none, none], stamp := .absent
                  seated := r.seated, ride := r.ride } })))
    ∧ ∀ w a, Serving sc task (.tokenAsk a) s →
      let x := askBlocks w a s
      ∃ t, exec (.tokenInspect w) s = .next t
        ∧ t.dnl = x.state.dnl ∧ t.rcx = s.rcx ∧ t.ven = s.ven ∧ t.clk = s.clk ∧ t.pev = s.pev
        ∧ (x.asking.replies = none →
          t.ssc = stage (.tokenAsk x.asking) ∧ t.snt = x.state.snt ∧ t.jnw.queue = x.state.jnw.queue ++ x.claims)
        ∧ ∀ y, x.asking.replies = some y →
          let q := a.inspection
          let z := conclude x.asking y x.claims x.state
          t.snt = z.1.snt
          ∧ (∀ d, z.2.ruling = .final d → y.denied.hit = none →
            AsksFor (z.1.mpt.asked ++ [answerOf .scan s sc.index tag (inspectionAnswer d)]) s.mpt t
            ∧ t.ssc = { s.ssc with scan := some { sc with phase := .writeAnswer tag none } } ∧ t.jnw = z.1.jnw)
          ∧ (∀ d, z.2.ruling = .final d → y.denied.hit.isSome = true →
            t.ssc = stage (.tokenDenied d) ∧ t.jnw = z.1.jnw)
          ∧ ∀ d place rides, z.2.ruling = .ride d place rides →
            let p : RidePlan := ⟨q.cred, z.2.ctx, place, rides, none⟩
            t.ssc = stage (.tokenRide d p)
            ∧ t.jnw.queue = z.1.jnw.queue ++ [.entry ⟨.ride, p.cred, p.ctx, some 0, some (rides - 1), 0⟩ .token]

/-! ### The running context -/

/-- R37, R38, R39, R40: a ROUTE is refused by the first check that fails, with the context as it stood; a new trip that passes
empties the Seen Table, keeping its evictions, and is then installed at an event of its own; a CONTINUE that passes is
installed at the mapped position and touches nothing else. A card's decision point that has consulted the table before the
emptying is marked with the eviction count that its update, made with the consult, would have left (R22, R52, R57; log 10). -/
def Obligations.RouteIsCheckedAndInstalled : Prop :=
  ∀ (sc : Scan) (tag : Half) (r : RouteRequest) (s : State), s.mpt.asked = [] →
    let task : Task := ⟨tag, .route r⟩
    (InHand sc task s → r.count < 2 ∨ 48 < r.count →
      ∃ t, exec .route s = .next t ∧ Completes sc tag (routeRefused .length s.rcx) none s t
        ∧ t = { s with mpt := t.mpt, ssc := t.ssc })
    ∧ (∀ data, ScanAnswered data s → Serving sc task .routeRead s →
      let u := { s with mpt := freeBus s }
      let stops := readStops r.count data
      let badCode := ∃ x ∈ stops, x.code = 0 ∨ x.code = 65535 ∨ 31 < x.zone.toNat
      let distinct := (stops.map Stop.code).Nodup
      let marked := fun (x : HeldTask) =>
        match x.session with
        | .asking a =>
          if a.seen.isSome ∧ a.emptied = none then
            let update := noteInspection a.inspection.cred .valid (contextAnswer s.rcx) s.snt
            { x with session := .asking { a with emptied := some update.evictions } }
          else x
        | _ => x
      let refused := fun (why : Reason) =>
        ∃ t, exec (.memoryResponse data) s = .next t ∧ Completes sc tag (routeRefused why s.rcx) none u t
          ∧ t = { s with mpt := t.mpt, ssc := t.ssc }
      let continued := fun (before : Nat) (p : Position) =>
        ∃ t, exec (.memoryResponse data) s = .next t
          ∧ t.rcx = { s.rcx with route := stops, position := some p, day := r.day, minute := r.minute, stale := false }
          ∧ Completes sc tag (routeAnswer .continueTrip (some before) t.rcx) none u t
          ∧ t = { s with mpt := t.mpt, ssc := t.ssc, rcx := t.rcx }
      (badCode → refused .badCode)
      ∧ (¬ badCode → ¬ distinct → refused .duplicateStop)
      ∧ (¬ badCode → distinct → r.mode = .newTrip → r.start ∉ stops.map Stop.code → refused .stopNotOnRoute)
      ∧ (¬ badCode → distinct → r.mode = .newTrip → r.start ∈ stops.map Stop.code →
        ∃ t, exec (.memoryResponse data) s = .next t
          ∧ t.mpt = busAfter t (freeBus s) []
          ∧ t = { s with
              mpt := t.mpt, ssc := { s.ssc with scan := some { sc with phase := .serving task (.routeInstall stops) } }
              snt := { s.snt with records := [], counter := .next 1 }
              clk := { s.clk with hold := s.clk.hold.map marked } })
      ∧ (¬ badCode → distinct → r.mode = .continueTrip →
        (s.rcx.state = .none ∨ r.trip ≠ s.rcx.trip → refused .notSameTrip)
        ∧ ∀ p, s.rcx.state = .active → s.rcx.position = some p → r.trip = s.rcx.trip →
          (currentStop s.rcx ∉ stops.map Stop.code → refused .stopNotOnRoute)
          ∧ ∀ j x, stops[j]? = some x → x.code = currentStop s.rcx →
            (∀ k, p = .atStop k → continued k (.atStop j))
            ∧ (∀ k, p = .between k → j + 1 < stops.length → continued k (.between j))
            ∧ (∀ k, p = .between k → j + 1 = stops.length → refused .stopNotOnRoute)))
    ∧ ∀ stops j x, Serving sc task (.routeInstall stops) s → (stops.map Stop.code).Nodup → stops[j]? = some x →
      x.code = r.start → x.code ≠ 0 →
      ∃ t, exec .route s = .next t
        ∧ t.rcx = { s.rcx with
            state := .active, route := stops, position := some (.atStop j), trip := r.trip, day := r.day
            minute := r.minute, stale := false }
        ∧ Completes sc tag (routeAnswer r.mode none t.rcx) none s t
        ∧ t = { s with mpt := t.mpt, ssc := t.ssc, rcx := t.rcx }

/-- R43 whole: a DEPART is accepted in ACTIVE, AT k, naming stop k, which is not the last; the position becomes BETWEEN k
and the stop of record stays; any other DEPART is refused POSITION SEQUENCE with the position unchanged. Nothing but the
position and a minute the task carries changes, beside the task's completion. R44 whole, on a context that is well formed:
an ARRIVE is accepted in ACTIVE where its stop is on the route at an index above that of the position, AT or BETWEEN
alike; the position becomes AT that index; any other ARRIVE is refused POSITION SEQUENCE with the position unchanged. R45: a minute
carried is applied and clears the stale flag, and the answer carries the position after the event; that a position of none
sets no presence mark is log 15, and how yes and no are coded there is log 37. -/
def Obligations.PositionMovesTheTrain : Prop :=
  (∀ (sc : Scan) (tag code : Half) (m : Option Half) (s : State), s.mpt.asked = [] →
     InHand sc ⟨tag, .position ⟨.depart, code, m⟩⟩ s →
     let accepted := fun k =>
       s.rcx.state = .active ∧ s.rcx.position = some (.atStop k) ∧ (s.rcx.route[k]?).map Stop.code = some code
       ∧ k + 1 < s.rcx.route.length
     ∃ t, exec .position s = .next t
       ∧ t.rcx = { s.rcx with
           position := t.rcx.position, minute := m.getD s.rcx.minute, stale := s.rcx.stale && m.isNone }
       ∧ t = { s with mpt := t.mpt, ssc := t.ssc, rcx := t.rcx }
       ∧ (∀ k, accepted k →
         t.rcx.position = some (.between k) ∧ currentStop t.rcx = currentStop s.rcx
         ∧ Completes sc tag (positionAnswer .ok none m.isSome t.rcx) none s t)
       ∧ ((∀ k, ¬ accepted k) →
         t.rcx.position = s.rcx.position
         ∧ Completes sc tag (positionAnswer .refused (some .positionSequence) m.isSome t.rcx) none s t))
  ∧ (∀ (sc : Scan) (tag code : Half) (m : Option Half) (s : State), s.mpt.asked = [] → contextOk s.rcx = true →
       InHand sc ⟨tag, .position ⟨.arrive, code, m⟩⟩ s →
       let accepted := fun j =>
         s.rcx.state = .active ∧ (s.rcx.route[j]?).map Stop.code = some code
         ∧ ∃ k, (s.rcx.position = some (.atStop k) ∨ s.rcx.position = some (.between k)) ∧ k < j
       ∃ t, exec .position s = .next t
         ∧ t.rcx = { s.rcx with
             position := t.rcx.position, minute := m.getD s.rcx.minute, stale := s.rcx.stale && m.isNone }
         ∧ t = { s with mpt := t.mpt, ssc := t.ssc, rcx := t.rcx }
         ∧ (∀ j, accepted j →
           t.rcx.position = some (.atStop j)
           ∧ Completes sc tag (positionAnswer .ok none m.isSome t.rcx) none s t)
         ∧ ((∀ j, ¬ accepted j) →
           t.rcx.position = s.rcx.position
           ∧ Completes sc tag (positionAnswer .refused (some .positionSequence) m.isSome t.rcx) none s t))

/-! ### The deny list -/

/-- R65, R72, R73, R74, R75: a chunk is refused NOT LOADING without a load; a FIRST gives up the list, and an open staging
area, and its chunk is then treated as a chunk of the load it begins; the first failing check of the number, the entries,
their order and the capacity fails the load; a good chunk is added at the end, each entry's cell rising; a LAST makes the
list READY under the target generation with every cell recounted. -/
def Obligations.ReplaceLoadsTheList : Prop :=
  ∀ (r : ReplaceRequest) (data : List Byte) (d : DenyList),
    let failed : DenyList :=
      { d with table := [], filter := Vector.replicate 4096 0, load := none, state := .invalid, generation := 0 }
    let fails := fun why => replaceList r data d = (failed, replaceAnswer (some why) 0 none failed)
    (readEntries r.count data = none ↔ ∃ i < r.count,
      let e := data.drop (16 * i)
      credAt e 0 = 0 ∨ byteAt e 8 = 0 ∨ 4 < (byteAt e 8).toNat ∨ byteAt e 9 = 0 ∨ 2 < (byteAt e 9).toNat)
    ∧ (r.first = false → d.state ≠ .loading → replaceList r data d = (d, replaceAnswer (some .notLoading) 0 none d))
    ∧ (r.first = true →
      let begun : DenyList :=
        { d with
          discards := if d.staging.isSome then saturate d.discards else d.discards
          staging := none, table := [], filter := Vector.replicate 4096 0, state := .loading
          load := some ⟨0, r.target, none⟩ }
      (replaceList r data d).1 = (replaceList { r with first := false } data begun).1
      ∧ ∃ reason applied, (replaceList { r with first := false } data begun).2 =
          replaceAnswer reason applied none (replaceList r data d).1
        ∧ (replaceList r data d).2 =
          replaceAnswer reason applied (d.staging.map fun st => st.ops.length) (replaceList r data d).1)
    ∧ ∀ l, r.first = false → d.state = .loading → d.load = some l →
      (r.chunk ≠ l.next ∨ r.target ≠ l.target → fails .sequence)
      ∧ (r.chunk = l.next → r.target = l.target →
        (readEntries r.count data = none → fails .badEntry)
        ∧ ∀ es, readEntries r.count data = some es →
          let inOrder := (es.map DenyEntry.cred).Pairwise (fun a b => a < b)
            ∧ ∀ h, l.highest = some h → ∀ e, es.head? = some e → h < e.cred
          (¬ inOrder → fails .order)
          ∧ (inOrder → 16384 < d.table.length + es.length → fails .capacity)
          ∧ (inOrder → d.table.length + es.length ≤ 16384 →
            let d' := (replaceList r data d).1
            (replaceList r data d).2 = replaceAnswer none es.length none d'
            ∧ (r.last = false →
              d' = { d with
                table := d.table ++ es, filter := d'.filter
                load := some ⟨l.next + 1, l.target, (es.getLast?.map DenyEntry.cred).or l.highest⟩ }
              ∧ ∀ k : Fin 4096, d'.filter[k].toNat = min 15 (d.filter[k].toNat + inCell k es))
            ∧ (r.last = true →
              d' = { d with
                table := d.table ++ es, filter := d'.filter, generation := r.target, load := none, state := .ready }
              ∧ ∀ k : Fin 4096, d'.filter[k].toNat = min 15 (inCell k (d.table ++ es)))))

/-- R77, R78, R79, R80: a DENY DELTA is refused NOT READY outside READY; a FIRST gives up an open staging area, is refused for
its generation or number, and otherwise has its chunk staged onto an empty area; a chunk that fails a check discards the
staging area, counted, and never touches the list; a LAST applies every staged operation in order, raises the generation by
one and closes the area, or is refused for capacity by the count at the end. -/
def Obligations.DeltaIsStagedAndCommitted : Prop :=
  ∀ (r : DeltaRequest) (data : List Byte) (d : DenyList),
    let refused := fun why (x : DenyList) => deltaList r data d = (x, deltaAnswer (some why) none x)
    let gone : DenyList := { d with staging := none, discards := saturate d.discards }
    (d.state ≠ .ready → refused .notReady d)
    ∧ (d.state = .ready → r.first = true →
      let closed := if d.staging.isSome then gone else d
      (r.base ≠ d.generation → refused .generation closed)
      ∧ (r.base = d.generation → r.chunk ≠ 0 → refused .sequence closed)
      ∧ (r.base = d.generation → r.chunk = 0 →
        deltaList r data d = deltaList { r with first := false } data { closed with staging := some ⟨[], 0⟩ }))
    ∧ (d.state = .ready → r.first = false →
      (d.staging = none → refused .sequence d)
      ∧ ∀ st, d.staging = some st →
        (r.chunk ≠ st.next → refused .sequence gone)
        ∧ (r.chunk = st.next → readOps r.count data = none → refused .badEntry gone)
        ∧ ∀ ops, r.chunk = st.next → readOps r.count data = some ops →
          (1024 < st.ops.length + ops.length → refused .stagingFull gone)
          ∧ (st.ops.length + ops.length ≤ 1024 →
            let staged : DenyList := { d with staging := some ⟨st.ops ++ ops, st.next + 1⟩ }
            let y := applyOps (st.ops ++ ops) staged
            (r.last = false → deltaList r data d = (staged, deltaAnswer none none staged))
            ∧ (r.last = true → 16384 < y.1.table.length → refused .capacity gone)
            ∧ (r.last = true → y.1.table.length ≤ 16384 →
              let done : DenyList :=
                { d with table := y.1.table, filter := y.1.filter, generation := d.generation + 1, staging := none }
              deltaList r data d = (done, deltaAnswer none (some y.2) done))))

/-- R68, R79: what each operation of a commit does: an ADD of an absent ID puts its entry at its place in ascending order, its
cell rising to at most 15; an ADD of a present ID replaces that entry and no cell; a REMOVE of a present ID takes it away, its
cell falling unless it stands at 15; a REMOVE of an absent ID changes nothing; each is counted; and the operations of a delta
are applied one after another. -/
def Obligations.DeltaOperations : Prop :=
  ∀ (d : DenyList) (n : DeltaCounts), denyRule d →
    let ids := d.table.map DenyEntry.cred
    (∀ e : DenyEntry,
      let x := applyOp (.add e) (d, n)
      (x.1.table.map DenyEntry.cred).Pairwise (fun a b => a < b)
      ∧ (∀ y, y ∈ x.1.table ↔ y = e ∨ (y ∈ d.table ∧ y.cred ≠ e.cred))
      ∧ x.1 = { d with table := x.1.table, filter := x.1.filter }
      ∧ (e.cred ∉ ids → x.2 = { n with added := n.added + 1 }
        ∧ x.1.table.length = d.table.length + 1
        ∧ ∀ k : Fin 4096, x.1.filter[k] = if k = cellOf e.cred ∧ d.filter[k] ≠ 15 then d.filter[k] + 1 else d.filter[k])
      ∧ (e.cred ∈ ids → x.2 = { n with replaced := n.replaced + 1 } ∧ x.1.filter = d.filter
        ∧ x.1.table.length = d.table.length))
    ∧ (∀ c : Cred,
      let x := applyOp (.remove c) (d, n)
      (c ∉ ids → x = (d, { n with noOps := n.noOps + 1 }))
      ∧ (c ∈ ids →
        x.2 = { n with removed := n.removed + 1 }
        ∧ x.1 = { d with table := d.table.filter (fun y => y.cred != c), filter := x.1.filter }
        ∧ ∀ k : Fin 4096, x.1.filter[k] = if k = cellOf c ∧ d.filter[k] ≠ 15 then d.filter[k] - 1 else d.filter[k]))
    ∧ ∀ ops op, applyOps [] d = (d, {}) ∧ applyOps (ops ++ [op]) d = applyOp op (applyOps ops d)

/-- R67: the cell of a credential is the upper 12 bits of the CRC-16 of its eight bytes. R68, R69, R81, on a list in the order
that every step keeps: a lookup finds exactly the entry of its ID, in READY and
LOADING, and nothing in INVALID; a search after a nonzero cell that finds nothing counts one false hit, and a lookup changes
nothing else; a prune in READY removes the entries that expire before its day and recounts every cell, and is refused NOT
READY otherwise. -/
def Obligations.LookupAndPrune : Prop :=
  (∀ c : Cred, (cellOf c).val = (crc16 (credBytes c)).toNat / 16)
  ∧ ∀ d : DenyList, denyRule d →
    (∀ c e, lookup c d = some e ↔ d.state ≠ .invalid ∧ e ∈ d.table ∧ e.cred = c)
    ∧ (∀ c, afterLookup c d =
      { d with
        falseHits :=
          if d.state ≠ .invalid ∧ d.filter[cellOf c] ≠ 0 ∧ c ∉ d.table.map DenyEntry.cred then saturate d.falseHits
          else d.falseHits })
    ∧ (∀ day, d.state ≠ .ready → pruneList day d = (d, { code := .refused, reason := some .notReady }))
    ∧ ∀ day, d.state = .ready →
      let kept := d.table.filter fun e => decide (day.toNat ≤ e.expiry.toNat)
      ∃ f, pruneList day d =
          ({ d with table := kept, filter := f },
            pruneAnswer (d.table.length - kept.length) { d with table := kept, filter := f })
        ∧ ∀ k : Fin 4096, f[k].toNat = min 15 (inCell k kept)

/-! ### The seen table -/

/-- R49, R50: an insertion takes the counter's number, and the counter rises, to EXHAUSTED after its last; at EXHAUSTED no
insertion is made; into a table of 2,048 records it first removes the one of lowest number among those not pinned, and the
eviction count rises. R52: the update of every outcome but a ride inserts a LOCAL record with the verdict, the stop of
record and the minute, or gives the record the stop and one inspection more, up to 255, and changes nothing else of it. -/
def Obligations.SeenTableTakesInspections : Prop :=
  (∀ (r : SeenRecord) (t : SeenTable), seenRule t →
     (t.counter = .exhausted → insertSeen r t = t)
     ∧ ∀ n, t.counter = .next n →
       let new : SeenRecord := { r with number := n }
       let counter : InsertionCounter := if n = 4294967295 then .exhausted else .next (n + 1)
       (t.records.length < 2048 →
         insertSeen r t = { t with records := t.records ++ [new], counter := counter })
       ∧ (2048 ≤ t.records.length → (∃ y ∈ t.records, y.stamp ≠ .uncertain) →
         ∃ x ∈ t.records, x.stamp ≠ .uncertain ∧ (∀ y ∈ t.records, y.stamp ≠ .uncertain → x.number ≤ y.number)
           ∧ insertSeen r t =
             { t with
               records := t.records.erase x ++ [new], counter := counter
               evictions := if t.evictions = 4294967295 then t.evictions else t.evictions + 1 }))
  ∧ (∀ (cred : Cred) (v : Verdict) (ctx : ContextAnswer) (t : SeenTable),
       (findSeen cred t = none →
         noteInspection cred v ctx t = insertSeen
           { cred := cred, number := 0, source := .localPart, firstVerdict := some v, firstStop := ctx.stop
             firstMinute := ctx.minute, lastStop := ctx.stop, count := 1, ride := .none, peerConductor := none
             stamp := .none, pendingSequence := none, place := none } t)
       ∧ ∀ r, findSeen cred t = some r →
         noteInspection cred v ctx t =
           replaceSeen { r with lastStop := ctx.stop, count := if r.count = 255 then r.count else r.count + 1 } t
         ∧ r ∈ t.records ∧ r.cred = cred)

/-- R53, R54: an update that arrives gives its record, inserted where there is none, the fields of the outcome row by row of the
table, a local ride making PEER into BOTH with a CONFLICT entry claimed; no other block but the Journal Writer is touched.
That updates arrive in the order sent, one at a SEEN_UPDATE and all of them before a question to the table, is log 11, that
SEEN_UPDATE with none in transit does nothing is log 5, that it does nothing either while the table is engaged in a decision
point is log 10, and that the CONFLICT entry carries the record's place after the update is log 38. -/
def Obligations.RideUpdatesArrive : Prop :=
  (∀ s : State, portRule s = true →
    (s.snt.updates = [] ∨ seenEngaged s = true → exec .seenUpdate s = .next s)
    ∧ ∀ u rest, s.snt.updates = u :: rest → seenEngaged s = false →
      ∃ t, exec .seenUpdate s = .next t
        ∧ t.snt = { (applyUpdate u s.snt).1 with updates := rest }
        ∧ t.jnw = { s.jnw with queue := s.jnw.queue ++ (applyUpdate u s.snt).2, service := t.jnw.service }
        ∧ t = { s with mpt := t.mpt, snt := t.snt, jnw := t.jnw })
  ∧ (∀ s : State,
    (s.snt.updates = [] → deliverUpdates s = s)
    ∧ ∀ u rest, s.snt.updates = u :: rest →
      deliverUpdate s = arrive (applyUpdate u s.snt).2 { s with snt := { (applyUpdate u s.snt).1 with updates := rest } }
      ∧ deliverUpdates s = deliverUpdates (deliverUpdate s))
  ∧ ∀ (u : SeenUpdate) (t : SeenTable),
    (∀ r, findSeen u.cred t = some r →
      let met : SeenRecord :=
        { r with lastStop := u.ctx.stop, count := if r.count = 255 then r.count else r.count + 1 }
      let ride : RideState := if r.ride = .none ∨ r.ride = .localRide then .localRide else .both
      let conflict := fun (place : Nat) => if r.ride = .peer then
        [JournalJob.entry ⟨.conflict, r.cred, u.ctx, some place, none, r.peerConductor.getD 0⟩ .nobody] else []
      (∀ p, u.outcome = .landed p →
        applyUpdate u t =
          (replaceSeen { met with ride := ride, stamp := .done, place := some p, pendingSequence := none } t, conflict p))
      ∧ (u.outcome = .token →
        applyUpdate u t = (replaceSeen { met with ride := ride, place := some 0 } t, conflict 0))
      ∧ (∀ p q, u.outcome = .uncertain p q →
        applyUpdate u t =
          (replaceSeen { met with stamp := .uncertain, place := some p, pendingSequence := some q } t, []))
      ∧ (∀ p, u.outcome = .stampFailed p → applyUpdate u t = (replaceSeen { met with place := some p } t, []))
      ∧ (u.outcome = .refused → applyUpdate u t = (replaceSeen met t, [])))
    ∧ (findSeen u.cred t = none →
      let fresh := fun (v : Verdict) (ride : RideState) (stamp : StampState) (q : Option Half) (p : Option Nat) =>
        applyUpdate u t =
          (insertSeen
            { cred := u.cred, number := 0, source := .localPart, firstVerdict := some v, firstStop := u.ctx.stop
              firstMinute := u.ctx.minute, lastStop := u.ctx.stop, count := 1, ride := ride, peerConductor := none
              stamp := stamp, pendingSequence := q, place := p } t, [])
      (∀ p, u.outcome = .landed p → fresh .rideTaken .localRide .done none (some p))
      ∧ (u.outcome = .token → fresh .rideTaken .localRide .none none (some 0))
      ∧ (∀ p q, u.outcome = .uncertain p q → fresh .stampUncertain .none .uncertain (some q) (some p))
      ∧ (∀ p, u.outcome = .stampFailed p → fresh .rideNotTaken .none .none none (some p))
      ∧ (u.outcome = .refused → fresh .rideNotTaken .none .none none none))

/-- R58, R59, R60, R61: a PEER NOTES with a note out of range is refused with no note merged; otherwise every note is merged in
buffer order, by the first case of the table that fits it, and the task completes with its counts, or waits for the CONFLICT
entries it has claimed. The merge is made when the notes have been read, or, where the table is engaged in a decision point,
at a PEER_NOTES that finds it free (log 10). -/
def Obligations.PeerNotesAreMerged : Prop :=
  (∀ (n : Nat) (address : Word) (sc : Scan) (tag : Half) (s : State), s.mpt.asked = [] →
    let task : Task := ⟨tag, .peerNotes n address⟩
    let merged := fun (notes : List PeerNote) (u t : State) =>
      let m := mergeNotes s.rcx notes s.snt
      (m.claims = [] →
        Completes sc tag (notesAnswer m.counts) none u t ∧ t = { s with mpt := t.mpt, ssc := t.ssc, snt := m.table })
      ∧ (m.claims ≠ [] →
        t.ssc = { s.ssc with
            scan := some { sc with phase := .serving task (.notesClaims m.counts m.claims.length) } }
        ∧ t.jnw = { s.jnw with queue := s.jnw.queue ++ m.claims, service := t.jnw.service }
        ∧ t = { s with mpt := t.mpt, ssc := t.ssc, snt := m.table, jnw := t.jnw })
    let waits := fun (notes : List PeerNote) (u t : State) =>
      t.mpt = busAfter t u.mpt []
      ∧ t = { s with
          mpt := t.mpt, ssc := { s.ssc with scan := some { sc with phase := .serving task (.notesWait notes) } } }
    (∀ data, ScanAnswered data s → Serving sc task .notesRead s →
      let u := { s with mpt := freeBus s }
      (readNotes n data = none ↔ ∃ i < n,
        let b := data.drop (16 * i)
        credAt b 0 = 0 ∨ halfAt b 8 = 65535 ∨ 2879 < (halfAt b 10).toNat ∨ 1 < (byteAt b 12).toNat ∨ halfAt b 14 = 0)
      ∧ ∃ t, exec (.memoryResponse data) s = .next t
        ∧ (readNotes n data = none →
          Completes sc tag { code := .refused, reason := some .badField } none u t
          ∧ t = { s with mpt := t.mpt, ssc := t.ssc })
        ∧ ∀ notes, readNotes n data = some notes →
          (seenEngaged s = false → merged notes u t) ∧ (seenEngaged s = true → waits notes u t))
    ∧ ∀ notes, Serving sc task (.notesWait notes) s →
      ∃ t, exec .peerNotes s = .next t
        ∧ (seenEngaged s = false → merged notes s t) ∧ (seenEngaged s = true → waits notes s t))
  ∧ (∀ (c : RunningContext) (t : SeenTable),
    mergeNotes c [] t = { table := t }
    ∧ ∀ notes n, mergeNotes c (notes ++ [n]) t = mergeNote c n (mergeNotes c notes t))
  ∧ ∀ (c : RunningContext) (n : PeerNote) (m : Merge),
    let counted := fun (x : Merge) (f : NoteCounts) (table : SeenTable) (claims : List JournalJob) =>
      x.counts = f ∧ x.table = table ∧ x.claims = m.claims ++ claims
    (n.conductor = c.conductor →
      counted (mergeNote c n m) { m.counts with ignored := m.counts.ignored + 1 } m.table [])
    ∧ (n.conductor ≠ c.conductor → findSeen n.cred m.table = none →
      (m.table.counter = .exhausted →
        counted (mergeNote c n m) { m.counts with ignored := m.counts.ignored + 1 } m.table [])
      ∧ (m.table.counter ≠ .exhausted →
        counted (mergeNote c n m) { m.counts with inserted := m.counts.inserted + 1 }
          (insertSeen
            { cred := n.cred, number := 0, source := .peer, firstVerdict := none, firstStop := n.stop
              firstMinute := n.minute, lastStop := n.stop, count := 1, ride := if n.ride then .peer else .none
              peerConductor := if n.ride then some n.conductor else none, stamp := .none, pendingSequence := none
              place := none } m.table) []))
    ∧ ∀ r, n.conductor ≠ c.conductor → findSeen n.cred m.table = some r →
      let met : SeenRecord := { r with lastStop := n.stop, count := if r.count = 255 then r.count else r.count + 1 }
      (n.ride = true → r.ride = .localRide →
        counted (mergeNote c n m) { m.counts with conflicts := m.counts.conflicts + 1 }
          (replaceSeen { met with ride := .both, peerConductor := some (r.peerConductor.getD n.conductor) } m.table)
          [.entry ⟨.conflict, n.cred, ⟨c.trip, c.day, n.minute, n.stop, c.conductor⟩, r.place, none, n.conductor⟩ .note])
      ∧ (n.ride = true → r.ride = .none →
        counted (mergeNote c n m) { m.counts with merged := m.counts.merged + 1 }
          (replaceSeen { met with ride := .peer, peerConductor := some (r.peerConductor.getD n.conductor) } m.table) [])
      ∧ (n.ride = false ∨ r.ride = .peer ∨ r.ride = .both →
        counted (mergeNote c n m) { m.counts with merged := m.counts.merged + 1 } (replaceSeen met m.table) [])

/-- R62, R63: a SEEN EXPORT writes, from the place of the buffer's address, the LOCAL records above its after-number in the
order of the table, which is rising insertion number wherever the table is in order (as O56 says every step keeps it), up to
its capacity, one after another, and then answers with the count, the highest number written, whether more remain, and the
counter; with none to write it answers at once. That a place past the top of the address space wraps is log 26, and that the
task stays in hand while the table is engaged in a decision point is log 10. -/
def Obligations.SeenExportWritesLocalRecords : Prop :=
  ∀ (after : Word) (capacity : Nat) (address : Word) (sc : Scan) (tag : Half) (s : State), s.mpt.asked = [] →
    let task : Task := ⟨tag, .seenExport after capacity address⟩
    let all := s.snt.records.filter fun r => r.source == .localPart && decide (after < r.number)
    let written := all.take capacity
    let body := exportAnswer written.length ((written.getLast?.map SeenRecord.number).getD 0)
      (decide (capacity < all.length)) s.snt.counter
    (InHand sc task s → seenEngaged s = true → exec .seenExport s = .next s)
    ∧ (InHand sc task s → seenEngaged s = false →
      ∃ t, exec .seenExport s = .next t ∧ t = { s with mpt := t.mpt, ssc := t.ssc }
        ∧ (written = [] → Completes sc tag body none s t)
        ∧ ∀ r rs, written = r :: rs →
          ServesOn sc task (.exportWrite rs 1 body) (writeOf .scan address (exportBytes r)) s t)
    ∧ ∀ rest place b, ScanAnswered [] s → Serving sc task (.exportWrite rest place b) s →
      ∃ t, exec (.memoryResponse []) s = .next t ∧ t = { s with mpt := t.mpt, ssc := t.ssc }
        ∧ (rest = [] → Completes sc tag b none { s with mpt := freeBus s } t)
        ∧ ∀ r rs, rest = r :: rs →
          ServesOn sc task (.exportWrite rs (place + 1) b)
            (writeOf .scan (address + BitVec.ofNat 32 (32 * place)) (exportBytes r)) { s with mpt := freeBus s } t

/-! ### Keys, status and identity -/

/-- R170, R171, R172, R174: a key read whole is taken by its slot, or refused SLOT LOADED where the slot is loaded and replace
is no; KEY CLEAR empties its slot; each block gives its part of the STATUS record at the STATUS command that names it, and when
all have, the record is written; IDENTIFY writes its record; both then answer OK. Neither changes any state. That a STATUS
command is the answer of the blocks it names, but the Seen Table's not while that is engaged in a decision point, is log 10, and
that the Field Monitor's part is a measurement, which sets the die temperature last measured, is log 7. -/
def Obligations.KeysStatusAndIdentity : Prop :=
  ∀ (sc : Scan) (tag : Half) (s : State), s.mpt.asked = [] →
    (∀ data slot replace address, ScanAnswered data s → Serving sc ⟨tag, .keyLoad slot replace address⟩ .keyRead s →
      let u := { s with mpt := freeBus s }
      slot < 8 →
      ∃ t, exec (.memoryResponse data) s = .next t
        ∧ (keyLoaded slot s.ven = true → replace = false →
          Completes sc tag (keyLoadAnswer (some .slotLoaded) s.ven) none u t
          ∧ t = { s with mpt := t.mpt, ssc := t.ssc })
        ∧ (keyLoaded slot s.ven = false ∨ replace = true →
          (∀ k : Fin 8, t.ven.keys[k] = if k.val = slot then some data else s.ven.keys[k])
          ∧ Completes sc tag (keyLoadAnswer none t.ven) none u t
          ∧ t = { s with mpt := t.mpt, ssc := t.ssc, ven := t.ven }))
    ∧ (∀ slot, InHand sc ⟨tag, .keyClear slot⟩ s → slot < 8 →
      ∃ t, exec .keyClear s = .next t
        ∧ (∀ k : Fin 8, t.ven.keys[k] = if k.val = slot then none else s.ven.keys[k])
        ∧ Completes sc tag (keyClearAnswer (keyLoaded slot s.ven) t.ven) none s t
        ∧ t = { s with mpt := t.mpt, ssc := t.ssc, ven := t.ven })
    ∧ (∀ address d limit (asks : List StatusBlock),
      let task : Task := ⟨tag, .status address⟩
      let asked := fun (left : List StatusBlock) (r : StatusRecord) =>
        let due := fun (k : StatusBlock) => asks.contains k && !(k == .seenTable && seenEngaged s)
        let now := left.filter fun k => due k
        let rest := left.filter fun k => !due k
        let u :=
          if now.contains .fieldMonitor ∧ tempQuiet d s.fmn = true then { s with fmn := { s.fmn with dieTemp := d } } else s
        let r' := now.foldl (fun r k => statusPart limit u k r) r
        ∃ t, exec (.status d limit asks) s = .next t
          ∧ t = { u with mpt := t.mpt, ssc := t.ssc }
          ∧ (rest = [] → ServesOn sc task .recordWrite (writeOf .scan address (statusBytes r')) s t)
          ∧ (rest ≠ [] →
            t.mpt = busAfter t s.mpt []
            ∧ t.ssc = { s.ssc with scan := some { sc with phase := .serving task (.statusAsk rest r') } })
      (InHand sc task s → asked StatusBlock.all {}) ∧ ∀ left r, Serving sc task (.statusAsk left r) s → asked left r)
    ∧ (∀ address, InHand sc ⟨tag, .identify address⟩ s →
      ∃ t, exec .identify s = .next t
        ∧ ServesOn sc ⟨tag, .identify address⟩ .recordWrite (writeOf .scan address identityBytes) s t
        ∧ t = { s with mpt := t.mpt, ssc := t.ssc })
    ∧ ∀ req, (∃ a, req = .status a ∨ req = .identify a) → ScanAnswered [] s → Serving sc ⟨tag, req⟩ .recordWrite s →
      ∃ t, exec (.memoryResponse []) s = .next t
        ∧ Completes sc tag { code := .ok } none { s with mpt := freeBus s } t
        ∧ t = { s with mpt := t.mpt, ssc := t.ssc }

/-- R173, R174, 11.6: the status record is 64 bytes and the identity record 32, each with its fields at the offsets of Record
Layouts and its reserved bytes 0; the blocks' parts of the status record may come from different states and in any order. R148,
11.6: a journal entry. R62, 11.6: an export record. R26 to R29, 11.3: the answer of an inspection, its fields, presence marks
and flags. R3, R6, 11.4: what is read of a fare record, of the record places of a card, and of a stamp, and the standing of
the stamp. That a stale clock is 1 in the status record is log 37. -/
def Obligations.StatusAndIdentityRecordsHoldTheirFields : Prop :=
  (∀ (limit : Bool) (f : StatusBlock → State),
    let record := fun (order : List StatusBlock) => order.foldl (fun r k => statusPart limit (f k) k r) {}
    let b := statusBytes (record StatusBlock.all)
    let n := fun k => BitVec.ofNat 8 k
    let mpt := (f .memoryPort).mpt
    let rcx := (f .runningContext).rcx
    let dnl := (f .denyList).dnl
    let snt := (f .seenTable).snt
    let jnw := (f .journalWriter).jnw
    let fmn := f .fieldMonitor
    (∀ order, order.Perm StatusBlock.all → record order = record StatusBlock.all)
    ∧ b.length = 64
    ∧ byteAt b 0 = n (runStateCode mpt.runState) ∧ byteAt b 1 = n (haltCauseCode mpt.haltCause)
    ∧ byteAt b 2 = n (powerCode (f .powerEvents).pev.power) ∧ (byteAt b 3 = 1 ↔ rcx.state = .active)
    ∧ (rcx.position = none → byteAt b 4 = 0 ∧ byteAt b 5 = 0 ∧ halfAt b 6 = 0)
    ∧ (∀ k, rcx.position = some (.atStop k) → byteAt b 4 = 1 ∧ byteAt b 5 = n k)
    ∧ (∀ k, rcx.position = some (.between k) → byteAt b 4 = 2 ∧ byteAt b 5 = n k)
    ∧ halfAt b 6 = currentStop rcx ∧ halfAt b 8 = rcx.trip ∧ halfAt b 10 = rcx.day ∧ halfAt b 12 = rcx.minute
    ∧ (byteAt b 14 = 1 ↔ rcx.stale = true) ∧ byteAt b 15 = n (listStateCode dnl.state)
    ∧ halfAt b 16 = rcx.conductor ∧ (dnl.staging = none → halfAt b 18 = 0)
    ∧ (∀ st, dnl.staging = some st → halfAt b 18 = BitVec.ofNat 16 st.ops.length)
    ∧ wordAt b 20 = dnl.generation ∧ halfAt b 24 = BitVec.ofNat 16 dnl.table.length
    ∧ halfAt b 26 = BitVec.ofNat 16 (saturatedCells dnl) ∧ wordAt b 28 = dnl.falseHits
    ∧ halfAt b 32 = BitVec.ofNat 16 snt.records.length ∧ byteAt b 34 = n (pinCount snt)
    ∧ (∀ k : Fin 8, (byteAt b 35).getLsbD k = keyLoaded k (f .verdictEngine).ven) ∧ wordAt b 36 = snt.evictions
    ∧ wordAt b 40 = counterValue snt.counter ∧ wordAt b 44 = jnw.nextSerial ∧ wordAt b 48 = jnw.missed
    ∧ byteAt b 52 = latchedFlags fmn.fmn ∧ byteAt b 53 = activeFlags fmn limit
    ∧ halfAt b 54 = BitVec.ofInt 16 fmn.fmn.dieTemp ∧ ∀ i, 56 ≤ i → byteAt b i = 0)
  ∧ (let x := identityBytes
    x.length = 32 ∧ halfAt x 0 = 318 ∧ byteAt x 2 = 2 ∧ byteAt x 3 = 2 ∧ halfAt x 4 = 256 ∧ halfAt x 6 = 1024
    ∧ halfAt x 8 = 16384 ∧ halfAt x 10 = 1024 ∧ halfAt x 12 = 2048 ∧ byteAt x 14 = 32 ∧ byteAt x 15 = 48
    ∧ byteAt x 16 = 8 ∧ byteAt x 17 = 0 ∧ halfAt x 18 = 256 ∧ byteAt x 20 = 128 ∧ byteAt x 21 = 32
    ∧ halfAt x 22 = 256 ∧ ∀ i, 24 ≤ i → byteAt x i = 0)
  ∧ (∀ (serial : Word) (e : EntryContents),
    let b := 0 :: entryBytes serial e
    b.length = 32 ∧ byteAt b 1 = entryKindCode e.kind ∧ byteAt b 2 = BitVec.ofNat 8 (e.place.getD 255)
    ∧ byteAt b 3 = e.rides.getD 255 ∧ wordAt b 4 = serial ∧ credAt b 8 = e.cred ∧ halfAt b 16 = e.ctx.trip
    ∧ halfAt b 18 = e.ctx.day ∧ halfAt b 20 = e.ctx.minute ∧ halfAt b 22 = e.ctx.stop ∧ halfAt b 24 = e.ctx.conductor
    ∧ halfAt b 26 = e.detail ∧ ∀ i, 28 ≤ i → byteAt b i = 0)
  ∧ [EntryKind.ride, .uncertain, .resolved, .conflict, .denied, .void].map entryKindCode = [1, 2, 3, 4, 5, 6]
  ∧ [Resolution.landed, .notLanded, .damaged].map resolutionCode = [1, 2, 3]
  ∧ [VoidCause.stampFailed, .cancelled, .fieldFault, .halted].map voidCauseCode = [1, 2, 3, 4]
  ∧ (∀ r a, halfAt [denyReasonCode r, denyActionCode a] 0 = deniedDetail r a)
  ∧ [DenyReason.stolen, .refunded, .fraud, .accountBlocked].map denyReasonCode = [1, 2, 3, 4]
  ∧ [DenyAction.refuse, .retain].map denyActionCode = [1, 2]
  ∧ (∀ r : SeenRecord,
    let b := exportBytes r
    b.length = 32 ∧ credAt b 0 = r.cred ∧ wordAt b 8 = r.number ∧ byteAt b 12 = (r.firstVerdict.map verdictCode).getD 0
    ∧ byteAt b 13 = rideStateCode r.ride ∧ byteAt b 14 = stampStateCode r.stamp
    ∧ byteAt b 15 = BitVec.ofNat 8 (r.place.getD 255) ∧ halfAt b 16 = r.firstStop ∧ halfAt b 18 = r.firstMinute
    ∧ halfAt b 20 = r.lastStop ∧ byteAt b 22 = r.count ∧ ∀ i, 23 ≤ i → byteAt b i = 0)
  ∧ [RideState.none, .localRide, .peer, .both].map rideStateCode = [0, 1, 2, 3]
  ∧ [StampState.none, .done, .uncertain, .damaged].map stampStateCode = [0, 1, 2, 3]
  ∧ (∀ (tag : Half) (d : Draft),
    let b := List.replicate 24 (0 : Byte) ++ answerBytes tag (inspectionAnswer d)
    let marked := fun k => (byteAt b 29).getLsbD k
    let flag := fun k => (byteAt b 49).getLsbD k
    b.length = 64 ∧ byteAt b 24 = 1 ∧ byteAt b 25 = 0 ∧ halfAt b 26 = tag ∧ byteAt b 30 = verdictCode d.verdict
    ∧ byteAt b 31 = (d.reason.map verdictReasonCode).getD 0 ∧ marked 0 = d.reason.isSome
    ∧ credAt b 32 = d.cred.getD 0 ∧ marked 1 = d.cred.isSome
    ∧ (∀ p0 p1 p2, d.places = some [p0, p1, p2] →
      byteAt b 40 = placeCode p0 ∧ byteAt b 41 = placeCode p1 ∧ byteAt b 42 = placeCode p2)
    ∧ (d.places = none → byteAt b 40 = 0 ∧ byteAt b 41 = 0 ∧ byteAt b 42 = 0) ∧ marked 2 = d.places.isSome
    ∧ (∀ c, d.chosen = some c →
      byteAt b 43 = BitVec.ofNat 8 c.place ∧ byteAt b 44 = c.classCode ∧ byteAt b 45 = c.party)
    ∧ (d.chosen = none → byteAt b 43 = 0 ∧ byteAt b 44 = 0 ∧ byteAt b 45 = 0) ∧ marked 3 = d.chosen.isSome
    ∧ byteAt b 46 = d.ridesLeft.getD 0 ∧ marked 4 = d.ridesLeft.isSome
    ∧ byteAt b 47 = (d.denyReason.map denyReasonCode).getD 0 ∧ byteAt b 48 = (d.denyAction.map denyActionCode).getD 0
    ∧ marked 5 = d.denyReason.isSome
    ∧ flag 0 = d.flags.checkProof ∧ flag 1 = d.flags.listIncomplete ∧ flag 2 = d.flags.listInvalid
    ∧ flag 3 = d.flags.clockStale ∧ flag 4 = d.flags.seenBefore ∧ flag 5 = d.flags.uncertainResolved
    ∧ flag 6 = d.flags.journalMissed ∧ flag 7 = false
    ∧ wordAt b 50 = d.journalSerial.getD 0 ∧ marked 6 = d.journalSerial.isSome
    ∧ wordAt b 54 = d.resolutionSerial.getD 0 ∧ marked 7 = d.resolutionSerial.isSome
    ∧ (∀ x, d.seen = some x →
      halfAt b 58 = x.firstStop ∧ halfAt b 60 = x.firstMinute ∧ byteAt b 62 = sourceCode x.source ∧ byteAt b 63 = x.count)
    ∧ (d.seen = none → ∀ i, 58 ≤ i → byteAt b i = 0))
  ∧ [Verdict.denied, .noContext, .valid, .rideTaken, .rideTakenEarlier, .rideNotTaken, .stampUncertain, .noFare,
      .noCredential, .multipleCards, .unreadable].map verdictCode = [4, 5, 6, 7, 8, 9, 10, 11, 12, 13, 14]
  ∧ [RecordFailure.wrongClass, .wrongSegment, .noRidesLeft, .notYetValid, .expired, .stampDamaged, .unknownKey,
      .forged].map failureCode = [16, 17, 18, 19, 20, 21, 22, 23]
  ∧ (∀ f, verdictCode (.failed f) = failureCode f ∧ placeCode (.failed f) = failureCode f)
  ∧ [PlaceResult.empty, .notJudged, .usable].map placeCode = [1, 2, 3]
  ∧ [VerdictReason.journalFull, .uncertainLimit, .stampFailed, .notRequested].map verdictReasonCode = [1, 2, 3, 4]
  ∧ [Source.localPart, .peer].map sourceCode = [1, 2]
  ∧ (∀ b : List Byte,
    (byteAt b 0 = 0 → readPlace b = none)
    ∧ (byteAt b 0 ≠ 0 → readPlace b = some
      { covered := b.take 28, classCode := byteAt b 0, travelClass := byteAt b 1, concession := (byteAt b 2).getLsbD 0
        partySize := byteAt b 3, origin := halfAt b 4, destination := halfAt b 6, zones := wordAt b 8
        fromDay := halfAt b 12, fromMinute := halfAt b 14, untilDay := halfAt b 16, untilMinute := halfAt b 18
        rides := byteAt b 20, keyIndex := byteAt b 21, check := wordAt b 28 })
    ∧ let st : StampRecord :=
        { sequence := halfAt b 0, day := halfAt b 2, trip := halfAt b 4, stop := halfAt b 6, conductor := halfAt b 8
          place := byteAt b 10, rides := byteAt b 11 }
      let intact := crc32 (b.take 12) = wordAt b 12 ∧ st.place.toNat ≤ 2 ∧ st.rides.toNat ≤ 99
      (intact → stampStanding (some b) = .intact st) ∧ (¬ intact → stampStanding (some b) = .damaged))
  ∧ stampStanding none = .absent
  ∧ ∀ (records : List (List Byte)),
    (readPlaces records).length = 3
    ∧ ∀ p < 3, (readPlaces records)[p]? = some (match records[p]? with
      | none => none
      | some b => readPlace b)

/-! ### Field tests, power and cancels -/

/-- R160: a POWER to DOZE or SLEEP is refused BUSY while the hold holds a task or in HALTING, with the held tasks counted at
the event of the refusal and not at its write (log 45); every other is answered OK with the state held and the target, and the
change follows the DONE. R159, R165: no access is made in SLEEP, and in DOZE none outside a check and a scan; so a POWER to
either, not refused, stays in hand while work of the Journal Writer, an update in transit or another access is left (log 35).
One to DOZE or SLEEP that a HALT overtakes while its answer is written is answered BUSY, and one overtaken while DONE is
written changes no power state (log 14); one to RUN or REDUCED changes it in HALTING too (log 47). R161, R137: at the DONE of
an accepted POWER, RUN and REDUCED are taken and the scan goes on or ends; DOZE ends the scan, stops the poll timer, starts the
wake timer with the wake period, keeps the card-near option and starts the sense with no reference where it is yes; SLEEP ends
the scan and stops the poll timer and the minute timer; a sense pulse in progress ends (log 23), and so does a passive check at
the entry to SLEEP (log 23). An extra scan pending is a NUDGE in the new state: it wakes DOZE to RUN with WOKE and a scan, and
begins the settling from SLEEP. TASK DONE is raised. -/
def Obligations.PowerIsAnsweredThenEntered : Prop :=
  (∀ (target : PowerState) (period : Nat) (near : Bool) (sc : Scan) (tag : Half) (s : State), s.mpt.asked = [] →
     InHand sc ⟨tag, .power target period near⟩ s →
     let held := target = .doze ∨ target = .sleep
     let refused := held ∧ (s.clk.hold ≠ [] ∨ s.mpt.runState = .halting)
     let waits := held ∧ (s.jnw.queue ≠ [] ∨ s.jnw.service ≠ .idle ∨ s.jnw.reservation ≠ none ∨ s.snt.updates ≠ []
       ∨ s.mpt.flight ≠ none ∨ s.mpt.waiting ≠ [])
     ∃ t, exec .power s = .next t ∧ t = { s with mpt := t.mpt, ssc := t.ssc }
       ∧ (refused → Completes sc tag (powerBusy s.pev.power s.clk.hold.length) none s t)
       ∧ (¬ refused → waits → t = s)
       ∧ (¬ refused → ¬ waits → Completes sc tag (powerAnswer s.pev.power target) (some ⟨target, period, near⟩) s t))
  ∧ (∀ (c : PowerChange) (sc : Scan) (tag : Half) (s : State), ScanAnswered [] s → s.mpt.asked = [] →
       s.ssc.scan = some sc → sc.phase = .writeAnswer tag (some c) → s.mpt.runState = .halting →
       c.target = .doze ∨ c.target = .sleep →
       ∃ t, exec (.memoryResponse []) s = .next t ∧ t = { s with mpt := t.mpt, ssc := t.ssc }
         ∧ Completes sc tag (powerBusy s.pev.power s.clk.hold.length) none { s with mpt := freeBus s } t)
  ∧ (∀ (c : PowerChange) (sc : Scan) (s : State), ScanAnswered [] s → s.mpt.asked = [] → s.ssc.scan = some sc →
       sc.phase = .writeDone (some c) → s.mpt.runState = .halting →
       ∃ t, exec (.memoryResponse []) s = .next t
         ∧ ScanEnds sc
           { s with
             mpt := freeBus s
             pev := { s.pev with
               power := if endsScan c.target then s.pev.power else c.target, events := s.pev.events ||| evTaskDone } } t)
  ∧ (∀ (c : PowerChange) (sc : Scan) (s : State), ScanAnswered [] s → s.mpt.asked = [] → s.ssc.scan = some sc →
       sc.phase = .writeDone (some c) → s.mpt.runState = .running →
       let cursor := cursorAfter sc s
       let events := s.pev.events ||| evTaskDone
       let v :=
         if s.clk.holder = .sense then
           { s with clk := { s.clk with holder := .none }, fmn := { s.fmn with detected := false } }
         else s
       (c.target = .run ∨ c.target = .reduced →
         (∀ k, NextFree (heldSlots s) sc k s →
           ∃ t, exec (.memoryResponse []) s = .next t
             ∧ t.mpt = busAfter t (freeBus s) [stateReadOf s (slotAhead sc k s)]
             ∧ t = { s with
                 mpt := t.mpt, ssc := { s.ssc with scan := some (scanAt sc k s) }
                 pev := { s.pev with power := c.target, events := events } })
         ∧ (NoneFree (heldSlots s) sc s →
           ∃ t, exec (.memoryResponse []) s = .next t
             ∧ ScanEnds sc { s with mpt := freeBus s, pev := { s.pev with power := c.target, events := events } } t))
       ∧ (c.target = .doze →
         ∃ t, exec (.memoryResponse []) s = .next t
           ∧ (s.ssc.extraScan = false →
             t.mpt = busAfter t (freeBus s) []
             ∧ t = { v with
                 mpt := t.mpt, ssc := { s.ssc with scan := none, cursor := cursor, pollTimer := none }
                 pev := { s.pev with
                   power := .doze, wakeTimer := some c.period, dozeJob := none, cardNear := c.cardNear
                   senseTimer := c.cardNear, senseReference := none, events := events } })
           ∧ (s.ssc.extraScan = true → cursor < slotCount s → cursor ∉ heldSlots s →
             t.mpt = busAfter t (freeBus s) [stateReadOf s cursor]
             ∧ t = { v with
                 mpt := t.mpt
                 ssc := { s.ssc with
                   scan := some (scanFrom s cursor), cursor := cursor, pollTimer := none, extraScan := false }
                 pev := { s.pev with
                   power := .run, wakeTimer := none, dozeJob := none, cardNear := false, senseTimer := false
                   senseReference := none, events := events ||| evWoke } }))
       ∧ (c.target = .sleep →
         ∃ t, exec (.memoryResponse []) s = .next t ∧ t.mpt = busAfter t (freeBus s) []
           ∧ t = { v with
               mpt := t.mpt
               ssc := { s.ssc with scan := none, cursor := cursor, pollTimer := none, extraScan := false }
               rcx := { s.rcx with minuteTimer := false }, fmn := { v.fmn with passive := none }
               pev := { s.pev with power := .sleep, settling := t.pev.settling, events := events } }
           ∧ (s.ssc.extraScan = false → t.pev.settling = s.pev.settling)
           ∧ (s.ssc.extraScan = true → s.pev.settling = none → t.pev.settling = some .scan)))

/-- R107, R108, R109: a CANCEL of itself is NOT PENDING; a held task in STAMPING or CLOSING is TOO LATE; one in WAITING FIELD,
PRESENCE, READING or DECIDING is ended CANCELLED, its field released, its waiting reservation claim orphaned, and a resolution
made at its consult left standing, with nothing sent to the Seen Table, and the CANCEL answers when that task's slot has been
written DONE; a target not held is decided by the state and the kind of its slot as the CANCEL finds them: a POSTED CARD
INSPECT is taken and answered CANCELLED, while any other is NOT PENDING. That the CANCEL's event carries what it finds, that a
CARD INSPECT found TAKEN and not held is NOT PENDING, that the CANCEL's own answer follows the target's DONE, and that the
target is no longer left POSTED are log 19; that a decision point in progress counts as DECIDING is log 10. -/
def Obligations.CancelIsDecidedByItsTarget : Prop :=
  ∀ (target : Nat) (sc : Scan) (tag : Half) (state kind : Byte) (s : State), s.mpt.asked = [] →
    let task : Task := ⟨tag, .cancel target⟩
    (InHand sc task s →
      (target = sc.index →
        ∃ t, exec (.cancel state kind) s = .next t ∧ Completes sc tag (cancelAnswer .notPending 2 none) none s t
          ∧ t = { s with mpt := t.mpt, ssc := t.ssc })
      ∧ (target ≠ sc.index → target ∉ heldSlots s →
        ∃ t, exec (.cancel state kind) s = .next t ∧ t = { s with mpt := t.mpt, ssc := t.ssc }
          ∧ (state = 1 ∧ kind = 1 → ServesOn sc task .cancelRead (readOf .scan (slotAddress s target 2) 2) s t)
          ∧ (¬ (state = 1 ∧ kind = 1) →
            Completes sc tag (cancelAnswer .notPending (if state.toNat ≤ 3 then state.toNat else 0) none) none s t))
      ∧ ∀ h, target ≠ sc.index → h ∈ s.clk.hold → h.slot = target → (heldSlots s).Nodup →
        let body := fun (r : CancelResult) => cancelAnswer r 2 (some h.session)
        let ends := fun (cred : Option Cred) (t : State) =>
          t.mpt = busAfter t s.mpt [answerOf (.card target) s target h.tag (codedAnswer .cancelled cred)]
          ∧ t.ssc = { s.ssc with scan := some { sc with phase := .serving task (.cancelWait target (body .targetCancelled)) } }
          ∧ t.clk.hold = s.clk.hold.map (fun x =>
              if x.slot = target then { x with session := .closing (.coded .cancelled cred) {} .writeAnswer } else x)
          ∧ t.snt = s.snt
        ((∃ x d p, h.session = .stamping x d p) ∨ (∃ e o g, h.session = .closing e o g) →
          ∃ t, exec (.cancel state kind) s = .next t ∧ Completes sc tag (body .tooLate) none s t
            ∧ t = { s with mpt := t.mpt, ssc := t.ssc })
        ∧ (h.session = .waitingField →
          ∃ t, exec (.cancel state kind) s = .next t ∧ ends none t ∧ t = { s with mpt := t.mpt, ssc := t.ssc, clk := t.clk })
        ∧ (s.clk.holder = .session → h.session = .presence ∨ h.session = .reading →
          ∃ t, exec (.cancel state kind) s = .next t ∧ ends (cardIdOf s) t ∧ t.clk.holder = .none
            ∧ t = { s with mpt := t.mpt, ssc := t.ssc, clk := t.clk, fmn := { s.fmn with detected := false } })
        ∧ (∀ a, s.clk.holder = .session → h.session = .asking a →
          ∃ t, exec (.cancel state kind) s = .next t ∧ ends (cardIdOf s) t ∧ t.clk.holder = .none
            ∧ t = { s with
                mpt := t.mpt, ssc := t.ssc, clk := t.clk, fmn := { s.fmn with detected := false }
                jnw := { s.jnw with queue := s.jnw.queue.map disownJob } })
        ∧ ∀ d p g, s.clk.holder = .session → h.session = .deciding d p g →
          ∃ t, exec (.cancel state kind) s = .next t ∧ ends (cardIdOf s) t ∧ t.clk.holder = .none
            ∧ t = { s with
                mpt := t.mpt, ssc := t.ssc, clk := t.clk, fmn := { s.fmn with detected := false }
                jnw := { s.jnw with queue := s.jnw.queue.map (orphanJob (voidEntry p .cancelled)) } })
    ∧ (∀ data, ScanAnswered data s → Serving sc task .cancelRead s →
      ∃ t, exec (.memoryResponse data) s = .next t
        ∧ t.mpt = busAfter t (freeBus s) [writeOf .scan (slotAddress s target 0) [2]]
        ∧ t = { s with
            mpt := t.mpt
            ssc := { s.ssc with
              scan := some { sc with
                lastTaken := some target, leftPosted := sc.leftPosted.filter (fun i => i != target)
                phase := .serving task (.cancelTaken (halfAt data 0)) } } })
    ∧ (ScanAnswered [] s →
      let u := { s with mpt := freeBus s }
      (∀ targetTag, Serving sc task (.cancelTaken targetTag) s →
        ∃ t, exec (.memoryResponse []) s = .next t
          ∧ ServesOn sc task .cancelAnswer (answerOf .scan s target targetTag { code := .cancelled }) u t
          ∧ t = { s with mpt := t.mpt, ssc := t.ssc })
      ∧ (Serving sc task .cancelAnswer s →
        ∃ t, exec (.memoryResponse []) s = .next t ∧ ServesOn sc task .cancelDone (doneOf .scan s target) u t
          ∧ t = { s with mpt := t.mpt, ssc := t.ssc })
      ∧ (Serving sc task .cancelDone s →
        ∃ t, exec (.memoryResponse []) s = .next t
          ∧ Completes sc tag (cancelAnswer .targetCancelled 1 none) none u t
          ∧ t = { s with mpt := t.mpt, ssc := t.ssc, pev := { s.pev with events := s.pev.events ||| evTaskDone } }))
    ∧ ∀ (body : AnswerBody) (h g : HeldTask) (e : SessionEnd) (o : Owed), CardAnswered target s →
      Serving sc task (.cancelWait target body) s → h.slot = target → g.slot ≠ target →
      h.session = .closing e o .writeDone →
      let done := { s with mpt := freeBus s, pev := { s.pev with events := s.pev.events ||| evTaskDone } }
      let answered := { s.ssc with scan := some { sc with phase := .writeAnswer tag none } }
      let own := answerOf .scan s sc.index tag body
      (s.clk.hold = [h] →
        ∃ t, exec (.memoryResponse []) s = .next t ∧ Completes sc tag body none done t
          ∧ t = { done with mpt := t.mpt, ssc := t.ssc, clk := { s.clk with hold := [], identity := none } })
      ∧ (s.clk.hold = [g, h] →
        ∃ t, exec (.memoryResponse []) s = .next t ∧ Completes sc tag body none done t
          ∧ t = { done with mpt := t.mpt, ssc := t.ssc, clk := { s.clk with hold := [g] } })
      ∧ (s.clk.hold = [h, g] → g.session = .waitingField →
        (s.clk.holder = .none → fieldBlocked s = false → s.fmn.passive = none →
          ∃ t, exec (.memoryResponse []) s = .next t ∧ t.mpt = busAfter t (freeBus s) [own]
            ∧ t = { done with
                mpt := t.mpt, ssc := answered, draws := s.draws + 1
                fmn := { s.fmn with finding := t.fmn.finding, detected := false }
                clk := { s.clk with
                  hold := [{ g with session := .presence }], holder := .session, deadline := some g.req.timeout
                  tries := 1, interval := presenceInterval s, identity := none } })
        ∧ (s.clk.holder = .sense → fieldBlocked s = false →
          ∃ t, exec (.memoryResponse []) s = .next t ∧ t.mpt = busAfter t (freeBus s) [own]
            ∧ t = { done with mpt := t.mpt, ssc := answered, clk := { s.clk with hold := [g], identity := none } })
        ∧ (fieldBlocked s = true →
          ∃ t, exec (.memoryResponse []) s = .next t
            ∧ AsksFor [answerOf (.card g.slot) s g.slot g.tag { code := .fieldFault }, own] (freeBus s) t
            ∧ t = { done with
                mpt := t.mpt, ssc := answered, draws := s.draws + 1
                clk := { s.clk with
                  hold := [{ g with session := .closing (.coded .fieldFault none) {} .writeAnswer }], identity := none } }))

/-! ### The journal -/

/-- R150, R151, R148: a claim first in order has the mark of the cursor entry read, and PART grants it: its fields, with the next
serial, are written at bytes 1 to 31 of the entry, the cursor moves on and the serial rises; every other mark refuses it with
JOURNAL FULL, and a lost DENIED, RESOLVED or CONFLICT entry counts as missed where a token RIDE does not; the owner HOST is
written after the fields; then JOURNAL ENTRY is raised, the claim leaves, and the next is served. R153, R148: the fill that
is first in order is written, with no mark read, into the reserved entry with its serial; when the owner HOST has been written
the reservation is none, JOURNAL ENTRY is raised, and a session that waited for the fill hands its answer over. A reservation
whose session has ended is filled VOID in the service that grants it, or refused, with nothing missed. That the grant is an
event of its own after the read is log 6, and that the mark alone decides it, also where the cursor meets the entry of a
reservation still held, is log 42. -/
def Obligations.JournalServesClaimsAndFills : Prop :=
  (∀ (jobs : List JournalJob) (ring : Ring) (s : State), s.jnw.ring = some ring →
     let all := s.jnw.queue ++ jobs
     (s.jnw.service = .idle →
       arrive jobs s =
         { s with
           mpt := { s.mpt with asked := s.mpt.asked ++ markReads ring s.jnw.cursor all }
           jnw := { s.jnw with queue := all, service := serviceAfter all } })
     ∧ (s.jnw.service ≠ .idle → arrive jobs s = { s with jnw := { s.jnw with queue := all } }))
  ∧ (∀ (mark : Byte) (s : State), s.mpt.asked = [] → JournalAnswered [mark] s → s.jnw.service = .readingMark →
       ∃ t, exec (.memoryResponse [mark]) s = .next t ∧ t.mpt = busAfter t (freeBus s) []
         ∧ t = { s with mpt := t.mpt, jnw := { s.jnw with service := .markRead mark } })
  ∧ (∀ (entry : Nat) (serial : Word) (ring : Ring) (s : State), s.mpt.asked = [] → JournalAnswered [] s →
       s.jnw.ring = some ring → s.jnw.service = .writingFields entry serial →
       ∃ t, exec (.memoryResponse []) s = .next t
         ∧ t.mpt = busAfter t (freeBus s) [writeOf .journal (entryAddress ring entry 0) [0xA5]]
         ∧ t = { s with mpt := t.mpt, jnw := { s.jnw with service := .writingHost entry serial } })
  ∧ (∀ (e : EntryContents) (rest : List JournalJob) (ring : Ring) (s : State), s.mpt.asked = [] →
       s.jnw.ring = some ring → s.jnw.service = .markRead 0x5A →
       let granted := { s.jnw with
         cursor := (s.jnw.cursor + 1) % ring.entries, nextSerial := s.jnw.nextSerial + 1
         service := .writingFields s.jnw.cursor s.jnw.nextSerial }
       let writes := fun (t : State) =>
         exec .journalClaim s = .next t
         ∧ t.mpt = busAfter t s.mpt
             [writeOf .journal (entryAddress ring s.jnw.cursor 1) (entryBytes s.jnw.nextSerial e)]
       (∀ who, s.jnw.queue = .entry e who :: rest → ∃ t, writes t ∧ t = { s with mpt := t.mpt, jnw := granted })
       ∧ (s.jnw.queue = .reserveVoid e :: rest →
         ∃ t, writes t
           ∧ t = { s with
               mpt := t.mpt
               jnw := { granted with reservation := some ⟨s.jnw.cursor, s.jnw.nextSerial⟩ } }))
  ∧ (∀ (e : EntryContents) (rest : List JournalJob) (ring : Ring) (s : State), s.mpt.asked = [] →
       s.jnw.ring = some ring →
       let left := { s.jnw with queue := rest, service := serviceAfter rest }
       (∀ c serial, ClaimEnds c serial s → s.jnw.queue = .entry e .nobody :: rest →
         ∃ t, exec c s = .next t
           ∧ t.mpt = busAfter t (busAtEnd serial s) (markReads ring s.jnw.cursor rest)
           ∧ t = { s with
               mpt := t.mpt, jnw := { left with missed := missedAfter e.kind serial s.jnw.missed }
               pev := { s.pev with events := s.pev.events ||| claimEvent serial } })
       ∧ ∀ c serial, ClaimEnds c serial s → s.jnw.queue = .reserveVoid e :: rest →
         ∃ t, exec c s = .next t
           ∧ t.mpt = busAfter t (busAtEnd serial s) (markReads ring s.jnw.cursor rest)
           ∧ t = { s with
               mpt := t.mpt
               jnw := { left with reservation := if serial.isSome then none else s.jnw.reservation }
               pev := { s.pev with events := s.pev.events ||| claimEvent serial } })
  ∧ (∀ (e : EntryContents) (rest : List JournalJob) (ring : Ring) (r : Reservation) (s : State), s.mpt.asked = [] →
       s.jnw.ring = some ring → s.jnw.queue = .fill e :: rest → s.jnw.reservation = some r →
       (s.jnw.service = .idle →
         ∃ t, exec .reservationFill s = .next t
           ∧ t.mpt = busAfter t s.mpt [writeOf .journal (entryAddress ring r.entry 1) (entryBytes r.serial e)]
           ∧ t = { s with mpt := t.mpt, jnw := { s.jnw with service := .writingFields r.entry r.serial } })
       ∧ ∀ h others ending, JournalAnswered [] s → s.jnw.service = .writingHost r.entry r.serial →
         s.clk.hold = h :: others → h.slot ∉ others.map HeldTask.slot →
         h.session = .closing ending { fill := true } .awaitJournal →
         ∃ t, exec (.memoryResponse []) s = .next t
           ∧ AsksFor (markReads ring s.jnw.cursor rest ++ [answerOf (.card h.slot) s h.slot h.tag (sessionAnswer ending)])
               (freeBus s) t
           ∧ t = { s with
               mpt := t.mpt, draws := t.draws
               jnw := { s.jnw with queue := rest, service := serviceAfter rest, reservation := none }
               clk := { s.clk with hold := { h with session := .closing ending {} .writeAnswer } :: others }
               pev := { s.pev with events := s.pev.events ||| evJournalEntry } })

/-- R17, R20, R56, R60, R61, R97, R151: a claim granted or refused goes back to who made it, with its serial or its loss. A
session in CLOSING learns the serial of its DENIED or RESOLVED entry, or JOURNAL MISSED, and hands its answer over when nothing
more is owed; one in DECIDING that waits for its RESOLVED claim claims its reservation then; one whose decision point is in
progress keeps what it learnt; a session refused its reservation answers RIDE NOT TAKEN (JOURNAL FULL) with its update sent. A
TOKEN INSPECT that waits for its DENIED entry answers with it; a token ride is RIDE TAKEN with the serial and one ride less, or
refused with nothing counted. PEER NOTES counts a conflict not journalled, and answers after its last. That a decision point
may be in progress when its RESOLVED claim is served is log 10, and that a claim is decided at an event of its own after the
read of the mark is log 6. -/
def Obligations.ClaimsAnswerTheirMakers : Prop :=
  ∀ (ring : Ring) (jobs : List JournalJob) (s : State), s.mpt.asked = [] → s.jnw.ring = some ring →
    let reads := markReads ring s.jnw.cursor jobs
    let left := { s.jnw with queue := jobs, service := serviceAfter jobs }
    (∀ mark h rest d p, s.jnw.service = .markRead mark → mark ≠ 0x5A → s.jnw.queue = .reserve :: jobs →
      s.clk.hold = h :: rest → h.slot ∉ rest.map HeldTask.slot → h.session = .deciding d p .awaitReservation →
      s.clk.holder = .session →
      let lost : Draft := { d with verdict := .rideNotTaken, reason := some .journalFull, ridesLeft := some p.rides }
      ∃ t, exec .journalClaim s = .next t
        ∧ AsksFor (reads ++ [answerOf (.card h.slot) s h.slot h.tag (inspectionAnswer lost)]) s.mpt t
        ∧ t.clk.hold = { h with session := .closing (.ok lost) {} .writeAnswer } :: rest
        ∧ t.clk.holder = .none ∧ t.jnw = left
        ∧ t.snt = { s.snt with updates := s.snt.updates ++ [⟨p.cred, .refused, p.ctx⟩] }
        ∧ t.pev = { s.pev with events := s.pev.events ||| evJournalFull })
    ∧ ∀ c serial (e : EntryContents), ClaimEnds c serial s →
      let bus := busAtEnd serial s
      let u := { s with
        jnw := { left with missed := missedAfter e.kind serial s.jnw.missed }
        pev := { s.pev with events := s.pev.events ||| claimEvent serial } }
      let flagged := fun (d : Draft) => { d.flags with journalMissed := d.flags.journalMissed || serial.isNone }
      (∀ h rest, s.jnw.queue = .entry e .card :: jobs → s.clk.hold = h :: rest → h.slot ∉ rest.map HeldTask.slot →
        let becomes := fun (x : Session) (asked : List Access) =>
          ∃ t, exec c s = .next t ∧ AsksFor asked bus t
            ∧ t = { u with
                mpt := t.mpt, draws := t.draws, clk := { s.clk with hold := { h with session := x } :: rest } }
        let closes := fun (d : Draft) (owed : Owed) =>
          (owed = {} → becomes (.closing (.ok d) {} .writeAnswer)
            (reads ++ [answerOf (.card h.slot) s h.slot h.tag (inspectionAnswer d)]))
          ∧ (owed ≠ {} → becomes (.closing (.ok d) owed .awaitJournal) reads)
        (∀ d owed, h.session = .closing (.ok d) owed .awaitJournal →
          (e.kind = .denied → closes { d with journalSerial := serial, flags := flagged d } { owed with denied := false })
          ∧ (e.kind = .resolved →
            closes { d with resolutionSerial := serial, flags := flagged d } { owed with resolved := false }))
        ∧ (∀ a x, e.kind = .resolved → h.session = .asking a → a.seen = some x → x.claim = .waiting →
          becomes (.asking { a with seen := some { x with claim := .served serial } }) reads)
        ∧ ∀ d p, e.kind = .resolved → h.session = .deciding d p .awaitResolved →
          ∃ t, exec c s = .next t ∧ t.mpt = busAfter t bus (markReads ring s.jnw.cursor (jobs ++ [.reserve]))
            ∧ t = { u with
                mpt := t.mpt
                jnw := { u.jnw with queue := jobs ++ [.reserve], service := serviceAfter (jobs ++ [.reserve]) }
                clk := { s.clk with
                  hold :=
                    { h with
                      session := .deciding { d with resolutionSerial := serial, flags := flagged d } p .awaitReservation }
                    :: rest } })
      ∧ (∀ sc tag req,
        let task : Task := ⟨tag, req⟩
        let answered := fun (body : AnswerBody) (snt : SeenTable) =>
          ∃ t, exec c s = .next t ∧ AsksFor (reads ++ [answerOf .scan s sc.index tag body]) bus t
            ∧ t = { u with
                mpt := t.mpt, draws := t.draws, snt := snt
                ssc := { s.ssc with scan := some { sc with phase := .writeAnswer tag none } } }
        (s.jnw.queue = .entry e .token :: jobs →
          (∀ d, e.kind = .denied → Serving sc task (.tokenDenied d) s →
            answered (inspectionAnswer { d with journalSerial := serial, flags := flagged d }) s.snt)
          ∧ ∀ d p, e.kind = .ride → Serving sc task (.tokenRide d p) s →
            (∀ n, serial = some n →
              answered
                (inspectionAnswer
                  { d with verdict := .rideTaken, ridesLeft := some (p.rides - 1), journalSerial := some n })
                { s.snt with updates := s.snt.updates ++ [⟨p.cred, .token, p.ctx⟩] })
            ∧ (serial = none →
              answered
                (inspectionAnswer
                  { d with verdict := .rideNotTaken, reason := some .journalFull, ridesLeft := some p.rides })
                { s.snt with updates := s.snt.updates ++ [⟨p.cred, .refused, p.ctx⟩] }))
        ∧ ∀ n k, s.jnw.queue = .entry e .note :: jobs → e.kind = .conflict →
          let n' := { n with notJournalled := n.notJournalled + if serial.isNone then 1 else 0 }
          (Serving sc task (.notesClaims n 1) s → answered (notesAnswer n') s.snt)
          ∧ (Serving sc task (.notesClaims n (k + 2)) s →
            ∃ t, exec c s = .next t ∧ t.mpt = busAfter t bus reads
              ∧ t = { u with
                  mpt := t.mpt
                  ssc := { s.ssc with scan := some { sc with phase := .serving task (.notesClaims n' (k + 1)) } } }))

/-! ### What every step keeps -/

/-- The state after reset is within every rule that the statements below say a step keeps. -/
def Obligations.ResetIsWithinEveryRule : Prop :=
  let s := State.reset
  portRule s = true ∧ fieldRule s = true ∧ heatRule s = true ∧ holdRule s = true ∧ pinRule s = true ∧ contextRule s = true
  ∧ layoutRule s = true ∧ haltedRule s = true ∧ powerRule s = true ∧ seenRule s.snt ∧ denyRule s.dnl

/-- R64, R66, R68, R73, R74, R76, R79, R81: every step keeps the deny table in strictly ascending order and within 16,384
entries, each filter cell at 15 or the exact number of its entries, the highest ID loaded that of the last entry, the load and
the staging area where the list state allows them, and no more than 1,024 staged operations. -/
def Obligations.DenyListStaysInOrder : Prop :=
  ∀ s t : State, denyRule s.dnl → step s = .next t → denyRule t.dnl

/-- R48, R49: every step keeps one seen record for each credential, in rising insertion number below the counter, with a
pending sequence exactly beside stamp state UNCERTAIN. -/
def Obligations.SeenTableStaysInOrder : Prop :=
  ∀ s t : State, seenRule s.snt → step s = .next t → seenRule t.snt

/-- R88, R127, R49, R55: every step keeps at most two tasks in the hold, their slots distinct and not the slot in hand, only
the head in a session that has begun and not ended; at most 32 records pinned, those about to be counted, and at most 2,048
records, while the Seen Table holds one record for each credential, as O56 says every step keeps it. -/
def Obligations.HoldAndPinsStayWithinBounds : Prop :=
  ∀ s t : State, holdRule s = true → pinRule s = true → seenRule s.snt → step s = .next t → holdRule t = true ∧ pinRule t = true

/-- R30, R31, R32, R34, R36, R37: every step keeps the context well formed: nothing of a trip in NONE; in ACTIVE a route of 2
to 48 distinct stops, a position on it and a trip number; a minute up to 2,879; and the task in hand past its checks. -/
def Obligations.ContextStaysWellFormed : Prop :=
  ∀ s t : State, contextRule s = true → step s = .next t → contextRule t = true

/-- R86, R112, R116, R118, R119, R144, R125, R146: every step keeps the field off under a block and during a passive check, the
thermal block and reduced duty in step with the die temperature, one access at a time with none waiting on a free bus, and
the sheet and the ring within their bounds. -/
def Obligations.FieldDieAndBusStayRuled : Prop :=
  ∀ s t : State, step s = .next t →
    (portRule s = true → portRule t = true) ∧ (fieldRule s = true → fieldRule t = true)
    ∧ (heatRule s = true → heatRule t = true) ∧ (layoutRule s = true → layoutRule t = true)

/-- R85, R127, R138, R143, R147, R159, R162, R164, R165: every step keeps a HALTED part at rest, with no task, session, claim,
reservation, update or bus access left, a STARTING part at rest but for its start-up work, and DOZE and SLEEP, their work and
their wakes, to a RUNNING part, with no task in hand there: no access is made in
SLEEP, and in DOZE by the scan alone. That no update in transit is left at HALTED is log 12. -/
def Obligations.AHaltedPartIsAtRest : Prop :=
  ∀ s t : State, haltedRule s = true → powerRule s = true → step s = .next t → haltedRule t = true ∧ powerRule t = true
end

