-- ==== Sys2Proof/Laws/State.lean ====
section
/-! SUPPORT. What the plain updates of State do to each of its fields: one lemma for each update and field, all true by
computation, so that no later proof unfolds a record update. -/

namespace Sys2Proof.Machine

@[simp] theorem raiseEvent_mpt (f : BitVec 8) (s : State) : (raiseEvent f s).mpt = s.mpt := rfl
@[simp] theorem raiseEvent_ssc (f : BitVec 8) (s : State) : (raiseEvent f s).ssc = s.ssc := rfl
@[simp] theorem raiseEvent_rcx (f : BitVec 8) (s : State) : (raiseEvent f s).rcx = s.rcx := rfl
@[simp] theorem raiseEvent_ven (f : BitVec 8) (s : State) : (raiseEvent f s).ven = s.ven := rfl
@[simp] theorem raiseEvent_dnl (f : BitVec 8) (s : State) : (raiseEvent f s).dnl = s.dnl := rfl
@[simp] theorem raiseEvent_snt (f : BitVec 8) (s : State) : (raiseEvent f s).snt = s.snt := rfl
@[simp] theorem raiseEvent_clk (f : BitVec 8) (s : State) : (raiseEvent f s).clk = s.clk := rfl
@[simp] theorem raiseEvent_fmn (f : BitVec 8) (s : State) : (raiseEvent f s).fmn = s.fmn := rfl
@[simp] theorem raiseEvent_jnw (f : BitVec 8) (s : State) : (raiseEvent f s).jnw = s.jnw := rfl
@[simp] theorem raiseEvent_pev (f : BitVec 8) (s : State) : (raiseEvent f s).pev = { s.pev with events := s.pev.events ||| f } := rfl
@[simp] theorem raiseEvent_draws (f : BitVec 8) (s : State) : (raiseEvent f s).draws = s.draws := rfl
@[simp] theorem raiseEvent_pending (f : BitVec 8) (s : State) : (raiseEvent f s).pending = s.pending := rfl

@[simp] theorem ask_mpt (a : Access) (s : State) : (ask a s).mpt = { s.mpt with asked := s.mpt.asked ++ [a] } := rfl
@[simp] theorem ask_ssc (a : Access) (s : State) : (ask a s).ssc = s.ssc := rfl
@[simp] theorem ask_rcx (a : Access) (s : State) : (ask a s).rcx = s.rcx := rfl
@[simp] theorem ask_ven (a : Access) (s : State) : (ask a s).ven = s.ven := rfl
@[simp] theorem ask_dnl (a : Access) (s : State) : (ask a s).dnl = s.dnl := rfl
@[simp] theorem ask_snt (a : Access) (s : State) : (ask a s).snt = s.snt := rfl
@[simp] theorem ask_clk (a : Access) (s : State) : (ask a s).clk = s.clk := rfl
@[simp] theorem ask_fmn (a : Access) (s : State) : (ask a s).fmn = s.fmn := rfl
@[simp] theorem ask_jnw (a : Access) (s : State) : (ask a s).jnw = s.jnw := rfl
@[simp] theorem ask_pev (a : Access) (s : State) : (ask a s).pev = s.pev := rfl
@[simp] theorem ask_draws (a : Access) (s : State) : (ask a s).draws = s.draws := rfl
@[simp] theorem ask_pending (a : Access) (s : State) : (ask a s).pending = s.pending := rfl

@[simp] theorem askRead_mpt (c : Client) (a : Word) (n : Nat) (s : State) : (askRead c a n s).mpt = { s.mpt with asked := s.mpt.asked ++ [readOf c a n] } := rfl
@[simp] theorem askRead_ssc (c : Client) (a : Word) (n : Nat) (s : State) : (askRead c a n s).ssc = s.ssc := rfl
@[simp] theorem askRead_rcx (c : Client) (a : Word) (n : Nat) (s : State) : (askRead c a n s).rcx = s.rcx := rfl
@[simp] theorem askRead_ven (c : Client) (a : Word) (n : Nat) (s : State) : (askRead c a n s).ven = s.ven := rfl
@[simp] theorem askRead_dnl (c : Client) (a : Word) (n : Nat) (s : State) : (askRead c a n s).dnl = s.dnl := rfl
@[simp] theorem askRead_snt (c : Client) (a : Word) (n : Nat) (s : State) : (askRead c a n s).snt = s.snt := rfl
@[simp] theorem askRead_clk (c : Client) (a : Word) (n : Nat) (s : State) : (askRead c a n s).clk = s.clk := rfl
@[simp] theorem askRead_fmn (c : Client) (a : Word) (n : Nat) (s : State) : (askRead c a n s).fmn = s.fmn := rfl
@[simp] theorem askRead_jnw (c : Client) (a : Word) (n : Nat) (s : State) : (askRead c a n s).jnw = s.jnw := rfl
@[simp] theorem askRead_pev (c : Client) (a : Word) (n : Nat) (s : State) : (askRead c a n s).pev = s.pev := rfl
@[simp] theorem askRead_draws (c : Client) (a : Word) (n : Nat) (s : State) : (askRead c a n s).draws = s.draws := rfl
@[simp] theorem askRead_pending (c : Client) (a : Word) (n : Nat) (s : State) : (askRead c a n s).pending = s.pending := rfl

@[simp] theorem askWrite_mpt (c : Client) (a : Word) (b : List Byte) (s : State) : (askWrite c a b s).mpt = { s.mpt with asked := s.mpt.asked ++ [writeOf c a b] } := rfl
@[simp] theorem askWrite_ssc (c : Client) (a : Word) (b : List Byte) (s : State) : (askWrite c a b s).ssc = s.ssc := rfl
@[simp] theorem askWrite_rcx (c : Client) (a : Word) (b : List Byte) (s : State) : (askWrite c a b s).rcx = s.rcx := rfl
@[simp] theorem askWrite_ven (c : Client) (a : Word) (b : List Byte) (s : State) : (askWrite c a b s).ven = s.ven := rfl
@[simp] theorem askWrite_dnl (c : Client) (a : Word) (b : List Byte) (s : State) : (askWrite c a b s).dnl = s.dnl := rfl
@[simp] theorem askWrite_snt (c : Client) (a : Word) (b : List Byte) (s : State) : (askWrite c a b s).snt = s.snt := rfl
@[simp] theorem askWrite_clk (c : Client) (a : Word) (b : List Byte) (s : State) : (askWrite c a b s).clk = s.clk := rfl
@[simp] theorem askWrite_fmn (c : Client) (a : Word) (b : List Byte) (s : State) : (askWrite c a b s).fmn = s.fmn := rfl
@[simp] theorem askWrite_jnw (c : Client) (a : Word) (b : List Byte) (s : State) : (askWrite c a b s).jnw = s.jnw := rfl
@[simp] theorem askWrite_pev (c : Client) (a : Word) (b : List Byte) (s : State) : (askWrite c a b s).pev = s.pev := rfl
@[simp] theorem askWrite_draws (c : Client) (a : Word) (b : List Byte) (s : State) : (askWrite c a b s).draws = s.draws := rfl
@[simp] theorem askWrite_pending (c : Client) (a : Word) (b : List Byte) (s : State) : (askWrite c a b s).pending = s.pending := rfl

@[simp] theorem askAnswer_mpt (c : Client) (i : Nat) (g : Half) (b : AnswerBody) (s : State) : (askAnswer c i g b s).mpt = { s.mpt with asked := s.mpt.asked ++ [answerOf c s i g b] } := rfl
@[simp] theorem askAnswer_ssc (c : Client) (i : Nat) (g : Half) (b : AnswerBody) (s : State) : (askAnswer c i g b s).ssc = s.ssc := rfl
@[simp] theorem askAnswer_rcx (c : Client) (i : Nat) (g : Half) (b : AnswerBody) (s : State) : (askAnswer c i g b s).rcx = s.rcx := rfl
@[simp] theorem askAnswer_ven (c : Client) (i : Nat) (g : Half) (b : AnswerBody) (s : State) : (askAnswer c i g b s).ven = s.ven := rfl
@[simp] theorem askAnswer_dnl (c : Client) (i : Nat) (g : Half) (b : AnswerBody) (s : State) : (askAnswer c i g b s).dnl = s.dnl := rfl
@[simp] theorem askAnswer_snt (c : Client) (i : Nat) (g : Half) (b : AnswerBody) (s : State) : (askAnswer c i g b s).snt = s.snt := rfl
@[simp] theorem askAnswer_clk (c : Client) (i : Nat) (g : Half) (b : AnswerBody) (s : State) : (askAnswer c i g b s).clk = s.clk := rfl
@[simp] theorem askAnswer_fmn (c : Client) (i : Nat) (g : Half) (b : AnswerBody) (s : State) : (askAnswer c i g b s).fmn = s.fmn := rfl
@[simp] theorem askAnswer_jnw (c : Client) (i : Nat) (g : Half) (b : AnswerBody) (s : State) : (askAnswer c i g b s).jnw = s.jnw := rfl
@[simp] theorem askAnswer_pev (c : Client) (i : Nat) (g : Half) (b : AnswerBody) (s : State) : (askAnswer c i g b s).pev = s.pev := rfl
@[simp] theorem askAnswer_draws (c : Client) (i : Nat) (g : Half) (b : AnswerBody) (s : State) : (askAnswer c i g b s).draws = s.draws := rfl
@[simp] theorem askAnswer_pending (c : Client) (i : Nat) (g : Half) (b : AnswerBody) (s : State) : (askAnswer c i g b s).pending = s.pending := rfl

@[simp] theorem askSlotState_mpt (c : Client) (i : Nat) (b : Byte) (s : State) : (askSlotState c i b s).mpt = { s.mpt with asked := s.mpt.asked ++ [writeOf c (slotAddress s i 0) [b]] } := rfl
@[simp] theorem askSlotState_ssc (c : Client) (i : Nat) (b : Byte) (s : State) : (askSlotState c i b s).ssc = s.ssc := rfl
@[simp] theorem askSlotState_rcx (c : Client) (i : Nat) (b : Byte) (s : State) : (askSlotState c i b s).rcx = s.rcx := rfl
@[simp] theorem askSlotState_ven (c : Client) (i : Nat) (b : Byte) (s : State) : (askSlotState c i b s).ven = s.ven := rfl
@[simp] theorem askSlotState_dnl (c : Client) (i : Nat) (b : Byte) (s : State) : (askSlotState c i b s).dnl = s.dnl := rfl
@[simp] theorem askSlotState_snt (c : Client) (i : Nat) (b : Byte) (s : State) : (askSlotState c i b s).snt = s.snt := rfl
@[simp] theorem askSlotState_clk (c : Client) (i : Nat) (b : Byte) (s : State) : (askSlotState c i b s).clk = s.clk := rfl
@[simp] theorem askSlotState_fmn (c : Client) (i : Nat) (b : Byte) (s : State) : (askSlotState c i b s).fmn = s.fmn := rfl
@[simp] theorem askSlotState_jnw (c : Client) (i : Nat) (b : Byte) (s : State) : (askSlotState c i b s).jnw = s.jnw := rfl
@[simp] theorem askSlotState_pev (c : Client) (i : Nat) (b : Byte) (s : State) : (askSlotState c i b s).pev = s.pev := rfl
@[simp] theorem askSlotState_draws (c : Client) (i : Nat) (b : Byte) (s : State) : (askSlotState c i b s).draws = s.draws := rfl
@[simp] theorem askSlotState_pending (c : Client) (i : Nat) (b : Byte) (s : State) : (askSlotState c i b s).pending = s.pending := rfl

@[simp] theorem setScan_mpt (sc : Scan) (s : State) : (setScan sc s).mpt = s.mpt := rfl
@[simp] theorem setScan_ssc (sc : Scan) (s : State) : (setScan sc s).ssc = { s.ssc with scan := some sc } := rfl
@[simp] theorem setScan_rcx (sc : Scan) (s : State) : (setScan sc s).rcx = s.rcx := rfl
@[simp] theorem setScan_ven (sc : Scan) (s : State) : (setScan sc s).ven = s.ven := rfl
@[simp] theorem setScan_dnl (sc : Scan) (s : State) : (setScan sc s).dnl = s.dnl := rfl
@[simp] theorem setScan_snt (sc : Scan) (s : State) : (setScan sc s).snt = s.snt := rfl
@[simp] theorem setScan_clk (sc : Scan) (s : State) : (setScan sc s).clk = s.clk := rfl
@[simp] theorem setScan_fmn (sc : Scan) (s : State) : (setScan sc s).fmn = s.fmn := rfl
@[simp] theorem setScan_jnw (sc : Scan) (s : State) : (setScan sc s).jnw = s.jnw := rfl
@[simp] theorem setScan_pev (sc : Scan) (s : State) : (setScan sc s).pev = s.pev := rfl
@[simp] theorem setScan_draws (sc : Scan) (s : State) : (setScan sc s).draws = s.draws := rfl
@[simp] theorem setScan_pending (sc : Scan) (s : State) : (setScan sc s).pending = s.pending := rfl

@[simp] theorem serveOn_mpt (sc : Scan) (t : Task) (g : ServeStage) (s : State) : (serveOn sc t g s).mpt = s.mpt := rfl
@[simp] theorem serveOn_ssc (sc : Scan) (t : Task) (g : ServeStage) (s : State) : (serveOn sc t g s).ssc = { s.ssc with scan := some { sc with phase := .serving t g } } := rfl
@[simp] theorem serveOn_rcx (sc : Scan) (t : Task) (g : ServeStage) (s : State) : (serveOn sc t g s).rcx = s.rcx := rfl
@[simp] theorem serveOn_ven (sc : Scan) (t : Task) (g : ServeStage) (s : State) : (serveOn sc t g s).ven = s.ven := rfl
@[simp] theorem serveOn_dnl (sc : Scan) (t : Task) (g : ServeStage) (s : State) : (serveOn sc t g s).dnl = s.dnl := rfl
@[simp] theorem serveOn_snt (sc : Scan) (t : Task) (g : ServeStage) (s : State) : (serveOn sc t g s).snt = s.snt := rfl
@[simp] theorem serveOn_clk (sc : Scan) (t : Task) (g : ServeStage) (s : State) : (serveOn sc t g s).clk = s.clk := rfl
@[simp] theorem serveOn_fmn (sc : Scan) (t : Task) (g : ServeStage) (s : State) : (serveOn sc t g s).fmn = s.fmn := rfl
@[simp] theorem serveOn_jnw (sc : Scan) (t : Task) (g : ServeStage) (s : State) : (serveOn sc t g s).jnw = s.jnw := rfl
@[simp] theorem serveOn_pev (sc : Scan) (t : Task) (g : ServeStage) (s : State) : (serveOn sc t g s).pev = s.pev := rfl
@[simp] theorem serveOn_draws (sc : Scan) (t : Task) (g : ServeStage) (s : State) : (serveOn sc t g s).draws = s.draws := rfl
@[simp] theorem serveOn_pending (sc : Scan) (t : Task) (g : ServeStage) (s : State) : (serveOn sc t g s).pending = s.pending := rfl

@[simp] theorem examine_mpt (sc : Scan) (s : State) : (examine sc s).mpt = { s.mpt with asked := s.mpt.asked ++ [readOf .scan (slotAddress s sc.index 0) 1] } := rfl
@[simp] theorem examine_ssc (sc : Scan) (s : State) : (examine sc s).ssc = { s.ssc with scan := some { sc with phase := .readState } } := rfl
@[simp] theorem examine_rcx (sc : Scan) (s : State) : (examine sc s).rcx = s.rcx := rfl
@[simp] theorem examine_ven (sc : Scan) (s : State) : (examine sc s).ven = s.ven := rfl
@[simp] theorem examine_dnl (sc : Scan) (s : State) : (examine sc s).dnl = s.dnl := rfl
@[simp] theorem examine_snt (sc : Scan) (s : State) : (examine sc s).snt = s.snt := rfl
@[simp] theorem examine_clk (sc : Scan) (s : State) : (examine sc s).clk = s.clk := rfl
@[simp] theorem examine_fmn (sc : Scan) (s : State) : (examine sc s).fmn = s.fmn := rfl
@[simp] theorem examine_jnw (sc : Scan) (s : State) : (examine sc s).jnw = s.jnw := rfl
@[simp] theorem examine_pev (sc : Scan) (s : State) : (examine sc s).pev = s.pev := rfl
@[simp] theorem examine_draws (sc : Scan) (s : State) : (examine sc s).draws = s.draws := rfl
@[simp] theorem examine_pending (sc : Scan) (s : State) : (examine sc s).pending = s.pending := rfl

@[simp] theorem completeTask_mpt (sc : Scan) (g : Half) (b : AnswerBody) (c : Option PowerChange) (s : State) : (completeTask sc g b c s).mpt = { s.mpt with asked := s.mpt.asked ++ [answerOf .scan s sc.index g b] } := rfl
@[simp] theorem completeTask_ssc (sc : Scan) (g : Half) (b : AnswerBody) (c : Option PowerChange) (s : State) : (completeTask sc g b c s).ssc = { s.ssc with scan := some { sc with phase := .writeAnswer g c } } := rfl
@[simp] theorem completeTask_rcx (sc : Scan) (g : Half) (b : AnswerBody) (c : Option PowerChange) (s : State) : (completeTask sc g b c s).rcx = s.rcx := rfl
@[simp] theorem completeTask_ven (sc : Scan) (g : Half) (b : AnswerBody) (c : Option PowerChange) (s : State) : (completeTask sc g b c s).ven = s.ven := rfl
@[simp] theorem completeTask_dnl (sc : Scan) (g : Half) (b : AnswerBody) (c : Option PowerChange) (s : State) : (completeTask sc g b c s).dnl = s.dnl := rfl
@[simp] theorem completeTask_snt (sc : Scan) (g : Half) (b : AnswerBody) (c : Option PowerChange) (s : State) : (completeTask sc g b c s).snt = s.snt := rfl
@[simp] theorem completeTask_clk (sc : Scan) (g : Half) (b : AnswerBody) (c : Option PowerChange) (s : State) : (completeTask sc g b c s).clk = s.clk := rfl
@[simp] theorem completeTask_fmn (sc : Scan) (g : Half) (b : AnswerBody) (c : Option PowerChange) (s : State) : (completeTask sc g b c s).fmn = s.fmn := rfl
@[simp] theorem completeTask_jnw (sc : Scan) (g : Half) (b : AnswerBody) (c : Option PowerChange) (s : State) : (completeTask sc g b c s).jnw = s.jnw := rfl
@[simp] theorem completeTask_pev (sc : Scan) (g : Half) (b : AnswerBody) (c : Option PowerChange) (s : State) : (completeTask sc g b c s).pev = s.pev := rfl
@[simp] theorem completeTask_draws (sc : Scan) (g : Half) (b : AnswerBody) (c : Option PowerChange) (s : State) : (completeTask sc g b c s).draws = s.draws := rfl
@[simp] theorem completeTask_pending (sc : Scan) (g : Half) (b : AnswerBody) (c : Option PowerChange) (s : State) : (completeTask sc g b c s).pending = s.pending := rfl

@[simp] theorem closeScan_mpt (sc : Scan) (s : State) : (closeScan sc s).mpt = s.mpt := rfl
@[simp] theorem closeScan_ssc (sc : Scan) (s : State) : (closeScan sc s).ssc = { s.ssc with scan := none, cursor := cursorAfter sc s } := rfl
@[simp] theorem closeScan_rcx (sc : Scan) (s : State) : (closeScan sc s).rcx = s.rcx := rfl
@[simp] theorem closeScan_ven (sc : Scan) (s : State) : (closeScan sc s).ven = s.ven := rfl
@[simp] theorem closeScan_dnl (sc : Scan) (s : State) : (closeScan sc s).dnl = s.dnl := rfl
@[simp] theorem closeScan_snt (sc : Scan) (s : State) : (closeScan sc s).snt = s.snt := rfl
@[simp] theorem closeScan_clk (sc : Scan) (s : State) : (closeScan sc s).clk = s.clk := rfl
@[simp] theorem closeScan_fmn (sc : Scan) (s : State) : (closeScan sc s).fmn = s.fmn := rfl
@[simp] theorem closeScan_jnw (sc : Scan) (s : State) : (closeScan sc s).jnw = s.jnw := rfl
@[simp] theorem closeScan_pev (sc : Scan) (s : State) : (closeScan sc s).pev = s.pev := rfl
@[simp] theorem closeScan_draws (sc : Scan) (s : State) : (closeScan sc s).draws = s.draws := rfl
@[simp] theorem closeScan_pending (sc : Scan) (s : State) : (closeScan sc s).pending = s.pending := rfl

@[simp] theorem startPoll_mpt (s : State) : (startPoll s).mpt = s.mpt := rfl
@[simp] theorem startPoll_ssc (s : State) : (startPoll s).ssc = { s.ssc with pollTimer := pollPeriod s } := rfl
@[simp] theorem startPoll_rcx (s : State) : (startPoll s).rcx = s.rcx := rfl
@[simp] theorem startPoll_ven (s : State) : (startPoll s).ven = s.ven := rfl
@[simp] theorem startPoll_dnl (s : State) : (startPoll s).dnl = s.dnl := rfl
@[simp] theorem startPoll_snt (s : State) : (startPoll s).snt = s.snt := rfl
@[simp] theorem startPoll_clk (s : State) : (startPoll s).clk = s.clk := rfl
@[simp] theorem startPoll_fmn (s : State) : (startPoll s).fmn = s.fmn := rfl
@[simp] theorem startPoll_jnw (s : State) : (startPoll s).jnw = s.jnw := rfl
@[simp] theorem startPoll_pev (s : State) : (startPoll s).pev = s.pev := rfl
@[simp] theorem startPoll_draws (s : State) : (startPoll s).draws = s.draws := rfl
@[simp] theorem startPoll_pending (s : State) : (startPoll s).pending = s.pending := rfl

@[simp] theorem setSession_mpt (i : Nat) (x : Session) (s : State) : (setSession i x s).mpt = s.mpt := rfl
@[simp] theorem setSession_ssc (i : Nat) (x : Session) (s : State) : (setSession i x s).ssc = s.ssc := rfl
@[simp] theorem setSession_rcx (i : Nat) (x : Session) (s : State) : (setSession i x s).rcx = s.rcx := rfl
@[simp] theorem setSession_ven (i : Nat) (x : Session) (s : State) : (setSession i x s).ven = s.ven := rfl
@[simp] theorem setSession_dnl (i : Nat) (x : Session) (s : State) : (setSession i x s).dnl = s.dnl := rfl
@[simp] theorem setSession_snt (i : Nat) (x : Session) (s : State) : (setSession i x s).snt = s.snt := rfl
@[simp] theorem setSession_clk (i : Nat) (x : Session) (s : State) : (setSession i x s).clk = { s.clk with hold := s.clk.hold.map fun t => if t.slot = i then { t with session := x } else t } := rfl
@[simp] theorem setSession_fmn (i : Nat) (x : Session) (s : State) : (setSession i x s).fmn = s.fmn := rfl
@[simp] theorem setSession_jnw (i : Nat) (x : Session) (s : State) : (setSession i x s).jnw = s.jnw := rfl
@[simp] theorem setSession_pev (i : Nat) (x : Session) (s : State) : (setSession i x s).pev = s.pev := rfl
@[simp] theorem setSession_draws (i : Nat) (x : Session) (s : State) : (setSession i x s).draws = s.draws := rfl
@[simp] theorem setSession_pending (i : Nat) (x : Session) (s : State) : (setSession i x s).pending = s.pending := rfl

@[simp] theorem turnOff_mpt (s : State) : (turnOff s).mpt = s.mpt := rfl
@[simp] theorem turnOff_ssc (s : State) : (turnOff s).ssc = s.ssc := rfl
@[simp] theorem turnOff_rcx (s : State) : (turnOff s).rcx = s.rcx := rfl
@[simp] theorem turnOff_ven (s : State) : (turnOff s).ven = s.ven := rfl
@[simp] theorem turnOff_dnl (s : State) : (turnOff s).dnl = s.dnl := rfl
@[simp] theorem turnOff_snt (s : State) : (turnOff s).snt = s.snt := rfl
@[simp] theorem turnOff_clk (s : State) : (turnOff s).clk = { s.clk with holder := .none } := rfl
@[simp] theorem turnOff_fmn (s : State) : (turnOff s).fmn = { s.fmn with detected := false } := rfl
@[simp] theorem turnOff_jnw (s : State) : (turnOff s).jnw = s.jnw := rfl
@[simp] theorem turnOff_pev (s : State) : (turnOff s).pev = s.pev := rfl
@[simp] theorem turnOff_draws (s : State) : (turnOff s).draws = s.draws := rfl
@[simp] theorem turnOff_pending (s : State) : (turnOff s).pending = s.pending := rfl

@[simp] theorem sendWake_mpt (s : State) : (sendWake s).mpt = s.mpt := rfl
@[simp] theorem sendWake_ssc (s : State) : (sendWake s).ssc = s.ssc := rfl
@[simp] theorem sendWake_rcx (s : State) : (sendWake s).rcx = s.rcx := rfl
@[simp] theorem sendWake_ven (s : State) : (sendWake s).ven = s.ven := rfl
@[simp] theorem sendWake_dnl (s : State) : (sendWake s).dnl = s.dnl := rfl
@[simp] theorem sendWake_snt (s : State) : (sendWake s).snt = s.snt := rfl
@[simp] theorem sendWake_clk (s : State) : (sendWake s).clk = { s.clk with tries := 1, interval := presenceInterval s } := rfl
@[simp] theorem sendWake_fmn (s : State) : (sendWake s).fmn = s.fmn := rfl
@[simp] theorem sendWake_jnw (s : State) : (sendWake s).jnw = s.jnw := rfl
@[simp] theorem sendWake_pev (s : State) : (sendWake s).pev = s.pev := rfl
@[simp] theorem sendWake_draws (s : State) : (sendWake s).draws = s.draws := rfl
@[simp] theorem sendWake_pending (s : State) : (sendWake s).pending = s.pending := rfl

@[simp] theorem sendTry_mpt (n : Nat) (s : State) : (sendTry n s).mpt = s.mpt := rfl
@[simp] theorem sendTry_ssc (n : Nat) (s : State) : (sendTry n s).ssc = s.ssc := rfl
@[simp] theorem sendTry_rcx (n : Nat) (s : State) : (sendTry n s).rcx = s.rcx := rfl
@[simp] theorem sendTry_ven (n : Nat) (s : State) : (sendTry n s).ven = s.ven := rfl
@[simp] theorem sendTry_dnl (n : Nat) (s : State) : (sendTry n s).dnl = s.dnl := rfl
@[simp] theorem sendTry_snt (n : Nat) (s : State) : (sendTry n s).snt = s.snt := rfl
@[simp] theorem sendTry_clk (n : Nat) (s : State) : (sendTry n s).clk = { s.clk with tries := n } := rfl
@[simp] theorem sendTry_fmn (n : Nat) (s : State) : (sendTry n s).fmn = s.fmn := rfl
@[simp] theorem sendTry_jnw (n : Nat) (s : State) : (sendTry n s).jnw = s.jnw := rfl
@[simp] theorem sendTry_pev (n : Nat) (s : State) : (sendTry n s).pev = s.pev := rfl
@[simp] theorem sendTry_draws (n : Nat) (s : State) : (sendTry n s).draws = s.draws := rfl
@[simp] theorem sendTry_pending (n : Nat) (s : State) : (sendTry n s).pending = s.pending := rfl

@[simp] theorem sendUpdate_mpt (u : SeenUpdate) (s : State) : (sendUpdate u s).mpt = s.mpt := rfl
@[simp] theorem sendUpdate_ssc (u : SeenUpdate) (s : State) : (sendUpdate u s).ssc = s.ssc := rfl
@[simp] theorem sendUpdate_rcx (u : SeenUpdate) (s : State) : (sendUpdate u s).rcx = s.rcx := rfl
@[simp] theorem sendUpdate_ven (u : SeenUpdate) (s : State) : (sendUpdate u s).ven = s.ven := rfl
@[simp] theorem sendUpdate_dnl (u : SeenUpdate) (s : State) : (sendUpdate u s).dnl = s.dnl := rfl
@[simp] theorem sendUpdate_snt (u : SeenUpdate) (s : State) : (sendUpdate u s).snt = { s.snt with updates := s.snt.updates ++ [u] } := rfl
@[simp] theorem sendUpdate_clk (u : SeenUpdate) (s : State) : (sendUpdate u s).clk = s.clk := rfl
@[simp] theorem sendUpdate_fmn (u : SeenUpdate) (s : State) : (sendUpdate u s).fmn = s.fmn := rfl
@[simp] theorem sendUpdate_jnw (u : SeenUpdate) (s : State) : (sendUpdate u s).jnw = s.jnw := rfl
@[simp] theorem sendUpdate_pev (u : SeenUpdate) (s : State) : (sendUpdate u s).pev = s.pev := rfl
@[simp] theorem sendUpdate_draws (u : SeenUpdate) (s : State) : (sendUpdate u s).draws = s.draws := rfl
@[simp] theorem sendUpdate_pending (u : SeenUpdate) (s : State) : (sendUpdate u s).pending = s.pending := rfl

@[simp] theorem disownClaims_mpt (s : State) : (disownClaims s).mpt = s.mpt := rfl
@[simp] theorem disownClaims_ssc (s : State) : (disownClaims s).ssc = s.ssc := rfl
@[simp] theorem disownClaims_rcx (s : State) : (disownClaims s).rcx = s.rcx := rfl
@[simp] theorem disownClaims_ven (s : State) : (disownClaims s).ven = s.ven := rfl
@[simp] theorem disownClaims_dnl (s : State) : (disownClaims s).dnl = s.dnl := rfl
@[simp] theorem disownClaims_snt (s : State) : (disownClaims s).snt = s.snt := rfl
@[simp] theorem disownClaims_clk (s : State) : (disownClaims s).clk = s.clk := rfl
@[simp] theorem disownClaims_fmn (s : State) : (disownClaims s).fmn = s.fmn := rfl
@[simp] theorem disownClaims_jnw (s : State) : (disownClaims s).jnw = { s.jnw with queue := s.jnw.queue.map disownJob } := rfl
@[simp] theorem disownClaims_pev (s : State) : (disownClaims s).pev = s.pev := rfl
@[simp] theorem disownClaims_draws (s : State) : (disownClaims s).draws = s.draws := rfl
@[simp] theorem disownClaims_pending (s : State) : (disownClaims s).pending = s.pending := rfl

@[simp] theorem orphanClaims_mpt (e : EntryContents) (s : State) : (orphanClaims e s).mpt = s.mpt := rfl
@[simp] theorem orphanClaims_ssc (e : EntryContents) (s : State) : (orphanClaims e s).ssc = s.ssc := rfl
@[simp] theorem orphanClaims_rcx (e : EntryContents) (s : State) : (orphanClaims e s).rcx = s.rcx := rfl
@[simp] theorem orphanClaims_ven (e : EntryContents) (s : State) : (orphanClaims e s).ven = s.ven := rfl
@[simp] theorem orphanClaims_dnl (e : EntryContents) (s : State) : (orphanClaims e s).dnl = s.dnl := rfl
@[simp] theorem orphanClaims_snt (e : EntryContents) (s : State) : (orphanClaims e s).snt = s.snt := rfl
@[simp] theorem orphanClaims_clk (e : EntryContents) (s : State) : (orphanClaims e s).clk = s.clk := rfl
@[simp] theorem orphanClaims_fmn (e : EntryContents) (s : State) : (orphanClaims e s).fmn = s.fmn := rfl
@[simp] theorem orphanClaims_jnw (e : EntryContents) (s : State) : (orphanClaims e s).jnw = { s.jnw with queue := s.jnw.queue.map (orphanJob e) } := rfl
@[simp] theorem orphanClaims_pev (e : EntryContents) (s : State) : (orphanClaims e s).pev = s.pev := rfl
@[simp] theorem orphanClaims_draws (e : EntryContents) (s : State) : (orphanClaims e s).draws = s.draws := rfl
@[simp] theorem orphanClaims_pending (e : EntryContents) (s : State) : (orphanClaims e s).pending = s.pending := rfl

@[simp] theorem takeEntry_mpt (r : Ring) (s : State) : (takeEntry r s).mpt = s.mpt := rfl
@[simp] theorem takeEntry_ssc (r : Ring) (s : State) : (takeEntry r s).ssc = s.ssc := rfl
@[simp] theorem takeEntry_rcx (r : Ring) (s : State) : (takeEntry r s).rcx = s.rcx := rfl
@[simp] theorem takeEntry_ven (r : Ring) (s : State) : (takeEntry r s).ven = s.ven := rfl
@[simp] theorem takeEntry_dnl (r : Ring) (s : State) : (takeEntry r s).dnl = s.dnl := rfl
@[simp] theorem takeEntry_snt (r : Ring) (s : State) : (takeEntry r s).snt = s.snt := rfl
@[simp] theorem takeEntry_clk (r : Ring) (s : State) : (takeEntry r s).clk = s.clk := rfl
@[simp] theorem takeEntry_fmn (r : Ring) (s : State) : (takeEntry r s).fmn = s.fmn := rfl
@[simp] theorem takeEntry_jnw (r : Ring) (s : State) : (takeEntry r s).jnw = { s.jnw with cursor := (s.jnw.cursor + 1) % r.entries, nextSerial := s.jnw.nextSerial + 1 } := rfl
@[simp] theorem takeEntry_pev (r : Ring) (s : State) : (takeEntry r s).pev = s.pev := rfl
@[simp] theorem takeEntry_draws (r : Ring) (s : State) : (takeEntry r s).draws = s.draws := rfl
@[simp] theorem takeEntry_pending (r : Ring) (s : State) : (takeEntry r s).pending = s.pending := rfl

@[simp] theorem wakeToRun_mpt (s : State) : (wakeToRun s).mpt = s.mpt := rfl
@[simp] theorem wakeToRun_ssc (s : State) : (wakeToRun s).ssc = s.ssc := rfl
@[simp] theorem wakeToRun_rcx (s : State) : (wakeToRun s).rcx = s.rcx := rfl
@[simp] theorem wakeToRun_ven (s : State) : (wakeToRun s).ven = s.ven := rfl
@[simp] theorem wakeToRun_dnl (s : State) : (wakeToRun s).dnl = s.dnl := rfl
@[simp] theorem wakeToRun_snt (s : State) : (wakeToRun s).snt = s.snt := rfl
@[simp] theorem wakeToRun_clk (s : State) : (wakeToRun s).clk = s.clk := rfl
@[simp] theorem wakeToRun_fmn (s : State) : (wakeToRun s).fmn = s.fmn := rfl
@[simp] theorem wakeToRun_jnw (s : State) : (wakeToRun s).jnw = s.jnw := rfl
@[simp] theorem wakeToRun_pev (s : State) : (wakeToRun s).pev = { s.pev with power := .run, wakeTimer := none, dozeJob := none, cardNear := false, senseTimer := false, senseReference := none, events := s.pev.events ||| evWoke } := rfl
@[simp] theorem wakeToRun_draws (s : State) : (wakeToRun s).draws = s.draws := rfl
@[simp] theorem wakeToRun_pending (s : State) : (wakeToRun s).pending = s.pending := rfl

@[simp] theorem handSetup_mpt (b : Setup) (s : State) : (handSetup b s).mpt = s.mpt := rfl
@[simp] theorem handSetup_ssc (b : Setup) (s : State) : (handSetup b s).ssc = { s.ssc with sheet := some b.sheet, pollInterval := b.pollInterval, cursor := 0 } := rfl
@[simp] theorem handSetup_rcx (b : Setup) (s : State) : (handSetup b s).rcx = { s.rcx with conductor := b.conductor } := rfl
@[simp] theorem handSetup_ven (b : Setup) (s : State) : (handSetup b s).ven = s.ven := rfl
@[simp] theorem handSetup_dnl (b : Setup) (s : State) : (handSetup b s).dnl = s.dnl := rfl
@[simp] theorem handSetup_snt (b : Setup) (s : State) : (handSetup b s).snt = s.snt := rfl
@[simp] theorem handSetup_clk (b : Setup) (s : State) : (handSetup b s).clk = s.clk := rfl
@[simp] theorem handSetup_fmn (b : Setup) (s : State) : (handSetup b s).fmn = { s.fmn with stopOnOpen := b.stopOnOpen, reportOpen := b.reportOpen, reportOvercurrent := b.reportOvercurrent, reportWarning := b.reportWarning, reportShutdown := b.reportShutdown } := rfl
@[simp] theorem handSetup_jnw (b : Setup) (s : State) : (handSetup b s).jnw = { s.jnw with ring := some b.ring, cursor := 0 } := rfl
@[simp] theorem handSetup_pev (b : Setup) (s : State) : (handSetup b s).pev = s.pev := rfl
@[simp] theorem handSetup_draws (b : Setup) (s : State) : (handSetup b s).draws = s.draws := rfl
@[simp] theorem handSetup_pending (b : Setup) (s : State) : (handSetup b s).pending = s.pending := rfl

@[simp] theorem liftReducedDuty_mpt (s : State) : (liftReducedDuty s).mpt = s.mpt := rfl
@[simp] theorem liftReducedDuty_ssc (s : State) : (liftReducedDuty s).ssc = s.ssc := rfl
@[simp] theorem liftReducedDuty_rcx (s : State) : (liftReducedDuty s).rcx = s.rcx := rfl
@[simp] theorem liftReducedDuty_ven (s : State) : (liftReducedDuty s).ven = s.ven := rfl
@[simp] theorem liftReducedDuty_dnl (s : State) : (liftReducedDuty s).dnl = s.dnl := rfl
@[simp] theorem liftReducedDuty_snt (s : State) : (liftReducedDuty s).snt = s.snt := rfl
@[simp] theorem liftReducedDuty_clk (s : State) : (liftReducedDuty s).clk = s.clk := rfl
@[simp] theorem liftReducedDuty_fmn (s : State) : (liftReducedDuty s).fmn = { s.fmn with reducedDuty := false } := rfl
@[simp] theorem liftReducedDuty_jnw (s : State) : (liftReducedDuty s).jnw = s.jnw := rfl
@[simp] theorem liftReducedDuty_pev (s : State) : (liftReducedDuty s).pev = s.pev := rfl
@[simp] theorem liftReducedDuty_draws (s : State) : (liftReducedDuty s).draws = s.draws := rfl
@[simp] theorem liftReducedDuty_pending (s : State) : (liftReducedDuty s).pending = s.pending := rfl

end Sys2Proof.Machine
end

