-- ==== Sys2Proof/Laws/Ops.lean ====
section
/-! SUPPORT. What the shared operations leave alone, each lemma once for each field, and what the arbitration of the bus
does. -/

namespace Sys2Proof.Machine

@[simp] theorem queueAsked_keeps (s : State) :
    (queueAsked s).ssc = s.ssc ∧ (queueAsked s).rcx = s.rcx ∧ (queueAsked s).ven = s.ven ∧
    (queueAsked s).dnl = s.dnl ∧ (queueAsked s).snt = s.snt ∧ (queueAsked s).clk = s.clk ∧
    (queueAsked s).fmn = s.fmn ∧ (queueAsked s).jnw = s.jnw ∧ (queueAsked s).pev = s.pev ∧
    (queueAsked s).pending = s.pending := by
  simp only [queueAsked]
  simp

@[simp] theorem launch_keeps (s : State) :
    (launch s).ssc = s.ssc ∧ (launch s).rcx = s.rcx ∧ (launch s).ven = s.ven ∧ (launch s).dnl = s.dnl ∧
    (launch s).snt = s.snt ∧ (launch s).clk = s.clk ∧ (launch s).fmn = s.fmn ∧ (launch s).jnw = s.jnw ∧
    (launch s).pev = s.pev ∧ (launch s).draws = s.draws ∧ (launch s).pending = s.pending := by
  simp only [launch]
  repeat' split
  all_goals simp

@[simp] theorem arbitrate_keeps (s : State) :
    (arbitrate s).ssc = s.ssc ∧ (arbitrate s).rcx = s.rcx ∧ (arbitrate s).ven = s.ven ∧ (arbitrate s).dnl = s.dnl ∧
    (arbitrate s).snt = s.snt ∧ (arbitrate s).clk = s.clk ∧ (arbitrate s).fmn = s.fmn ∧ (arbitrate s).jnw = s.jnw ∧
    (arbitrate s).pev = s.pev ∧ (arbitrate s).pending = s.pending := by
  simp only [arbitrate]
  simp

@[simp] theorem reportLatch_keeps (w : Bool) (r : Report) (s : State) :
    (reportLatch w r s).mpt = s.mpt ∧ (reportLatch w r s).ssc = s.ssc ∧ (reportLatch w r s).rcx = s.rcx ∧
    (reportLatch w r s).ven = s.ven ∧ (reportLatch w r s).dnl = s.dnl ∧ (reportLatch w r s).snt = s.snt ∧
    (reportLatch w r s).clk = s.clk ∧ (reportLatch w r s).fmn = s.fmn ∧ (reportLatch w r s).jnw = s.jnw ∧
    (reportLatch w r s).draws = s.draws ∧ (reportLatch w r s).pending = s.pending := by
  simp only [reportLatch]
  repeat' split
  all_goals simp

@[simp] theorem latchOpen_keeps (s : State) :
    (latchOpen s).mpt = s.mpt ∧ (latchOpen s).ssc = s.ssc ∧ (latchOpen s).rcx = s.rcx ∧ (latchOpen s).ven = s.ven ∧
    (latchOpen s).dnl = s.dnl ∧ (latchOpen s).snt = s.snt ∧ (latchOpen s).clk = s.clk ∧ (latchOpen s).jnw = s.jnw ∧
    (latchOpen s).draws = s.draws ∧ (latchOpen s).pending = s.pending := by
  simp only [latchOpen]
  simp

@[simp] theorem latchOvercurrent_keeps (s : State) :
    (latchOvercurrent s).mpt = s.mpt ∧ (latchOvercurrent s).ssc = s.ssc ∧ (latchOvercurrent s).rcx = s.rcx ∧
    (latchOvercurrent s).ven = s.ven ∧ (latchOvercurrent s).dnl = s.dnl ∧ (latchOvercurrent s).snt = s.snt ∧
    (latchOvercurrent s).clk = s.clk ∧ (latchOvercurrent s).jnw = s.jnw ∧ (latchOvercurrent s).draws = s.draws ∧
    (latchOvercurrent s).pending = s.pending := by
  simp only [latchOvercurrent]
  simp

@[simp] theorem latchWarning_keeps (s : State) :
    (latchWarning s).mpt = s.mpt ∧ (latchWarning s).ssc = s.ssc ∧ (latchWarning s).rcx = s.rcx ∧
    (latchWarning s).ven = s.ven ∧ (latchWarning s).dnl = s.dnl ∧ (latchWarning s).snt = s.snt ∧
    (latchWarning s).clk = s.clk ∧ (latchWarning s).jnw = s.jnw ∧ (latchWarning s).draws = s.draws ∧
    (latchWarning s).pending = s.pending := by
  simp only [latchWarning]
  simp

@[simp] theorem latchShutdown_keeps (s : State) :
    (latchShutdown s).mpt = s.mpt ∧ (latchShutdown s).ssc = s.ssc ∧ (latchShutdown s).rcx = s.rcx ∧
    (latchShutdown s).ven = s.ven ∧ (latchShutdown s).dnl = s.dnl ∧ (latchShutdown s).snt = s.snt ∧
    (latchShutdown s).clk = s.clk ∧ (latchShutdown s).jnw = s.jnw ∧ (latchShutdown s).draws = s.draws ∧
    (latchShutdown s).pending = s.pending := by
  simp only [latchShutdown]
  simp

@[simp] theorem enterHalted_keeps (c : HaltCause) (s : State) :
    (enterHalted c s).rcx = s.rcx ∧ (enterHalted c s).ven = s.ven ∧ (enterHalted c s).dnl = s.dnl ∧
    (enterHalted c s).snt = s.snt ∧ (enterHalted c s).clk = s.clk ∧ (enterHalted c s).fmn = s.fmn ∧
    (enterHalted c s).jnw = s.jnw ∧ (enterHalted c s).draws = s.draws ∧ (enterHalted c s).pending = s.pending := by
  simp only [enterHalted]
  simp

@[simp] theorem serveNext_keeps (s : State) :
    (serveNext s).ssc = s.ssc ∧ (serveNext s).rcx = s.rcx ∧ (serveNext s).ven = s.ven ∧ (serveNext s).dnl = s.dnl ∧
    (serveNext s).snt = s.snt ∧ (serveNext s).clk = s.clk ∧ (serveNext s).fmn = s.fmn ∧ (serveNext s).pev = s.pev ∧
    (serveNext s).draws = s.draws ∧ (serveNext s).pending = s.pending := by
  simp only [serveNext]
  repeat' split
  all_goals simp

@[simp] theorem arrive_keeps (js : List JournalJob) (s : State) :
    (arrive js s).ssc = s.ssc ∧ (arrive js s).rcx = s.rcx ∧ (arrive js s).ven = s.ven ∧ (arrive js s).dnl = s.dnl ∧
    (arrive js s).snt = s.snt ∧ (arrive js s).clk = s.clk ∧ (arrive js s).fmn = s.fmn ∧ (arrive js s).pev = s.pev ∧
    (arrive js s).draws = s.draws ∧ (arrive js s).pending = s.pending := by
  simp only [arrive]
  simp

@[simp] theorem popJob_keeps (s : State) :
    (popJob s).ssc = s.ssc ∧ (popJob s).rcx = s.rcx ∧ (popJob s).ven = s.ven ∧ (popJob s).dnl = s.dnl ∧
    (popJob s).snt = s.snt ∧ (popJob s).clk = s.clk ∧ (popJob s).fmn = s.fmn ∧ (popJob s).pev = s.pev ∧
    (popJob s).draws = s.draws ∧ (popJob s).pending = s.pending := by
  simp only [popJob]
  simp

@[simp] theorem countMissed_keeps (k : EntryKind) (s : State) :
    (countMissed k s).mpt = s.mpt ∧ (countMissed k s).ssc = s.ssc ∧ (countMissed k s).rcx = s.rcx ∧
    (countMissed k s).ven = s.ven ∧ (countMissed k s).dnl = s.dnl ∧ (countMissed k s).snt = s.snt ∧
    (countMissed k s).clk = s.clk ∧ (countMissed k s).fmn = s.fmn ∧ (countMissed k s).pev = s.pev ∧
    (countMissed k s).draws = s.draws ∧ (countMissed k s).pending = s.pending := by
  simp only [countMissed]
  repeat' split
  all_goals simp

@[simp] theorem afterScan_keeps (s : State) :
    (afterScan s).mpt = s.mpt ∧ (afterScan s).rcx = s.rcx ∧ (afterScan s).ven = s.ven ∧ (afterScan s).dnl = s.dnl ∧
    (afterScan s).snt = s.snt ∧ (afterScan s).clk = s.clk ∧ (afterScan s).fmn = s.fmn ∧ (afterScan s).jnw = s.jnw ∧
    (afterScan s).draws = s.draws ∧ (afterScan s).pending = s.pending := by
  simp only [afterScan]
  repeat' split
  all_goals simp

@[simp] theorem beginScan_keeps (s : State) :
    (beginScan s).rcx = s.rcx ∧ (beginScan s).ven = s.ven ∧ (beginScan s).dnl = s.dnl ∧ (beginScan s).snt = s.snt ∧
    (beginScan s).clk = s.clk ∧ (beginScan s).fmn = s.fmn ∧ (beginScan s).jnw = s.jnw ∧
    (beginScan s).draws = s.draws ∧ (beginScan s).pending = s.pending := by
  simp only [beginScan]
  repeat' split
  all_goals simp

@[simp] theorem endScan_keeps (sc : Scan) (s : State) :
    (endScan sc s).rcx = s.rcx ∧ (endScan sc s).ven = s.ven ∧ (endScan sc s).dnl = s.dnl ∧
    (endScan sc s).snt = s.snt ∧ (endScan sc s).clk = s.clk ∧ (endScan sc s).fmn = s.fmn ∧
    (endScan sc s).jnw = s.jnw ∧ (endScan sc s).draws = s.draws ∧ (endScan sc s).pending = s.pending := by
  simp only [endScan]
  repeat' split
  all_goals simp

@[simp] theorem goOn_keeps (sc : Scan) (s : State) :
    (goOn sc s).rcx = s.rcx ∧ (goOn sc s).ven = s.ven ∧ (goOn sc s).dnl = s.dnl ∧ (goOn sc s).snt = s.snt ∧
    (goOn sc s).clk = s.clk ∧ (goOn sc s).fmn = s.fmn ∧ (goOn sc s).jnw = s.jnw ∧ (goOn sc s).draws = s.draws ∧
    (goOn sc s).pending = s.pending := by
  simp only [goOn]
  repeat' split
  all_goals simp

@[simp] theorem takeSlot_keeps (sc : Scan) (g : Half) (p : Parsed) (s : State) :
    (takeSlot sc g p s).rcx = s.rcx ∧ (takeSlot sc g p s).ven = s.ven ∧ (takeSlot sc g p s).dnl = s.dnl ∧
    (takeSlot sc g p s).snt = s.snt ∧ (takeSlot sc g p s).clk = s.clk ∧ (takeSlot sc g p s).fmn = s.fmn ∧
    (takeSlot sc g p s).jnw = s.jnw ∧ (takeSlot sc g p s).draws = s.draws ∧ (takeSlot sc g p s).pending = s.pending := by
  simp only [takeSlot]
  repeat' split
  all_goals simp

@[simp] theorem finishFieldTest_keeps (r : FieldTestResult) (s : State) :
    (finishFieldTest r s).rcx = s.rcx ∧ (finishFieldTest r s).ven = s.ven ∧ (finishFieldTest r s).dnl = s.dnl ∧
    (finishFieldTest r s).snt = s.snt ∧ (finishFieldTest r s).clk = s.clk ∧ (finishFieldTest r s).fmn = s.fmn ∧
    (finishFieldTest r s).jnw = s.jnw ∧ (finishFieldTest r s).pev = s.pev ∧ (finishFieldTest r s).draws = s.draws ∧
    (finishFieldTest r s).pending = s.pending := by
  simp only [finishFieldTest]
  repeat' split
  all_goals simp

@[simp] theorem scanAfterCheck_keeps (s : State) :
    (scanAfterCheck s).rcx = s.rcx ∧ (scanAfterCheck s).ven = s.ven ∧ (scanAfterCheck s).dnl = s.dnl ∧
    (scanAfterCheck s).snt = s.snt ∧ (scanAfterCheck s).clk = s.clk ∧ (scanAfterCheck s).fmn = s.fmn ∧
    (scanAfterCheck s).jnw = s.jnw ∧ (scanAfterCheck s).draws = s.draws ∧ (scanAfterCheck s).pending = s.pending := by
  simp only [scanAfterCheck]
  repeat' split
  all_goals simp

@[simp] theorem abandonPassive_keeps (r : FieldTestResult) (s : State) :
    (abandonPassive r s).rcx = s.rcx ∧ (abandonPassive r s).ven = s.ven ∧ (abandonPassive r s).dnl = s.dnl ∧
    (abandonPassive r s).snt = s.snt ∧ (abandonPassive r s).clk = s.clk ∧ (abandonPassive r s).jnw = s.jnw ∧
    (abandonPassive r s).draws = s.draws ∧ (abandonPassive r s).pending = s.pending := by
  simp only [abandonPassive]
  repeat' split
  all_goals simp

@[simp] theorem beginDozeCheck_keeps (p : Nat) (s : State) :
    (beginDozeCheck p s).rcx = s.rcx ∧ (beginDozeCheck p s).ven = s.ven ∧ (beginDozeCheck p s).dnl = s.dnl ∧
    (beginDozeCheck p s).snt = s.snt ∧ (beginDozeCheck p s).clk = s.clk ∧ (beginDozeCheck p s).jnw = s.jnw ∧
    (beginDozeCheck p s).draws = s.draws ∧ (beginDozeCheck p s).pending = s.pending := by
  simp only [beginDozeCheck]
  repeat' split
  all_goals simp

@[simp] theorem turnOn_keeps (h : FieldHolder) (s : State) :
    (turnOn h s).rcx = s.rcx ∧ (turnOn h s).ven = s.ven ∧ (turnOn h s).dnl = s.dnl ∧ (turnOn h s).snt = s.snt ∧
    (turnOn h s).jnw = s.jnw ∧ (turnOn h s).pending = s.pending := by
  simp only [turnOn]
  simp

@[simp] theorem handOver_keeps (t : HeldTask) (e : SessionEnd) (s : State) :
    (handOver t e s).ssc = s.ssc ∧ (handOver t e s).rcx = s.rcx ∧ (handOver t e s).ven = s.ven ∧
    (handOver t e s).dnl = s.dnl ∧ (handOver t e s).snt = s.snt ∧ (handOver t e s).fmn = s.fmn ∧
    (handOver t e s).jnw = s.jnw ∧ (handOver t e s).pev = s.pev ∧ (handOver t e s).draws = s.draws ∧
    (handOver t e s).pending = s.pending := by
  simp only [handOver]
  simp

@[simp] theorem releaseHead_keeps (s : State) :
    (releaseHead s).mpt = s.mpt ∧ (releaseHead s).ssc = s.ssc ∧ (releaseHead s).rcx = s.rcx ∧
    (releaseHead s).ven = s.ven ∧ (releaseHead s).dnl = s.dnl ∧ (releaseHead s).snt = s.snt ∧
    (releaseHead s).jnw = s.jnw ∧ (releaseHead s).pev = s.pev ∧ (releaseHead s).draws = s.draws ∧
    (releaseHead s).pending = s.pending := by
  simp only [releaseHead]
  repeat' split
  all_goals simp

@[simp] theorem closeHead_keeps (t : HeldTask) (e : SessionEnd) (o : Owed) (s : State) :
    (closeHead t e o s).ssc = s.ssc ∧ (closeHead t e o s).rcx = s.rcx ∧ (closeHead t e o s).ven = s.ven ∧
    (closeHead t e o s).dnl = s.dnl ∧ (closeHead t e o s).snt = s.snt ∧ (closeHead t e o s).jnw = s.jnw ∧
    (closeHead t e o s).pev = s.pev ∧ (closeHead t e o s).draws = s.draws ∧ (closeHead t e o s).pending = s.pending := by
  simp only [closeHead]
  repeat' split
  all_goals simp

@[simp] theorem grantHead_keeps (t : HeldTask) (s : State) :
    (grantHead t s).rcx = s.rcx ∧ (grantHead t s).ven = s.ven ∧ (grantHead t s).dnl = s.dnl ∧
    (grantHead t s).snt = s.snt ∧ (grantHead t s).jnw = s.jnw ∧ (grantHead t s).pending = s.pending := by
  simp only [grantHead]
  simp

@[simp] theorem beginSession_keeps (t : HeldTask) (s : State) :
    (beginSession t s).rcx = s.rcx ∧ (beginSession t s).ven = s.ven ∧ (beginSession t s).dnl = s.dnl ∧
    (beginSession t s).snt = s.snt ∧ (beginSession t s).jnw = s.jnw ∧ (beginSession t s).pending = s.pending := by
  simp only [beginSession]
  repeat' split
  all_goals simp

@[simp] theorem beginHead_keeps (s : State) :
    (beginHead s).rcx = s.rcx ∧ (beginHead s).ven = s.ven ∧ (beginHead s).dnl = s.dnl ∧ (beginHead s).snt = s.snt ∧
    (beginHead s).jnw = s.jnw ∧ (beginHead s).pending = s.pending := by
  simp only [beginHead]
  repeat' split
  all_goals simp

@[simp] theorem leaveHold_keeps (i : Nat) (s : State) :
    (leaveHold i s).rcx = s.rcx ∧ (leaveHold i s).ven = s.ven ∧ (leaveHold i s).dnl = s.dnl ∧
    (leaveHold i s).snt = s.snt ∧ (leaveHold i s).jnw = s.jnw ∧ (leaveHold i s).pending = s.pending := by
  simp only [leaveHold]
  repeat' split
  all_goals simp

@[simp] theorem endAsking_keeps (t : HeldTask) (c : Completion) (s : State) :
    (endAsking t c s).ssc = s.ssc ∧ (endAsking t c s).rcx = s.rcx ∧ (endAsking t c s).ven = s.ven ∧
    (endAsking t c s).dnl = s.dnl ∧ (endAsking t c s).snt = s.snt ∧ (endAsking t c s).pev = s.pev ∧
    (endAsking t c s).draws = s.draws ∧ (endAsking t c s).pending = s.pending := by
  simp only [endAsking]
  simp

@[simp] theorem endDeciding_keeps (t : HeldTask) (p : RidePlan) (c : Completion) (v : VoidCause) (s : State) :
    (endDeciding t p c v s).ssc = s.ssc ∧ (endDeciding t p c v s).rcx = s.rcx ∧ (endDeciding t p c v s).ven = s.ven ∧
    (endDeciding t p c v s).dnl = s.dnl ∧ (endDeciding t p c v s).snt = s.snt ∧ (endDeciding t p c v s).pev = s.pev ∧
    (endDeciding t p c v s).draws = s.draws ∧ (endDeciding t p c v s).pending = s.pending := by
  simp only [endDeciding]
  simp

@[simp] theorem settleStamp_keeps (t : HeldTask) (d : Draft) (p : RidePlan) (o : StampOutcome) (s : State) :
    (settleStamp t d p o s).ssc = s.ssc ∧ (settleStamp t d p o s).rcx = s.rcx ∧ (settleStamp t d p o s).ven = s.ven ∧
    (settleStamp t d p o s).dnl = s.dnl ∧ (settleStamp t d p o s).pev = s.pev ∧
    (settleStamp t d p o s).draws = s.draws ∧ (settleStamp t d p o s).pending = s.pending := by
  simp only [settleStamp]
  repeat' split
  all_goals simp

@[simp] theorem afterPulse_keeps (s : State) :
    (afterPulse s).rcx = s.rcx ∧ (afterPulse s).ven = s.ven ∧ (afterPulse s).dnl = s.dnl ∧
    (afterPulse s).snt = s.snt ∧ (afterPulse s).jnw = s.jnw ∧ (afterPulse s).pending = s.pending := by
  simp only [afterPulse]
  repeat' split
  all_goals simp

@[simp] theorem fieldFailed_keeps (t : HeldTask) (s : State) :
    (fieldFailed t s).ssc = s.ssc ∧ (fieldFailed t s).rcx = s.rcx ∧ (fieldFailed t s).ven = s.ven ∧
    (fieldFailed t s).dnl = s.dnl ∧ (fieldFailed t s).pev = s.pev ∧ (fieldFailed t s).draws = s.draws ∧
    (fieldFailed t s).pending = s.pending := by
  simp only [fieldFailed]
  repeat' split
  all_goals simp

@[simp] theorem forceOff_keeps (s : State) :
    (forceOff s).rcx = s.rcx ∧ (forceOff s).ven = s.ven ∧ (forceOff s).dnl = s.dnl ∧ (forceOff s).pending = s.pending := by
  simp only [forceOff]
  repeat' split
  all_goals simp

@[simp] theorem warm_keeps (s : State) :
    (warm s).mpt = s.mpt ∧ (warm s).ssc = s.ssc ∧ (warm s).rcx = s.rcx ∧ (warm s).ven = s.ven ∧
    (warm s).dnl = s.dnl ∧ (warm s).snt = s.snt ∧ (warm s).clk = s.clk ∧ (warm s).jnw = s.jnw ∧
    (warm s).draws = s.draws ∧ (warm s).pending = s.pending := by
  simp only [warm]
  simp

@[simp] theorem shutDown_keeps (s : State) :
    (shutDown s).rcx = s.rcx ∧ (shutDown s).ven = s.ven ∧ (shutDown s).dnl = s.dnl ∧ (shutDown s).pending = s.pending := by
  simp only [shutDown]
  simp

@[simp] theorem blockLifted_keeps (s : State) :
    (blockLifted s).mpt = s.mpt ∧ (blockLifted s).ssc = s.ssc ∧ (blockLifted s).rcx = s.rcx ∧
    (blockLifted s).ven = s.ven ∧ (blockLifted s).dnl = s.dnl ∧ (blockLifted s).snt = s.snt ∧
    (blockLifted s).clk = s.clk ∧ (blockLifted s).fmn = s.fmn ∧ (blockLifted s).jnw = s.jnw ∧
    (blockLifted s).draws = s.draws ∧ (blockLifted s).pending = s.pending := by
  simp only [blockLifted]
  repeat' split
  all_goals simp

@[simp] theorem liftShutdown_keeps (s : State) :
    (liftShutdown s).mpt = s.mpt ∧ (liftShutdown s).ssc = s.ssc ∧ (liftShutdown s).rcx = s.rcx ∧
    (liftShutdown s).ven = s.ven ∧ (liftShutdown s).dnl = s.dnl ∧ (liftShutdown s).snt = s.snt ∧
    (liftShutdown s).clk = s.clk ∧ (liftShutdown s).jnw = s.jnw ∧ (liftShutdown s).draws = s.draws ∧
    (liftShutdown s).pending = s.pending := by
  simp only [liftShutdown]
  repeat' split
  all_goals simp

@[simp] theorem dieMoves_keeps (t : Int) (s : State) :
    (dieMoves t s).rcx = s.rcx ∧ (dieMoves t s).ven = s.ven ∧ (dieMoves t s).dnl = s.dnl ∧
    (dieMoves t s).pending = s.pending := by
  simp only [dieMoves]
  repeat' split
  all_goals simp

@[simp] theorem measure_keeps (t : Int) (s : State) :
    (measure t s).mpt = s.mpt ∧ (measure t s).ssc = s.ssc ∧ (measure t s).rcx = s.rcx ∧ (measure t s).ven = s.ven ∧
    (measure t s).dnl = s.dnl ∧ (measure t s).snt = s.snt ∧ (measure t s).clk = s.clk ∧ (measure t s).jnw = s.jnw ∧
    (measure t s).pev = s.pev ∧ (measure t s).draws = s.draws ∧ (measure t s).pending = s.pending := by
  simp only [measure]
  repeat' split
  all_goals simp

@[simp] theorem deliverUpdate_keeps (s : State) :
    (deliverUpdate s).ssc = s.ssc ∧ (deliverUpdate s).rcx = s.rcx ∧ (deliverUpdate s).ven = s.ven ∧
    (deliverUpdate s).dnl = s.dnl ∧ (deliverUpdate s).clk = s.clk ∧ (deliverUpdate s).fmn = s.fmn ∧
    (deliverUpdate s).pev = s.pev ∧ (deliverUpdate s).draws = s.draws ∧ (deliverUpdate s).pending = s.pending := by
  simp only [deliverUpdate]
  repeat' split
  all_goals simp

@[simp] theorem haltHead_keeps (s : State) :
    (haltHead s).ssc = s.ssc ∧ (haltHead s).rcx = s.rcx ∧ (haltHead s).ven = s.ven ∧ (haltHead s).dnl = s.dnl ∧
    (haltHead s).pev = s.pev ∧ (haltHead s).draws = s.draws ∧ (haltHead s).pending = s.pending := by
  simp only [haltHead]
  repeat' split
  all_goals simp

@[simp] theorem haltSecond_keeps (s : State) :
    (haltSecond s).ssc = s.ssc ∧ (haltSecond s).rcx = s.rcx ∧ (haltSecond s).ven = s.ven ∧
    (haltSecond s).dnl = s.dnl ∧ (haltSecond s).snt = s.snt ∧ (haltSecond s).fmn = s.fmn ∧
    (haltSecond s).jnw = s.jnw ∧ (haltSecond s).pev = s.pev ∧ (haltSecond s).draws = s.draws ∧
    (haltSecond s).pending = s.pending := by
  simp only [haltSecond]
  repeat' split
  all_goals simp

@[simp] theorem enterHalting_keeps (s : State) :
    (enterHalting s).rcx = s.rcx ∧ (enterHalting s).ven = s.ven ∧ (enterHalting s).dnl = s.dnl ∧
    (enterHalting s).pev = s.pev ∧ (enterHalting s).draws = s.draws ∧ (enterHalting s).pending = s.pending := by
  simp only [enterHalting]
  simp

@[simp] theorem enterRunning_keeps (s : State) :
    (enterRunning s).rcx = s.rcx ∧ (enterRunning s).ven = s.ven ∧ (enterRunning s).dnl = s.dnl ∧
    (enterRunning s).snt = s.snt ∧ (enterRunning s).clk = s.clk ∧ (enterRunning s).fmn = s.fmn ∧
    (enterRunning s).jnw = s.jnw ∧ (enterRunning s).draws = s.draws ∧ (enterRunning s).pending = s.pending := by
  simp only [enterRunning]
  simp

@[simp] theorem sweepFrom_keeps (i : Nat) (s : State) :
    (sweepFrom i s).rcx = s.rcx ∧ (sweepFrom i s).ven = s.ven ∧ (sweepFrom i s).dnl = s.dnl ∧
    (sweepFrom i s).draws = s.draws ∧ (sweepFrom i s).pending = s.pending := by
  simp only [sweepFrom]
  repeat' split
  all_goals simp

/-! ### The bus (R144) -/

/-- The summary of an answer is that of the Field Monitor and of Power and Events. -/
theorem stampSummary_congr {s t : State} (hf : s.fmn = t.fmn) (hp : s.pev = t.pev) (a : Access) :
    stampSummary s a = stampSummary t a := by
  have h : fieldSummary s = fieldSummary t := by unfold fieldSummary fieldBlocked; rw [hf, hp]
  simp only [stampSummary, h]

/-- Where at most one access has been asked for, the arbitration is that of busAfter, and no free value is drawn. -/
theorem arbitrate_eq (s : State) (h : s.mpt.asked.length ≤ 1) :
    arbitrate s = { s with mpt := busAfter s { s.mpt with asked := [] } s.mpt.asked } := by
  obtain ⟨⟨_, _, _, flight, waiting, asked, _⟩, ssc, rcx, ven, dnl, snt, clk, fmn, jnw, pev, draws, pending⟩ := s
  match asked, h with
  | [], _ => cases flight <;> cases waiting <;> rfl
  | [a], _ => cases flight <;> cases waiting <;> rfl

/-- A state that keeps the rule of the port is left as it is. -/
theorem arbitrate_idle (s : State) (h : portRule s = true) : arbitrate s = s := by
  obtain ⟨⟨_, _, _, flight, waiting, asked, _⟩, ssc, rcx, ven, dnl, snt, clk, fmn, jnw, pev, draws, pending⟩ := s
  simp only [portRule, Bool.and_eq_true, List.isEmpty_iff] at h
  obtain ⟨rfl, h⟩ := h
  cases flight <;> cases waiting <;> simp_all [arbitrate, queueAsked, launch, freeOrder]

/-- After any arbitration the rule of the port holds. -/
theorem arbitrate_portRule (s : State) : portRule (arbitrate s) = true := by
  obtain ⟨⟨_, _, _, flight, waiting, asked, _⟩, ssc, rcx, ven, dnl, snt, clk, fmn, jnw, pev, draws, pending⟩ := s
  cases flight with
  | some a => simp [arbitrate, launch, queueAsked, portRule]
  | none =>
    cases h : waiting ++ freeOrder draws asked with
    | nil => simp [arbitrate, launch, queueAsked, portRule, h]
    | cons a l => simp [arbitrate, launch, queueAsked, portRule, h]

/-- The port after accesses are asked for reads of the state what an answer's summary reads. -/
theorem busAfter_congr {s t : State} (hf : s.fmn = t.fmn) (hp : s.pev = t.pev) (m : MemoryPort) (l : List Access) :
    busAfter s m l = busAfter t m l := by
  simp only [busAfter, stampSummary_congr hf hp]

/-- The outcome of a command that has asked for at most one access. -/
theorem settled_eq (s : State) (h : s.mpt.asked.length ≤ 1) :
    settled s = .next { s with mpt := busAfter s { s.mpt with asked := [] } s.mpt.asked } := by
  rw [settled, arbitrate_eq s h]

/-- The outcome of a command that has asked for no access. -/
theorem settled_idle (s : State) (h : portRule s = true) : settled s = .next s := by
  rw [settled, arbitrate_idle s h]

/-- The outcome of a command that has asked for at most one access from a port on which none was asked for: the port goes
over as busAfter says, and nothing else changes. -/
theorem settled_bus {u : State} {P : State → Prop} (m : MemoryPort) (l : List Access) (hm : m.asked = [])
    (hl : l.length ≤ 1) (hu : u.mpt = { m with asked := l })
    (hP : ∀ t, t.mpt = busAfter t m l → t = { u with mpt := t.mpt } → P t) :
    ∃ t, settled u = .next t ∧ P t := by
  have he : ({ u.mpt with asked := [] } : MemoryPort) = m := by rw [hu, ← hm]
  have hq : u.mpt.asked = l := by rw [hu]
  refine ⟨_, settled_eq u (by rw [hq]; exact hl), hP _ ?_ rfl⟩
  show busAfter u { u.mpt with asked := [] } u.mpt.asked = _
  rw [he, hq]
  exact busAfter_congr rfl rfl m l

/-- Every outcome through the arbitration keeps the rule of the port. -/
theorem settled_portRule {s t : State} (h : settled s = .next t) : portRule t = true := by
  cases h
  exact arbitrate_portRule s

/-! ### The head of the card hold (R88, R102) -/

/-- The session of the head alone is set, where no other held task has its slot. -/
theorem setSession_head {s : State} {t : HeldTask} {rest : List HeldTask} (x : Session) (hh : s.clk.hold = t :: rest)
    (hn : t.slot ∉ rest.map HeldTask.slot) :
    setSession t.slot x s = { s with clk := { s.clk with hold := { t with session := x } :: rest } } := by
  have h : rest.map (fun u => if u.slot = t.slot then { u with session := x } else u) = rest := by
    rw [List.map_congr_left (g := id)]
    · simp
    · intro a ha
      rw [if_neg]
      · rfl
      · exact fun hs => hn (List.mem_map.mpr ⟨a, ha, hs⟩)
  simp only [setSession, hh, List.map_cons, if_true, h]

/-- The release of the field by the head that holds it. -/
theorem releaseHead_session {s : State} (hf : s.clk.holder = .session) :
    releaseHead s =
      { s with
        clk := { s.clk with holder := .none, deadline := none, tries := 0, pendingStamp := none }
        fmn := { s.fmn with detected := false } } := by
  simp only [releaseHead, hf, if_true, turnOff]

/-- The head that holds the field closes with nothing owed by the journal: its answer is asked for. -/
theorem closeHead_ready {s : State} {t : HeldTask} {rest : List HeldTask} (e : SessionEnd) (hh : s.clk.hold = t :: rest)
    (hn : t.slot ∉ rest.map HeldTask.slot) (hf : s.clk.holder = .session) :
    closeHead t e {} s =
      ask (answerOf (.card t.slot) s t.slot t.tag (sessionAnswer e))
        { s with
          clk := { s.clk with
            holder := .none, deadline := none, tries := 0, pendingStamp := none
            hold := { t with session := .closing e {} .writeAnswer } :: rest }
          fmn := { s.fmn with detected := false } } := by
  simp only [closeHead, if_true, handOver, releaseHead_session hf]
  have h := setSession_head (s := releaseHead s) (t := t) (rest := rest) (.closing e {} .writeAnswer)
    (by rw [releaseHead_session hf]; exact hh) hn
  rw [releaseHead_session hf] at h
  rw [h]
  rfl

/-- The head that holds the field closes and waits for what the journal owes it. -/
theorem closeHead_waits {s : State} {t : HeldTask} {rest : List HeldTask} (e : SessionEnd) {o : Owed} (ho : o ≠ {})
    (hh : s.clk.hold = t :: rest) (hn : t.slot ∉ rest.map HeldTask.slot) (hf : s.clk.holder = .session) :
    closeHead t e o s =
      { s with
        clk := { s.clk with
          holder := .none, deadline := none, tries := 0, pendingStamp := none
          hold := { t with session := .closing e o .awaitJournal } :: rest }
        fmn := { s.fmn with detected := false } } := by
  simp only [closeHead, if_neg ho]
  rw [setSession_head (s := releaseHead s) _ (by rw [releaseHead_session hf]; exact hh) hn, releaseHead_session hf]

/-! ### Updates in transit (R53; log 11) -/

@[simp] theorem deliverSome_keeps (n : Nat) (s : State) :
    (deliverSome n s).ssc = s.ssc ∧ (deliverSome n s).rcx = s.rcx ∧ (deliverSome n s).ven = s.ven ∧
    (deliverSome n s).dnl = s.dnl ∧ (deliverSome n s).clk = s.clk ∧ (deliverSome n s).fmn = s.fmn ∧
    (deliverSome n s).pev = s.pev ∧ (deliverSome n s).draws = s.draws ∧ (deliverSome n s).pending = s.pending := by
  induction n generalizing s with
  | zero => simp [deliverSome]
  | succ n ih => simp [deliverSome, ih]

@[simp] theorem deliverUpdates_keeps (s : State) :
    (deliverUpdates s).ssc = s.ssc ∧ (deliverUpdates s).rcx = s.rcx ∧ (deliverUpdates s).ven = s.ven ∧
    (deliverUpdates s).dnl = s.dnl ∧ (deliverUpdates s).clk = s.clk ∧ (deliverUpdates s).fmn = s.fmn ∧
    (deliverUpdates s).pev = s.pev ∧ (deliverUpdates s).draws = s.draws ∧ (deliverUpdates s).pending = s.pending := by
  simp [deliverUpdates]

/-- A delivery takes the oldest update away. -/
@[simp] theorem deliverUpdate_updates (s : State) : (deliverUpdate s).snt.updates = s.snt.updates.tail := by
  simp only [deliverUpdate]
  split <;> simp_all

/-- After a delivery of all, none is in transit. -/
@[simp] theorem deliverUpdates_updates (s : State) : (deliverUpdates s).snt.updates = [] := by
  have h : ∀ n (t : State), (deliverSome n t).snt.updates = t.snt.updates.drop n := by
    intro n
    induction n with
    | zero => intro t; simp [deliverSome]
    | succ n ih => intro t; simp [deliverSome, ih]
  simp [deliverUpdates, h]

/-! ### The decision point (R21) -/

/-- The answers of the blocks change the Deny List's false hits and the Seen Table, and what its updates claim. -/
@[simp] theorem askBlocks_keeps (w : Asks) (a : Asking) (s : State) :
    (askBlocks w a s).state.ssc = s.ssc ∧ (askBlocks w a s).state.rcx = s.rcx ∧ (askBlocks w a s).state.ven = s.ven ∧
    (askBlocks w a s).state.clk = s.clk ∧ (askBlocks w a s).state.fmn = s.fmn ∧ (askBlocks w a s).state.pev = s.pev ∧
    (askBlocks w a s).state.draws = s.draws ∧ (askBlocks w a s).state.pending = s.pending := by
  simp only [askBlocks, askSeenTable, askDenyList, askContext]
  repeat' split
  all_goals simp

/-- The inspection of a decision point, and what an emptying has marked there, stay the same. -/
@[simp] theorem askBlocks_inspection (w : Asks) (a : Asking) (s : State) :
    (askBlocks w a s).asking.inspection = a.inspection ∧ (askBlocks w a s).asking.emptied = a.emptied := by
  simp only [askBlocks, askSeenTable, askDenyList, askContext]
  repeat' split
  all_goals exact ⟨rfl, rfl⟩

/-! ### The Seen Table in a decision point (R22, R52, R61; log 10) -/

/-- While the table is engaged, a decision point it has not answered gets no answer from it. -/
theorem askSeenTable_engaged {x : Asked} (h : seenEngaged x.state = true) (yes : Bool) : askSeenTable yes x = x := by
  simp [askSeenTable, h]

/-- The eviction count after an inspection's update turns on the credential alone. -/
theorem noteInspection_evictions (c : Cred) (v : Verdict) (ctx : ContextAnswer) (t : SeenTable) :
    (noteInspection c v ctx t).evictions = evictionsWith c t := by
  simp only [noteInspection, evictionsWith, insertSeen, replaceSeen]
  cases findSeen c t <;> cases t.counter <;> rfl

/-- A decision point that the table has not answered, or that an emptying has marked before, is marked no more. -/
theorem markEmptied_skips {t : SeenTable} {a : Asking} (h : a.seen = none ∨ a.emptied.isSome = true) : markEmptied t a = a := by
  have e : (consulted a && a.emptied.isNone) = false := by
    rcases h with h | h
    · simp [consulted, h]
    · simp [Option.isNone_eq_false_iff.mpr h]
  rw [markEmptied, e, if_neg Bool.false_ne_true]

@[simp] theorem markEmptied_keeps (t : SeenTable) (a : Asking) :
    (markEmptied t a).inspection = a.inspection ∧ (markEmptied t a).context = a.context ∧
    (markEmptied t a).denied = a.denied ∧ (markEmptied t a).seen = a.seen := by
  simp only [markEmptied]
  split <;> exact ⟨rfl, rfl, rfl, rfl⟩

/-- A mark touches no more of a held task than its decision point. -/
@[simp] theorem markHeld_keeps (t : SeenTable) (x : HeldTask) :
    (markHeld t x).slot = x.slot ∧ (markHeld t x).tag = x.tag ∧ (markHeld t x).req = x.req := by
  simp only [markHeld]
  split <;> exact ⟨rfl, rfl, rfl⟩

/-- An emptying frees no decision point and engages none. -/
@[simp] theorem markHeld_consulted (t : SeenTable) (x : HeldTask) : heldConsulted (markHeld t x) = heldConsulted x := by
  obtain ⟨slot, tag, req, session⟩ := x
  cases session <;> simp [markHeld, heldConsulted, consulted]

@[simp] theorem emptyForTrip_keeps (s : State) :
    (emptyForTrip s).mpt = s.mpt ∧ (emptyForTrip s).ssc = s.ssc ∧ (emptyForTrip s).rcx = s.rcx ∧
    (emptyForTrip s).ven = s.ven ∧ (emptyForTrip s).dnl = s.dnl ∧ (emptyForTrip s).snt = emptySeen s.snt ∧
    (emptyForTrip s).fmn = s.fmn ∧ (emptyForTrip s).jnw = s.jnw ∧ (emptyForTrip s).pev = s.pev ∧
    (emptyForTrip s).draws = s.draws ∧ (emptyForTrip s).pending = s.pending := by
  simp [emptyForTrip]

@[simp] theorem emptyForTrip_engaged (s : State) : seenEngaged (emptyForTrip s) = seenEngaged s := by
  simp [seenEngaged, emptyForTrip, List.any_map, Function.comp_def]

/-- Where no decision point of the hold has the table's answer, the emptying marks none. -/
theorem emptyForTrip_free {s : State} (h : s.clk.hold.any heldConsulted = false) :
    emptyForTrip s = { s with snt := emptySeen s.snt } := by
  have e : s.clk.hold.map (markHeld s.snt) = s.clk.hold := by
    refine (List.map_congr_left fun x hx => ?_).trans (List.map_id _)
    have hc : heldConsulted x = false := by simpa using List.any_eq_false.mp h x hx
    revert hc
    obtain ⟨slot, tag, req, session⟩ := x
    cases session <;> simp +contextual [heldConsulted, markHeld, markEmptied]
  rw [emptyForTrip, e]

@[simp] theorem conclude_keeps (a : Asking) (r : Replies) (l : List JournalJob) (s : State) :
    (conclude a r l s).1.ssc = s.ssc ∧ (conclude a r l s).1.rcx = s.rcx ∧ (conclude a r l s).1.ven = s.ven ∧
    (conclude a r l s).1.dnl = s.dnl ∧ (conclude a r l s).1.clk = s.clk ∧ (conclude a r l s).1.fmn = s.fmn ∧
    (conclude a r l s).1.pev = s.pev ∧ (conclude a r l s).1.pending = s.pending := by
  simp [conclude]

/-! ### Scans (R134) -/

/-- R134: where the first slot not held lies k on, and is still to be examined, the scan goes there. -/
theorem nextUnheld_free (held : List Nat) (n : Nat) : ∀ (r i k : Nat), i % n = i → k < r → (i + k) % n ∉ held →
    (∀ m < k, (i + m) % n ∈ held) → nextUnheld held n i r = some ((i + k) % n, r - 1 - k)
  | 0, _, _, _, hk, _, _ => absurd hk (Nat.not_lt_zero _)
  | r + 1, i, 0, hi, _, hf, _ => by
    rw [Nat.add_zero, hi] at hf
    have e : (i + 0) % n = i := hi
    rw [nextUnheld, if_neg hf, e]
    rfl
  | r + 1, i, k + 1, hi, hk, hf, hm => by
    have h0 : i ∈ held := by simpa [hi] using hm 0 (Nat.succ_pos k)
    have hshift : ∀ m, ((i + 1) % n + m) % n = (i + (m + 1)) % n := fun m => by
      rw [Nat.mod_add_mod]; congr 1; omega
    rw [nextUnheld, if_pos h0, nextUnheld_free held n r ((i + 1) % n) k (Nat.mod_mod _ _) (by omega)
      (by rw [hshift]; exact hf) (fun m hm' => by rw [hshift]; exact hm (m + 1) (by omega)), hshift]
    congr 2; omega

/-- R134: where every slot still to be examined is held, none is left. -/
theorem nextUnheld_none (held : List Nat) (n : Nat) : ∀ (r i : Nat), i % n = i → (∀ m < r, (i + m) % n ∈ held) →
    nextUnheld held n i r = none
  | 0, _, _, _ => rfl
  | r + 1, i, hi, hm => by
    have h0 : i ∈ held := by simpa [hi] using hm 0 (Nat.succ_pos r)
    have hshift : ∀ m, ((i + 1) % n + m) % n = (i + (m + 1)) % n := fun m => by
      rw [Nat.mod_add_mod]; congr 1; omega
    rw [nextUnheld, if_pos h0]
    exact nextUnheld_none held n r _ (Nat.mod_mod _ _) (fun m hm' => by rw [hshift]; exact hm (m + 1) (by omega))

/-- R134: the scan in RUNNING goes on to the first slot not held. -/
theorem goOn_free {sc : Scan} {k : Nat} {s : State} (hr : s.mpt.runState = .running) (h : NextFree (heldSlots s) sc k s) :
    goOn sc s = examine (scanAt sc k s) s := by
  obtain ⟨hk, hf, hm⟩ := h
  have e : ∀ m, ((sc.index + 1) % slotCount s + m) % slotCount s = slotAhead sc m s := fun m => by
    rw [Nat.mod_add_mod, slotAhead]
  rw [goOn, if_pos hr, nextUnheld_free (heldSlots s) (slotCount s) sc.remaining _ k (Nat.mod_mod _ _) hk (by rw [e]; exact hf)
    (fun m hm' => by rw [e]; exact hm m hm'), e]
  rfl

/-- R134: the scan in RUNNING ends when every slot left is held. -/
theorem goOn_none {sc : Scan} {s : State} (hr : s.mpt.runState = .running) (h : NoneFree (heldSlots s) sc s) :
    goOn sc s = endScan sc s := by
  have e : ∀ m, ((sc.index + 1) % slotCount s + m) % slotCount s = slotAhead sc m s := fun m => by
    rw [Nat.mod_add_mod, slotAhead]
  rw [goOn, if_pos hr, nextUnheld_none (heldSlots s) (slotCount s) sc.remaining _ (Nat.mod_mod _ _)
    (fun m hm' => by rw [e]; exact h m hm')]

/-- R144: the answer of the scan's access: the bus is free and the scan goes on. -/
theorem exec_scanAnswered {data : List Byte} {sc : Scan} {s : State} (h : ScanAnswered data s) (hsc : s.ssc.scan = some sc) :
    exec (.memoryResponse data) s = settled (scanGoesOn sc data { s with mpt := freeBus s }) := by
  obtain ⟨a, hf, hc, ha⟩ := h
  simp only [exec, execMemoryResponse, hf, ha, if_true, hc, resume, hsc, freeBus]

end Sys2Proof.Machine
end

