-- ==== Sys2Proof/Laws/PerInstr.lean ====
section
/-! SUPPORT. The family Rows: every command is a row of the opcode table. -/

namespace Sys2Proof.Laws.Rows

/-- The mnemonics of spec/opcode_table.json, in the table's order. -/
def table : List String :=
  ["START", "HALT", "NUDGE", "CLEAR_FAULTS", "RESET", "RESET_LINE", "EVENTS_WRITE", "EVENT_ENABLE_WRITE"]
  ++ ["SETUP_ADDRESS_WRITE", "MEMORY_RESPONSE", "MEMORY_FAULT", "POLL_TIMER_EXPIRY", "MINUTE_TIMER_EXPIRY"]
  ++ ["WAKE_TIMER_EXPIRY", "SENSE_TIMER_EXPIRY", "SENSE_PULSE_END", "PASSIVE_CHECK_END", "SETTLING_END"]
  ++ ["PRESENCE_INTERVAL_EXPIRY", "PRESENTATION_DEADLINE", "REPLY_LIMIT_EXPIRY", "ANTENNA_OPEN_DETECTION"]
  ++ ["ANTENNA_CURRENT_RISE", "OVERCURRENT_DETECTION", "THERMAL_WARNING", "REDUCED_DUTY_LIFT", "THERMAL_SHUTDOWN"]
  ++ ["SHUTDOWN_BLOCK_LIFT", "HELLO", "AREA", "STAMP_ACK", "CHECK_STAMP_REPLY", "CARD_INSPECT", "TOKEN_INSPECT"]
  ++ ["ROUTE", "POSITION", "DENY_REPLACE", "DENY_DELTA", "DENY_PRUNE", "PEER_NOTES", "SEEN_EXPORT", "FIELD_TEST"]
  ++ ["POWER", "CANCEL", "KEY_LOAD", "KEY_CLEAR", "STATUS", "IDENTIFY", "JOURNAL_CLAIM", "RESERVATION_FILL"]
  ++ ["SEEN_UPDATE", "HALTING_END"]

/-- A command is the row of the table that its mnemonic names. -/
def Statement (i : Instr) : Prop := i.mnemonic ∈ table

theorem start : Statement .start := List.mem_of_elem_eq_true rfl

theorem halt : Statement .halt := List.mem_of_elem_eq_true rfl

theorem nudge : Statement .nudge := List.mem_of_elem_eq_true rfl

theorem clearFaults : Statement .clearFaults := List.mem_of_elem_eq_true rfl

theorem reset : ∀ a, Statement (.reset a) := fun _ => List.mem_of_elem_eq_true rfl

theorem resetLine : ∀ a, Statement (.resetLine a) := fun _ => List.mem_of_elem_eq_true rfl

theorem eventsWrite : ∀ a, Statement (.eventsWrite a) := fun _ => List.mem_of_elem_eq_true rfl

theorem eventEnableWrite : ∀ a, Statement (.eventEnableWrite a) := fun _ => List.mem_of_elem_eq_true rfl

theorem setupAddressWrite : ∀ a, Statement (.setupAddressWrite a) := fun _ => List.mem_of_elem_eq_true rfl

theorem memoryResponse : ∀ a, Statement (.memoryResponse a) := fun _ => List.mem_of_elem_eq_true rfl

theorem memoryFault : Statement .memoryFault := List.mem_of_elem_eq_true rfl

theorem pollTimerExpiry : Statement .pollTimerExpiry := List.mem_of_elem_eq_true rfl

theorem minuteTimerExpiry : Statement .minuteTimerExpiry := List.mem_of_elem_eq_true rfl

theorem wakeTimerExpiry : Statement .wakeTimerExpiry := List.mem_of_elem_eq_true rfl

theorem senseTimerExpiry : Statement .senseTimerExpiry := List.mem_of_elem_eq_true rfl

theorem sensePulseEnd : ∀ a, Statement (.sensePulseEnd a) := fun _ => List.mem_of_elem_eq_true rfl

theorem passiveCheckEnd : ∀ a b, Statement (.passiveCheckEnd a b) := fun _ _ => List.mem_of_elem_eq_true rfl

theorem settlingEnd : Statement .settlingEnd := List.mem_of_elem_eq_true rfl

theorem presenceIntervalExpiry : Statement .presenceIntervalExpiry := List.mem_of_elem_eq_true rfl

theorem presentationDeadline : Statement .presentationDeadline := List.mem_of_elem_eq_true rfl

theorem replyLimitExpiry : Statement .replyLimitExpiry := List.mem_of_elem_eq_true rfl

theorem antennaOpenDetection : Statement .antennaOpenDetection := List.mem_of_elem_eq_true rfl

theorem antennaCurrentRise : Statement .antennaCurrentRise := List.mem_of_elem_eq_true rfl

theorem overcurrentDetection : Statement .overcurrentDetection := List.mem_of_elem_eq_true rfl

theorem thermalWarning : ∀ a, Statement (.thermalWarning a) := fun _ => List.mem_of_elem_eq_true rfl

theorem reducedDutyLift : ∀ a, Statement (.reducedDutyLift a) := fun _ => List.mem_of_elem_eq_true rfl

theorem thermalShutdown : ∀ a, Statement (.thermalShutdown a) := fun _ => List.mem_of_elem_eq_true rfl

theorem shutdownBlockLift : ∀ a, Statement (.shutdownBlockLift a) := fun _ => List.mem_of_elem_eq_true rfl

theorem hello : ∀ a b c d, Statement (.hello a b c d) := fun _ _ _ _ => List.mem_of_elem_eq_true rfl

theorem area : ∀ a b c d, Statement (.area a b c d) := fun _ _ _ _ => List.mem_of_elem_eq_true rfl

theorem stampAck : ∀ a b, Statement (.stampAck a b) := fun _ _ => List.mem_of_elem_eq_true rfl

theorem checkStampReply : ∀ a b, Statement (.checkStampReply a b) := fun _ _ => List.mem_of_elem_eq_true rfl

theorem cardInspect : Statement .cardInspect := List.mem_of_elem_eq_true rfl

theorem tokenInspect : ∀ a, Statement (.tokenInspect a) := fun _ => List.mem_of_elem_eq_true rfl

theorem route : Statement .route := List.mem_of_elem_eq_true rfl

theorem position : Statement .position := List.mem_of_elem_eq_true rfl

theorem denyReplace : Statement .denyReplace := List.mem_of_elem_eq_true rfl

theorem denyDelta : Statement .denyDelta := List.mem_of_elem_eq_true rfl

theorem denyPrune : Statement .denyPrune := List.mem_of_elem_eq_true rfl

theorem peerNotes : Statement .peerNotes := List.mem_of_elem_eq_true rfl

theorem seenExport : Statement .seenExport := List.mem_of_elem_eq_true rfl

theorem fieldTest : ∀ a, Statement (.fieldTest a) := fun _ => List.mem_of_elem_eq_true rfl

theorem power : Statement .power := List.mem_of_elem_eq_true rfl

theorem cancel : ∀ a b, Statement (.cancel a b) := fun _ _ => List.mem_of_elem_eq_true rfl

theorem keyLoad : Statement .keyLoad := List.mem_of_elem_eq_true rfl

theorem keyClear : Statement .keyClear := List.mem_of_elem_eq_true rfl

theorem status : ∀ a b c, Statement (.status a b c) := fun _ _ _ => List.mem_of_elem_eq_true rfl

theorem identify : Statement .identify := List.mem_of_elem_eq_true rfl

theorem journalClaim : Statement .journalClaim := List.mem_of_elem_eq_true rfl

theorem reservationFill : Statement .reservationFill := List.mem_of_elem_eq_true rfl

theorem seenUpdate : Statement .seenUpdate := List.mem_of_elem_eq_true rfl

theorem haltingEnd : Statement .haltingEnd := List.mem_of_elem_eq_true rfl

end Sys2Proof.Laws.Rows
end

