-- ==== Sys2Proof/WellFormed.lean ====
section
/-! DEFINITION. Which operands of a command the manual allows. exec is total on the others too: what it does with each is
said where it is defined. -/

namespace Sys2Proof

/-- The die temperatures the Field Monitor measures: −40 to 150 degrees (R112). -/
def dieTempOk (t : Int) : Bool := decide (-40 ≤ t) && decide (t ≤ 150)

/-- The largest answer to one bus access: a DENY REPLACE buffer of 256 entries of 16 bytes (R71). -/
def largestRead : Nat := 4096

/-- A stamp is 16 bytes (R92). -/
def stampSizeOk (stamp : Option (List Byte)) : Bool :=
  match stamp with
  | none => true
  | some bytes => bytes.length == 16

/-- An AREA reply carries at most three records of 32 bytes (R92, R95). -/
def recordsSizeOk (records : List (List Byte)) : Bool :=
  decide (records.length ≤ 3) && records.all (fun r => r.length == 32)

/-- The operands lie in the ranges the manual gives for what they stand for. -/
def Instr.wf : Instr → Bool
  | .reset t => dieTempOk t
  | .resetLine t => dieTempOk t
  | .memoryResponse data => decide (data.length ≤ largestRead)
  | .passiveCheckEnd _ t => dieTempOk t
  | .thermalWarning t => dieTempOk t && decide (105 ≤ t)
  | .reducedDutyLift t => dieTempOk t && decide (t ≤ 95)
  | .thermalShutdown t => dieTempOk t && decide (125 ≤ t)
  | .shutdownBlockLift t => dieTempOk t && decide (t < 110)
  | .area _ records stamp _ => recordsSizeOk records && stampSizeOk stamp
  | .checkStampReply _ stamp => stampSizeOk stamp
  | .fieldTest t => dieTempOk t
  | .status t _ _ => dieTempOk t
  | .start | .halt | .nudge | .clearFaults | .eventsWrite _ | .eventEnableWrite _ | .setupAddressWrite _ => true
  | .memoryFault | .pollTimerExpiry | .minuteTimerExpiry | .wakeTimerExpiry | .senseTimerExpiry => true
  | .sensePulseEnd _ | .settlingEnd | .presenceIntervalExpiry | .presentationDeadline | .replyLimitExpiry => true
  | .antennaOpenDetection | .antennaCurrentRise | .overcurrentDetection | .hello _ _ _ _ | .stampAck _ _ => true
  | .cardInspect | .tokenInspect _ | .route | .position | .denyReplace | .denyDelta | .denyPrune => true
  | .peerNotes | .seenExport | .power | .cancel _ _ | .keyLoad | .keyClear | .identify => true
  | .journalClaim | .reservationFill | .seenUpdate | .haltingEnd => true

end Sys2Proof
end

