-- ==== Sys2Proof/Tests/Slice0.lean ====
section
/-! SUPPORT. The tests: ill-formed commands that the check refuses, check values and layouts of the manual, single steps on
small states, and, for every statement with hypotheses, states and operands that meet them (test_meets_…). -/

namespace Sys2Proof.Tests

open Sys2Proof Sys2Proof.Machine

/-! ### Ill-formed commands -/

/-- Each check of a command's operands refuses a command just outside it and takes one at its bound. -/
theorem test_illFormedCommandsAreRefused :
    Instr.wf (.reset (-41)) = false ∧ Instr.wf (.reset (-40)) = true
    ∧ Instr.wf (.resetLine 151) = false ∧ Instr.wf (.resetLine 150) = true
    ∧ Instr.wf (.passiveCheckEnd true 151) = false ∧ Instr.wf (.fieldTest (-41)) = false
    ∧ Instr.wf (.status 151 false []) = false
    ∧ Instr.wf (.thermalWarning 104) = false ∧ Instr.wf (.thermalWarning 105) = true
    ∧ Instr.wf (.reducedDutyLift 96) = false ∧ Instr.wf (.reducedDutyLift 95) = true
    ∧ Instr.wf (.thermalShutdown 124) = false ∧ Instr.wf (.thermalShutdown 125) = true
    ∧ Instr.wf (.shutdownBlockLift 110) = false ∧ Instr.wf (.shutdownBlockLift 109) = true
    ∧ Instr.wf (.area .good [[0]] none .all) = false
    ∧ Instr.wf (.area .good [[], [], [], []] none .all) = false
    ∧ Instr.wf (.area .good [] (some []) .all) = false ∧ Instr.wf (.area .good [] none .all) = true
    ∧ Instr.wf (.checkStampReply .good (some [0])) = false ∧ Instr.wf (.checkStampReply .good none) = true := by
  decide

/-- An answer longer than any read is refused. -/
theorem test_overlongResponseIsRefused : Instr.wf (.memoryResponse (List.replicate 4097 0)) = false := by
  rw [Instr.wf, List.length_replicate]
  rfl

/-! ### Check values and layouts -/

/-- The check values of "123456789" under the two CRCs of R2. -/
theorem test_crcOfTheNineDigits :
    crc32 [0x31, 0x32, 0x33, 0x34, 0x35, 0x36, 0x37, 0x38, 0x39] = 0xCBF43926
    ∧ crc16 [0x31, 0x32, 0x33, 0x34, 0x35, 0x36, 0x37, 0x38, 0x39] = 0x29B1 := by decide +kernel

/-- The route of the table of 1.4. -/
def fourStops : List Stop := [⟨2001, 1⟩, ⟨2004, 1⟩, ⟨2009, 2⟩, ⟨2015, 2⟩]

/-- A fare record of a class with its two stops and zone set, and every other field 0. -/
def fare (cls : Byte) (o d : Half) (zones : Word) : FareRecord :=
  { readFareRecord [cls, 2] with origin := o, destination := d, zones := zones }

/-- The table of coverage at three positions in 1.4. -/
theorem test_coverageAtThreePositions :
    let single := fare 1 2004 2015 0
    let ret := fare 2 2015 2001 0
    let zone := fare 5 0 0 2
    covers fourStops (.atStop 1) .single single = true ∧ covers fourStops (.atStop 1) .returnFare ret = true
    ∧ covers fourStops (.atStop 1) .zonePass zone = true
    ∧ covers fourStops (.between 1) .single single = true ∧ covers fourStops (.between 1) .returnFare ret = true
    ∧ covers fourStops (.between 1) .zonePass zone = false
    ∧ covers fourStops (.atStop 0) .single single = false := by decide

/-- The widths of R177: a four-byte field skips to a multiple of 4. -/
theorem test_layoutSkipsToTheWidth :
    layOut 30 [⟨1, 3⟩, ⟨4, 0x04030201⟩, ⟨2, 0x0605⟩] = [3, 0, 1, 2, 3, 4, 5, 6] := by decide

/-- The records the part writes have the lengths of 11.6. -/
theorem test_lengthsOfRecords :
    (entryBytes 1 ⟨.ride, 5, ⟨1, 2, 3, 4, 5⟩, some 0, some 3, 0⟩).length = 31
    ∧ identityBytes.length = 32 ∧ (answerBytes 7 { code := .ok }).length = 40
    ∧ (stampBytes ⟨1, 2, 3, 4, 5, 0, 2⟩).length = 16 := by decide

/-- A CARD INSPECT slot as the host writes it, with a timeout of 0 read as 10 seconds. -/
theorem test_slotOfACardInspect :
    readSlot 4 [1, 1, 0x34, 0x12, 0, 2, 1] = .good (.cardInspect ⟨10, 2, true⟩)
    ∧ readSlot 4 [1, 1, 0, 0, 31, 2, 1] = .badField .cardInspect
    ∧ readSlot 4 [1, 17] = .badKind ∧ readSlot 4 [1, 0] = .badKind
    ∧ readSlot 4 [1, 12, 0, 0, 4] = .badField .cancel ∧ readSlot 4 [1, 12, 0, 0, 3] = .good (.cancel 3) := by decide

/-- A setup block: sheet of 4 slots at 0x1000, ring of 8 entries at 0x2000, poll interval 10 ms, conductor 9. -/
def setupBytes : List Byte := [0, 0x10, 0, 0, 2, 3, 10, 0, 0, 0x20, 0, 0, 9, 0, 1, 0x99] ++ List.replicate 16 0

/-- The setup block is valid, and one whose ring lies in the sheet is not. -/
theorem test_setupBlock :
    (readSetup setupBytes).isSome = true
    ∧ (readSetup setupBytes).map Setup.reportOpen = some .event
    ∧ (readSetup setupBytes).map Setup.reportOvercurrent = some .answerOnly
    ∧ readSetup (setupBytes.set 9 0x10) = none ∧ readSetup (setupBytes.set 6 251) = none := by decide

/-! ### Small states -/

/-- A part with a sheet of 4 slots and a ring of 8 entries. -/
def part (r : RunState) (p : PowerState) : State :=
  { mpt := { runState := r }
    ssc := { sheet := some ⟨0x1000, 4⟩, pollInterval := 10 }
    jnw := { ring := some ⟨0x2000, 8⟩ }
    pev := { power := p } }

/-- A part at work. -/
def atWork : State := part .running .run

/-- A task of the hold. -/
def held (x : Session) : HeldTask := ⟨1, 7, ⟨10, 2, true⟩, x⟩

/-- A task that waits behind the head, and one that has ended. -/
def second : HeldTask := { held .waitingField with slot := 3 }
def ended : HeldTask := { held (.closing (.coded .halted none) {} .writeAnswer) with slot := 3 }

/-- A part whose head's session holds the field. -/
def withHead (x : Session) : State :=
  { atWork with
    clk := { holder := .session, hold := [held x], tries := 1, identity := some ⟨5, 0, false⟩ } }

/-- A part with a scan at slot 0 and three slots left. -/
def scanOf (g : ScanPhase) : Scan :=
  { index := 0, remaining := 3, leftPosted := [], lastTaken := none, cardPassed := false, phase := g }

/-- A part that is scanning. -/
def scanning (g : ScanPhase) : State := { atWork with ssc := { atWork.ssc with scan := some (scanOf g) } }

/-- The task in hand waits at its owner. -/
def handed (r : Request) : State := scanning (.handed ⟨7, r⟩)

/-- An access in flight. -/
def onBus (c : Client) (k : AccessKind) (s : State) : State :=
  { s with mpt := { s.mpt with flight := some { client := c, address := 0x1000, kind := k } } }

/-- A context and a plan of a ride. -/
def ctxOne : ContextAnswer := ⟨1, 2, 3, 4, 5⟩
def planOne : RidePlan := ⟨5, ctxOne, 0, 3, none⟩
def draftOne : Draft := { verdict := .rideNotTaken, cred := some 5 }
def stampOne : PendingStamp := ⟨none, ⟨1, 2, 1, 4, 5, 0, 2⟩, 1⟩

/-- A decision point in which no block has answered. -/
def askingOne : Asking :=
  { inspection := { card := true, cred := 5, places := [none, none, none], stamp := .absent, seated := 2, ride := true } }

/-- A decision point that the Seen Table alone has answered, and one that an emptying has met since. -/
def consultedOne : Asking := { askingOne with seen := some ⟨none, 0, .none⟩ }
def emptiedOne : Asking := { consultedOne with emptied := some 4 }

/-- A part whose Seen Table is engaged in the decision point of a card. -/
def engaged (s : State) : State := { s with clk := (withHead (.asking consultedOne)).clk }

/-- The running context of the route of 1.4. -/
def onRoute (p : Position) : RunningContext :=
  { state := .active, route := fourStops, position := some p, trip := 1, conductor := 9, stale := false }

/-! ### Single steps -/

/-- START asks for the setup block, and the block hands over the sheet. -/
theorem test_startAsksForTheSetupBlock :
    (match exec .start { State.reset with mpt := { setupAddress := 0x100 } } with
      | .next t => t.mpt.flight == some (readOf .startUp 0x100 32) && t.mpt.runState == .starting
      | _ => false) = true := by decide

/-- A RESET on a hot die latches the thermal flags and raises FIELD FAULT. -/
theorem test_resetOnAHotDie :
    (match exec (.reset 125) atWork with
      | .next t => t.fmn.thermalShutdown && t.fmn.thermalWarning && t.fmn.shutdownBlock && t.pev.events == evFieldFault
      | _ => false) = true := by decide

/-- The first slot POSTED with an unknown kind is taken and then refused BAD KIND. -/
theorem test_unknownKindIsRefused :
    (match exec (.memoryResponse []) (onBus .scan (.write [2]) (scanning (.writeTaken 0x1234 .badKind))) with
      | .next t => (t.mpt.flight.map Access.kind) == some (.write ([2, 1, 0x34, 0x12] ++ List.replicate 36 0))
      | _ => false) = true := by decide

/-- A POSITION that departs from stop 0 moves the train off. -/
theorem test_departMovesOff :
    (match exec .position { handed (.position ⟨.depart, 2001, none⟩) with rcx := onRoute (.atStop 0) } with
      | .next t => t.rcx.position == some (.between 0)
      | _ => false) = true := by decide

/-- A merge waits for the decision point that the Seen Table has answered, and is made when the table is free. -/
theorem test_mergeWaitsForTheVerdict :
    let s := scanning (.serving ⟨7, .peerNotes 1 0⟩ (.notesWait [⟨6, 2001, 2879, true, 8⟩]))
    (match exec .peerNotes (engaged s) with
      | .next t => t.snt == s.snt && t.ssc == s.ssc
      | _ => false) = true
    ∧ (match exec .peerNotes s with
      | .next t => t.snt.records.map SeenRecord.cred == [6]
      | _ => false) = true := by decide

/-- A final verdict inserts its record, but not where a new trip has emptied the table since the consult. -/
theorem test_updateIsMadeWithTheConsult :
    (match exec (.area .good [] none) (withHead (.asking consultedOne)) with
      | .next t => t.snt.records.map SeenRecord.cred == [5]
      | _ => false) = true
    ∧ (match exec (.area .good [] none) (withHead (.asking emptiedOne)) with
      | .next t => t.snt.records == [] && t.snt.evictions == 4
      | _ => false) = true := by decide +kernel

/-- HALTING ends when nothing is left. -/
theorem test_haltingEnds :
    (match exec .haltingEnd (part .halting .run) with
      | .next t => t.mpt.runState == .halted && t.mpt.haltCause == .command && t.pev.events == evHalted
      | _ => false) = true := by decide

/-- A claim that meets HOST is refused, with JOURNAL FULL and a missed DENIED entry. -/
theorem test_fullRing :
    (match exec .journalClaim
        { atWork with
          jnw := { atWork.jnw with
            queue := [.entry ⟨.denied, 5, ctxOne, none, none, 0x0101⟩ .nobody], service := .markRead 0xA5 } } with
      | .next t => t.jnw.missed == 1 && t.pev.events == evJournalFull && t.jnw.nextSerial == 1
      | _ => false) = true := by decide

/-- A word spells no command, since the table gives none bits. -/
theorem test_noWordSpellsACommand : decodeTableWord 8 1 = none := rfl

/-- The queue: a step takes the command at the front. -/
theorem test_stepTakesTheFront :
    (match step { atWork with pending := [.eventEnableWrite 0xFF, .halt] } with
      | .next t => t.pev.enables == 0xFF && t.pending == [Instr.halt]
      | _ => false) = true := by decide

/-! ### States and operands that meet the statements' hypotheses -/

theorem test_meets_StepRunsTheFrontCommand :
    State.reset.pending = [] ∧ ({ atWork with pending := [.halt] } : State).pending = .halt :: [] := by decide

theorem test_meets_RegistersReadAndCommand :
    (0x80 : Word).getLsbD 7 = true ∧ (0x0F : Word).getLsbD 7 = false ∧ (0x0F : Word).getLsbD 1 = true
    ∧ (0x0D : Word).getLsbD 1 = false ∧ (0x0D : Word).getLsbD 0 = true ∧ (0x0D : Word).getLsbD 2 = true := by decide

theorem test_meets_EnablesAreReplacedAndChooseTheLine : Instr.memoryFault ∈ [Instr.halt, .start, .memoryFault] := by decide

/-- A part in START's work at a phase, with the access it waits for. -/
def starting (p : StartPhase) (k : AccessKind) (halt : Bool) : State :=
  onBus .startUp k
    { part .starting .run with
      mpt := { runState := .starting, haltPending := halt }
      ssc := { sheet := some ⟨0x1000, 4⟩, startUp := some p } }

theorem test_meets_StartTakesTheSetupBlock :
    (StartUpAnswered setupBytes (starting .setupRead (.read 32) false)
      ∧ StartUpAnswered (setupBytes.set 6 251) (starting .setupRead (.read 32) true))
    ∧ (portRule { State.reset with mpt := { setupAddress := 4 } } = true
      ∧ portRule { State.reset with mpt := { setupAddress := 3 } } = true
      ∧ State.reset.mpt.runState = .halted ∧ (4 : Word).toNat % 4 = 0 ∧ (3 : Word).toNat % 4 ≠ 0
      ∧ portRule atWork = true ∧ atWork.mpt.runState ≠ .halted)
    ∧ (let s := starting .setupRead (.read 32) true
      s.mpt.asked = [] ∧ s.mpt.waiting = [] ∧ s.ssc.startUp = some .setupRead ∧ s.clk.hold = []
      ∧ readSetup (setupBytes.set 6 251) = none ∧ (readSetup setupBytes).isSome = true ∧ s.mpt.haltPending = true
      ∧ (starting .setupRead (.read 32) false).mpt.haltPending = false) :=
  ⟨⟨⟨_, rfl, rfl, rfl⟩, ⟨_, rfl, rfl, rfl⟩⟩, by decide, by decide⟩

theorem test_meets_SetupBlockIsValidExactlyWhen : ∃ b, readSetup setupBytes = some b := ⟨_, rfl⟩

theorem test_meets_SweepAnswersTakenSlots :
    (StartUpAnswered [2] (starting (.sweepState 0) (.read 1) false)
      ∧ StartUpAnswered [3] (starting (.sweepState 2) (.read 1) false)
      ∧ StartUpAnswered [0] (starting (.sweepState 3) (.read 1) false)
      ∧ StartUpAnswered [7, 0] (starting (.sweepTag 3) (.read 2) false)
      ∧ StartUpAnswered [] (starting (.sweepAnswer 3) (.write []) false)
      ∧ StartUpAnswered [] (starting (.sweepDone 2) (.write []) false)
      ∧ StartUpAnswered [] (starting (.sweepDone 3) (.write []) false))
    ∧ (let s := starting (.sweepDone 3) (.write []) false
      s.mpt.asked = [] ∧ s.mpt.waiting = [] ∧ s.mpt.haltPending = false ∧ s.clk.hold = [] ∧ slotCount s = 4
      ∧ byteAt [2] 0 = slotTaken ∧ byteAt [3] 0 ≠ slotTaken ∧ byteAt [0] 0 ≠ slotTaken)
    ∧ (StartUpAnswered [0] (starting (.sweepState 2) (.read 1) true)
      ∧ StartUpAnswered [] (starting (.sweepDone 2) (.write []) true))
    ∧ (starting (.sweepState 2) (.read 1) true).mpt.haltPending = true
    ∧ (starting (.sweepState 2) (.read 1) true).clk.hold = [] :=
  ⟨⟨⟨_, rfl, rfl, rfl⟩, ⟨_, rfl, rfl, rfl⟩, ⟨_, rfl, rfl, rfl⟩, ⟨_, rfl, rfl, rfl⟩, ⟨_, rfl, rfl, rfl⟩,
    ⟨_, rfl, rfl, rfl⟩, ⟨_, rfl, rfl, rfl⟩⟩, by decide, ⟨⟨_, rfl, rfl, rfl⟩, ⟨_, rfl, rfl, rfl⟩⟩, by decide, by decide⟩

theorem test_meets_HaltBringsThePartToHalting :
    (∀ r ∈ [RunState.halted, .halting, .starting], ∀ p ∈ [PowerState.run, .sleep],
      portRule (part r p) = true ∧ (part r p).mpt.runState = r)
    ∧ (∀ p ∈ [PowerState.run, .reduced, .doze, .sleep],
      portRule (part .running p) = true ∧ (part .running p).clk.hold = [] ∧ (part .running p).pev.power = p)
    ∧ ({ part .running .doze with clk := { holder := .sense } } : State).clk.holder = .sense
    ∧ ClaimFor.token ≠ .card
    ∧ ∀ x ∈ [Session.waitingField, .presence, .reading, .asking askingOne, .deciding draftOne planOne .awaitReservation,
        .stamping .check draftOne planOne, .closing (.coded .halted none) {} .writeAnswer],
      ∀ rest ∈ [[], [second], [ended]],
      let s : State := { withHead x with
        clk := { (withHead x).clk with hold := held x :: rest, pendingStamp := some stampOne } }
      portRule s = true ∧ s.mpt.runState = .running ∧ s.pev.power = .run ∧ s.clk.hold = held x :: rest
      ∧ rest.length ≤ 1 ∧ (held x).slot ∉ rest.map HeldTask.slot ∧ (∀ y ∈ rest, waitsOrCloses y.session = true)
      ∧ s.clk.holder = .session ∧ s.clk.pendingStamp = some stampOne := by decide +kernel

theorem test_meets_EntriesToHalted :
    (part .halting .run).mpt.runState = .halting ∧ nothingLeft (part .halting .run) = true
    ∧ ({ withHead .presence with mpt := { runState := .halting } } : State).clk.hold ≠ []
    ∧ ∀ p ∈ [PowerState.run, .reduced, .doze],
      let s := onBus .scan (.read 1) (part .running p)
      s.mpt.flight.isSome = true ∧ s.pev.power = p := by decide

theorem test_meets_NudgeByRunAndPowerState :
    (part .halted .run).mpt.runState ≠ .running
    ∧ (∀ p ∈ [PowerState.run, .reduced, .doze, .sleep],
      let s := part .running p
      portRule s = true ∧ s.mpt.runState = .running ∧ s.ssc.scan = none ∧ s.ssc.cursor < slotCount s
      ∧ s.ssc.cursor ∉ heldSlots s)
    ∧ ∀ p ∈ [PowerState.run, .doze],
      let s : State := { onBus .scan (.read 1) (scanning .readState) with pev := { power := p } }
      portRule s = true ∧ s.mpt.runState = .running ∧ s.pev.power = p ∧ s.ssc.scan.isSome = true := by decide

theorem test_meets_CoverageByStops :
    routeOk fourStops = true ∧ ProductClass.single ≠ .zonePass ∧ fourStops[3]? = some ⟨2015, 2⟩
    ∧ fourStops[0]? = some ⟨2001, 1⟩ ∧ (fare 1 2015 2001 0).origin = 2015 ∧ (fare 1 2015 2001 0).destination = 2001 := by
  decide

theorem test_meets_CoverageByZones :
    routeOk fourStops = true ∧ (fare 1 0 2001 2).origin = 0 ∧ (fare 1 7 0 2).origin ∉ fourStops.map Stop.code
    ∧ (fare 1 2001 0 2).destination = 0 ∧ (fare 1 2001 7 0).zones = 0 := by decide

/-- A record under the key of slot 7, with a right check value. -/
def keyOne : List Byte := List.replicate 16 1
def goodFare (cls : Byte) : FareRecord :=
  { fare cls 2001 2015 0 with keyIndex := 7, partySize := 9, rides := 99, check := crc32 (keyOne ++ (fare cls 0 0 0).covered) }
def judging (stamp : StampStanding) : Judging :=
  { keys := { keys := (Vector.replicate 8 none).set 7 (some keyOne) }, rcx := onRoute (.atStop 0), position := .atStop 0
    stamp := stamp, seated := 2, rideShown := false }

theorem test_meets_TestsInOrder :
    (7 < ({ fare 1 1 1 0 with keyIndex := 8 } : FareRecord).keyIndex.toNat
      ∧ (judging .absent).keys.keys[(fare 1 1 1 0).keyIndex.toNat]? = some none)
    ∧ (judging .absent).keys.keys[(goodFare 1).keyIndex.toNat]? = some (some keyOne)
    ∧ (∀ cls ∈ [(3 : Byte), 6], crc32 (keyOne ++ (goodFare cls).covered) = (goodFare cls).check)
    ∧ (productClass (goodFare 3).classCode = some .carnet ∧ productClass (goodFare 6).classCode = some .group
      ∧ (goodFare 3).travelClass = 2 ∧ (goodFare 3).rides.toNat ≤ 99 ∧ 1 ≤ (goodFare 6).partySize.toNat
      ∧ (goodFare 6).partySize.toNat ≤ 9 ∧ (goodFare 3).origin ≠ 65535 ∧ (goodFare 3).destination ≠ 65535
      ∧ (goodFare 3).fromMinute.toNat ≤ 2879 ∧ (goodFare 3).untilMinute.toNat ≤ 2879
      ∧ ¬ (1 ≤ (goodFare 7).classCode.toNat ∧ (goodFare 7).classCode.toNat ≤ 6))
    ∧ (judging (.intact ⟨1, 2, 3, 4, 5, 0, 2⟩)).stamp = .intact ⟨1, 2, 3, 4, 5, 0, 2⟩
    ∧ ((⟨1, 2, 3, 4, 5, 0, 2⟩ : StampRecord).place.toNat = 0 ∧ (⟨1, 2, 3, 4, 5, 0, 2⟩ : StampRecord).place.toNat ≠ 1)
    ∧ ([none, some (goodFare 3)][0]? = some none ∧ [none, some (goodFare 3)][1]? = some (some (goodFare 3))) :=
  ⟨by decide, by decide, by decide +kernel, by decide, rfl, by decide, rfl, rfl⟩

/-- A judged place of a class with a result. -/
def judged (k : Nat) (cls : Byte) (x : PlaceResult) : Judged := ⟨k, fare cls 0 0 0, x⟩

theorem test_meets_ChoiceAndRanking :
    let js := [judged 0 3 .usable, judged 1 4 .usable, judged 2 1 (.failed .expired)]
    (js.map Judged.place).Pairwise (fun a b => a < b) ∧ chooseUsable js = some (judged 1 4 .usable)
    ∧ rankFailure js = some (judged 2 1 (.failed .expired), .expired) := by decide

/-- An inspection of a card with one record that passes every test. -/
def inspection (cls : Byte) (ride : Bool) : Inspection :=
  { card := true, cred := 5, places := [some (goodFare cls), none, none], stamp := .absent, seated := 2, ride := ride }

/-- A seen record, pinned or not. -/
def seen (n : Word) (cred : Cred) (x : StampState) : SeenRecord :=
  { cred := cred, number := n, source := .localPart, firstVerdict := some .valid, firstStop := 1, firstMinute := 0
    lastStop := 1, count := 255, ride := .peer, peerConductor := some 8, stamp := x
    pendingSequence := if x = .uncertain then some 3 else none, place := some 0 }

/-- A record of a ride that a peer took. -/
def seenPeer : SeenRecord := seen 2 5 .none

/-- The answers of the three blocks. -/
def repliesOf (hit : Option DenyEntry) (c : RunningContext) (x : Option SeenRecord) : Replies :=
  ⟨c, ⟨.ready, hit⟩, ⟨x, 0, .none⟩⟩

theorem test_meets_VerdictOrder :
    (repliesOf (some ⟨5, .stolen, .refuse, 0⟩) {} none).denied.hit = some ⟨5, .stolen, .refuse, 0⟩
    ∧ ((repliesOf none {} none).denied.hit = none ∧ (repliesOf none {} none).context.state = .none)
    ∧ ([none, some (goodFare 1)][0]? = some none ∧ [none, some (goodFare 1)][1]? = some (some (goodFare 1)))
    ∧ (let r := repliesOf none (onRoute (.atStop 0)) none
      r.denied.hit = none ∧ r.context.state = .active ∧ r.context.position = some (.atStop 0)
      ∧ (r.seen.record.map fun x => x.ride != .none).getD false = false)
    ∧ ((repliesOf none (onRoute (.atStop 0)) (some seenPeer)).seen.record.map fun x => x.ride != .none).getD false = true
    ∧ (∀ cls ∈ [(1 : Byte), 3], ∀ shown ∈ [true, false],
      (chooseUsable (judgedPlaces { judging .absent with rideShown := shown } (inspection cls true).places)).isSome = true)
    ∧ (chooseUsable (judgedPlaces (judging .absent) [some (fare 1 1 1 0)]) = none
      ∧ (rankFailure (judgedPlaces (judging .absent) [some (fare 1 1 1 0)])).isSome = true)
    ∧ chooseUsable (judgedPlaces (judging .absent) [none]) = none
    ∧ rankFailure (judgedPlaces (judging .absent) [none]) = none := by decide +kernel

/-- A seen table of two records, the first pinned. -/
def twoSeen : SeenTable := { records := [seen 1 5 .uncertain, seen 2 6 .none], counter := .next 3 }

theorem test_meets_DecisionPointConsultsTheBlocks :
    State.reset.rcx.state = .none ∧ (onRoute (.atStop 0)).state = .active
    ∧ (let w : Asks := ⟨true, false, false⟩
      w.context = true ∧ w.denyList = false ∧ w.seenTable = false ∧ Asks.all.denyList = true ∧ Asks.all.seenTable = true
      ∧ askingOne.context = none ∧ askingOne.denied = none ∧ askingOne.seen = none
      ∧ { askingOne with context := some {}, denied := some ⟨.ready, none⟩, seen := some ⟨none, 0, .none⟩ }.context.isSome)
    ∧ (let s : State := { atWork with snt := twoSeen }
      findSeen 6 (deliverUpdates s).snt = some (seen 2 6 .none) ∧ (seen 2 6 .none).stamp ≠ .uncertain
      ∧ (resolve 5 .absent (contextAnswer s.rcx) (deliverUpdates s).snt).isSome = true
      ∧ (askBlocks .all askingOne s).asking.context.isSome = true ∧ (askBlocks .all askingOne s).asking.denied.isSome = true
      ∧ (askBlocks .all askingOne s).asking.seen.isSome = true
      ∧ (askBlocks ⟨true, true, false⟩ askingOne s).asking.seen = none)
    ∧ seenEngaged atWork = false ∧ seenEngaged (engaged atWork) = true
    ∧ seenEngaged (scanning (.serving ⟨7, .tokenInspect ⟨0, 1, true⟩⟩ (.tokenAsk consultedOne))) = true
    ∧ seenEngaged (scanning (.serving ⟨7, .tokenInspect ⟨0, 1, true⟩⟩ (.tokenAsk askingOne))) = false
    ∧ consultedOne.emptied = none ∧ emptiedOne.emptied = some 4 := by decide

/-- A ruling of a ride. -/
def rules : Ruling → Bool
  | .ride _ _ _ => true
  | .final _ => false

/-- Decision points come to a ride and to a final verdict, with and without a denied ID. -/
theorem test_rulings :
    let keys := (judging .absent).keys
    let on := repliesOf none (onRoute (.atStop 0)) none
    rules (rule (inspection 3 true) keys on) = true ∧ rules (rule (inspection 3 false) keys on) = false
    ∧ rules (rule (inspection 3 true) keys (repliesOf (some ⟨5, .stolen, .refuse, 0⟩) {} none)) = false
    ∧ on.denied.hit = none ∧ on.seen.pins < 32 ∧ on.seen.claim ≠ .waiting
    ∧ rules (rule (inspection 3 true) keys { on with seen := ⟨none, 32, .waiting⟩ }) = true := by decide +kernel

theorem test_meets_DoubtfulStampIsResolved :
    (inspection 1 true).card = true ∧ findSeen (inspection 1 true).cred twoSeen = some (seen 1 5 .uncertain)
    ∧ (seen 1 5 .uncertain).stamp = .uncertain ∧ ({ atWork with snt := twoSeen } : State).snt.updates = []
    ∧ findSeen 6 twoSeen = some (seen 2 6 .none) ∧ (seen 2 6 .none).stamp ≠ .uncertain ∧ findSeen 7 twoSeen = none
    ∧ ({ inspection 1 true with card := false }).card = false
    ∧ (let s : State := { atWork with snt := twoSeen, ven := (judging .absent).keys, rcx := onRoute (.atStop 0) }
      let x := askBlocks .all { inspection := inspection 3 true } s
      seenEngaged s = false
      ∧ (x.asking.replies.map fun y => rules (conclude x.asking y x.claims x.state).2.ruling) = some false) := by
  refine ⟨rfl, rfl, rfl, rfl, rfl, by decide, rfl, rfl, by decide +kernel⟩

/-- The request area of a POSTED slot. -/
def posted (fields : List Byte) : List Byte := (fields ++ List.replicate 20 0).take 20

/-- A part whose scan has its last slot in hand. -/
def lastSlot (r : RunState) (p : PowerState) (g : ScanPhase) (k : AccessKind) : State :=
  let s := part r p
  onBus .scan k { s with ssc := { s.ssc with scan := some { scanOf g with index := 3, remaining := 0 } } }

theorem test_meets_ScansBeginAndEnd :
    (∀ r : RunState, ScanAnswered [0] (lastSlot r .run .readState (.read 1)) ∧ ScanAnswered [1] (lastSlot r .run .readState (.read 1))
      ∧ ScanAnswered [1, 7, 0] (lastSlot r .run .readHead (.read 3))
      ∧ ScanAnswered (posted [0, 2, 1]) (lastSlot r .run (.readRequest [1, 7, 0]) (.read 20))
      ∧ ScanAnswered [] (lastSlot r .run (.writeDone none) (.write [])))
    ∧ NoneFree [] { scanOf .readState with index := 3, remaining := 0 } atWork
    ∧ (∀ r ∈ [RunState.running, .halting], ∀ g ∈ [ScanPhase.readState, .readHead, .readRequest [1, 7, 0], .writeDone none],
      let s := lastSlot r .run g (.read 1)
      s.mpt.asked = [] ∧ s.mpt.runState = r ∧ (s.ssc.scan.map Scan.phase) = some g ∧ heldSlots s = []
      ∧ { scanOf g with cardPassed := true }.cardPassed = true
      ∧ readSlot (slotCount s) (slotPosted :: ([1, 7, 0] ++ posted [0, 2, 1])) = .good (.cardInspect ⟨10, 2, true⟩))
    ∧ (∀ p ∈ [PowerState.run, .reduced, .doze], ∀ e ∈ [true, false],
      let s : State := { part .running p with
        ssc := { atWork.ssc with extraScan := e }, pev := { power := p, dozeJob := some (.scanning 600) } }
      s.pev.power = p ∧ s.ssc.extraScan = e ∧ s.ssc.cursor < slotCount s ∧ s.ssc.cursor ∉ heldSlots s
      ∧ s.pev.dozeJob = some (.scanning 600) ∧ (part .halting .run).pev.dozeJob = none)
    ∧ (let s : State := { withHead .waitingField with ssc := { atWork.ssc with cursor := 1, pollTimer := some 10 } }
      s.mpt.asked = [] ∧ scansAllowed s = true ∧ s.ssc.scan = none ∧ slotCount s = 4 ∧ s.ssc.cursor < slotCount s
      ∧ (s.ssc.cursor + 1) % 4 ∉ heldSlots s ∧ (∀ m < 1, (s.ssc.cursor + m) % 4 ∈ heldSlots s)
      ∧ s.ssc.pollTimer.isSome = true) := by
  refine ⟨fun _ => ⟨⟨_, rfl, rfl, rfl⟩, ⟨_, rfl, rfl, rfl⟩, ⟨_, rfl, rfl, rfl⟩, ⟨_, rfl, rfl, rfl⟩, ⟨_, rfl, rfl, rfl⟩⟩,
    fun _ h => absurd h (Nat.not_lt_zero _), by decide, by decide, by decide⟩

theorem test_meets_ClockAndSettling :
    ({ minute := 2878 } : RunningContext).minute ≠ 2879 ∧ ({ minute := 2879 } : RunningContext).minute = 2879
    ∧ ({ minuteTimer := false } : RunningContext).minuteTimer = false
    ∧ ∀ g ∈ [SettlingGoal.halt, .scan],
      let s : State := { part .running .sleep with pev := { power := .sleep, settling := some g } }
      portRule s = true ∧ s.pev.settling = some g ∧ s.clk.hold = [] ∧ s.ssc.scan = none ∧ s.ssc.cursor < slotCount s
      ∧ s.ssc.cursor ∉ heldSlots s := by decide

/-- A part in DOZE whose wake timer runs. -/
def dozing (h : FieldHolder) (tripped : Bool) : State :=
  { part .running .doze with
    clk := { holder := h }, fmn := { overcurrent := tripped }
    pev := { power := .doze, wakeTimer := some 600, senseTimer := true, senseReference := some 30 } }

/-- A part at the end of the head's task, with a task waiting and a FIELD TEST's check in progress. -/
def abandoning : State :=
  let s := scanning (.serving ⟨7, .fieldTest⟩ .antennaCheck)
  onBus (.card 1) (.write [])
    { s with
      fmn := { passive := some .fieldTest }
      clk := { hold := [held (.closing (.ok draftOne) {} .writeDone), second] } }

theorem test_meets_PassiveChecks :
    (∀ h ∈ [FieldHolder.none, .sense], ∀ b ∈ [true, false],
      let s := dozing h b
      portRule s = true ∧ s.mpt.runState = .running ∧ s.pev.power = .doze ∧ s.pev.wakeTimer = some 600 ∧ s.clk.holder = h
      ∧ s.fmn.overcurrent = b ∧ s.fmn.thermalShutdown = false ∧ s.ssc.cursor < slotCount s ∧ s.ssc.cursor ∉ heldSlots s)
    ∧ (let s : State := { scanning (.serving ⟨7, .fieldTest⟩ .antennaCheck) with fmn := { passive := some .fieldTest } }
      s.fmn.passive = some .fieldTest ∧ (servedTask s).isSome = true)
    ∧ (let s : State := { dozing .none false with
        fmn := { passive := some .doze }, pev := { power := .doze, dozeJob := some (.checking 600) } }
      s.fmn.passive = some .doze ∧ s.pev.dozeJob = some (.checking 600) ∧ portRule s = true)
    ∧ (InHand (scanOf (.handed ⟨7, .fieldTest⟩)) ⟨7, .fieldTest⟩ (handed .fieldTest))
    ∧ (tempQuiet 104 (handed .fieldTest).fmn = true ∧ tempQuiet 105 (handed .fieldTest).fmn = false
      ∧ (handed .fieldTest).clk.holder = .none ∧ (withHead .presence).clk.holder ≠ .none)
    ∧ CardAnswered 1 abandoning
    ∧ (let s := abandoning
      let h := held (.closing (.ok draftOne) {} .writeDone)
      s.mpt.asked = [] ∧ s.clk.hold = [h, second] ∧ h.slot ≠ second.slot ∧ second.session = .waitingField
      ∧ s.clk.holder = .none ∧ fieldBlocked s = false ∧ s.fmn.passive = some .fieldTest
      ∧ servedTask s = some (scanOf (.serving ⟨7, .fieldTest⟩ .antennaCheck), ⟨7, .fieldTest⟩, .antennaCheck))
    ∧ (let s : State := { scanning (.serving ⟨7, .fieldTest⟩ .antennaCheck) with fmn := { passive := some .fieldTest } }
      portRule s = true ∧ (125 : Int) ≤ 125 ∧ (150 : Int) ≤ 150 ∧ s.clk.holder = .none
      ∧ s.ssc.cursor < slotCount s ∧ s.ssc.cursor ∉ heldSlots s) :=
  ⟨by decide, by decide, by decide, ⟨rfl, rfl⟩, by decide, ⟨_, rfl, rfl, rfl⟩, by decide, by decide⟩

theorem test_meets_SensePulses :
    let s := dozing .none false
    let u := dozing .sense false
    (portRule s = true ∧ s.mpt.runState = .running ∧ s.pev.power = .doze ∧ s.pev.senseTimer = true
      ∧ s.clk.holder = .none ∧ fieldBlocked s = false ∧ s.fmn.passive = none)
    ∧ fieldBlocked { s with fmn := { overcurrentBlock := true } } = true
    ∧ u.clk.holder = .sense ∧ u.clk.hold = [] ∧ u.pev.dozeJob = none ∧ u.pev.senseReference = some 30
    ∧ (let v : State := { s with fmn := { passive := some .doze }, pev := { s.pev with dozeJob := some (.checking 600) } }
      portRule v = true ∧ v.pev.senseTimer = true ∧ v.clk.holder = .none ∧ fieldBlocked v = false
        ∧ v.fmn.passive = some .doze ∧ v.pev.dozeJob = some (.checking 600) ∧ v.ssc.cursor < slotCount v
        ∧ v.ssc.cursor ∉ heldSlots v)
    ∧ (35 ≤ 30 + 5 ∧ 30 ≤ 35 + 5) ∧ (30 + 5 < 36) ∧ (24 + 5 < 30) ∧ u.ssc.scan = none ∧ passiveSkipped u = false := by
  decide

theorem test_meets_DetectionsForceTheFieldOff :
    ∀ x ∈ [Session.presence, .reading, .asking askingOne, .deciding draftOne planOne .awaitResolved,
        .stamping .put draftOne planOne],
      let s : State := { withHead x with
        fmn := { stopOnOpen := true }, clk := { (withHead x).clk with pendingStamp := some stampOne } }
      portRule s = true ∧ s.fmn.passive = none ∧ s.clk.holder = .session ∧ s.clk.hold = held x :: []
      ∧ (held x).slot ∉ ([] : List HeldTask).map HeldTask.slot ∧ s.fmn.detected = false ∧ s.fmn.stopOnOpen = true
      ∧ s.clk.pendingStamp = some stampOne := by decide

theorem test_meets_TemperatureCrossings :
    portRule atWork = true ∧ atWork.fmn.shutdownBlock = false
    ∧ ((105 : Int) ≤ 105 ∧ (105 : Int) < 125) ∧ ((125 : Int) ≤ 125 ∧ (125 : Int) ≤ 150)
    ∧ ((95 : Int) < 96 ∧ (96 : Int) < 110 ∧ (96 : Int) < 105) ∧ ((-40 : Int) ≤ -40 ∧ (95 : Int) ≤ 95)
    ∧ ({ thermalWarning := true, reducedDuty := true, shutdownBlock := true } : FieldMonitor).reducedDuty = true
    ∧ (let s : State := { withHead .presence with fmn := { reducedDuty := true } }
      s.clk.holder = .session ∧ s.fmn.reducedDuty = true ∧ s.clk.tries ≠ 0
      ∧ ({ s with clk := { s.clk with tries := 0 } } : State).clk.tries = 0 ∧ (withHead .presence).fmn.reducedDuty = false
      ∧ (dozing .sense false).clk.holder = .sense ∧ (dozing .none false).clk.holder = .none) := by decide

theorem test_meets_PresenceWaitsForOneCard :
    let s := withHead .presence
    portRule s = true ∧ s.clk.hold = held .presence :: [] ∧ s.clk.holder = .session ∧ s.clk.tries ≠ 0
    ∧ (5 : Cred) ≠ 0 ∧ (3 : Byte).toNat ≤ 3 ∧ 3 < (4 : Byte).toNat := by decide

theorem test_meets_TriesAndExhaustion :
    ∀ x ∈ [Session.presence, .reading, .stamping .put draftOne planOne, .stamping .check draftOne planOne],
      ∀ n ∈ [2, 3],
      let s : State := { withHead x with clk := { (withHead x).clk with tries := n, pendingStamp := some stampOne } }
      portRule s = true ∧ s.clk.hold = held x :: [] ∧ s.clk.holder = .session ∧ (s.clk.tries < 3 ∨ 3 ≤ s.clk.tries)
      ∧ cardIdOf s ≠ some 6 := by decide

theorem test_meets_AreaLeadsToTheDecision :
    let s := withHead .reading
    let id : CardIdentity := ⟨5, 0, false⟩
    portRule s = true ∧ s.clk.hold = held .reading :: [] ∧ s.clk.identity = some id ∧ s.clk.holder = .session
    ∧ ([] : List (List Byte)).length = id.filled ∧ (none : Option (List Byte)).isSome = id.stamp
    ∧ (let u := withHead (.asking askingOne)
      portRule u = true ∧ u.clk.hold = held (.asking askingOne) :: [] ∧ u.clk.holder = .session
      ∧ (askBlocks .all askingOne u).asking.replies.isSome = true
      ∧ (askBlocks ⟨true, false, true⟩ askingOne u).asking.replies = none) := by decide

theorem test_meets_StampingIsClassifiedAndActs :
    (∀ x ∈ [StampExchange.put, .check],
      let s : State := { withHead (.stamping x draftOne planOne) with
        clk := { (withHead (.stamping x draftOne planOne)).clk with pendingStamp := some stampOne } }
      s.clk.hold = held (.stamping x draftOne planOne) :: [] ∧ cardIdOf s = some 5 ∧ s.clk.pendingStamp = some stampOne
      ∧ s.clk.holder = .session)
    ∧ classify stampOne (.intact ⟨1, 0, 0, 0, 0, 0, 0⟩) = .landed ∧ classify stampOne .absent = .notLanded
    ∧ classify { stampOne with old := some 0 } (.intact ⟨0, 0, 0, 0, 0, 0, 0⟩) = .notLanded
    ∧ classify { stampOne with old := some 0 } .absent = .uncertain
    ∧ classify stampOne (.intact ⟨2, 0, 0, 0, 0, 0, 0⟩) = .uncertain := by decide

/-- A part whose Journal Writer has a queue and a service. -/
def journalling (q : List JournalJob) (v : JournalService) (s : State) : State :=
  { s with jnw := { s.jnw with queue := q, service := v } }

theorem test_meets_ReservationGrantedComposesTheStamp :
    let s := journalling [.reserve] (.markRead 0x5A) (withHead (.deciding draftOne planOne .awaitReservation))
    portRule s = true ∧ s.clk.hold = held (.deciding draftOne planOne .awaitReservation) :: []
    ∧ s.jnw.ring = some ⟨0x2000, 8⟩ ∧ s.jnw.queue = [.reserve] ∧ s.jnw.service = .markRead 0x5A := by decide

/-- One slot of each kind, with good fields at the ends of their ranges. -/
theorem test_meets_RequestsAreReadByTheTable :
    readSlot 4 [1, 1, 0, 0, 30, 1, 0] = .good (.cardInspect ⟨30, 1, false⟩)
    ∧ readSlot 4 [1, 2, 0, 0, 1, 0, 0, 0, 2, 1] = .good (.tokenInspect ⟨1, 2, true⟩)
    ∧ readSlot 4 [1, 3, 0, 0, 2, 0, 1, 0, 0, 0, 0x3F, 0x0B, 9, 0, 48, 0, 4] =
      .good (.route ⟨.continueTrip, 1, 0, 2879, 9, 48, 4⟩)
    ∧ readSlot 4 [1, 4, 0, 0, 1, 0, 0xFE, 0xFF, 1, 0, 0x3F, 0x0B] = .good (.position ⟨.arrive, 65534, some 2879⟩)
    ∧ readSlot 4 [1, 4, 0, 0, 2, 0, 1, 0, 0, 0, 0x40, 0x0B] = .good (.position ⟨.depart, 1, none⟩)
    ∧ readSlot 4 [1, 5, 0, 0, 0, 0, 1, 0, 1, 0, 0, 0, 0, 1] = .good (.denyReplace ⟨0, true, false, 1, 256, 0⟩)
    ∧ readSlot 4 [1, 6, 0, 0, 0, 0, 1, 1, 0, 0, 0, 0, 128] = .good (.denyDelta ⟨0, true, true, 0, 128, 0⟩)
    ∧ readSlot 4 [1, 7, 0, 0, 3] = .good (.denyPrune 3)
    ∧ readSlot 4 [1, 8, 0, 0, 32] = .good (.peerNotes 32 0)
    ∧ readSlot 4 [1, 9, 0, 0, 0, 0, 0, 0, 0, 1] = .good (.seenExport 0 256 0)
    ∧ readSlot 4 [1, 10] = .good .fieldTest
    ∧ readSlot 4 [1, 11, 0, 0, 3, 0, 0x58, 2, 1] = .good (.power .doze 600 true)
    ∧ readSlot 4 [1, 11, 0, 0, 4] = .good (.power .sleep 0 false)
    ∧ readSlot 4 [1, 13, 0, 0, 7, 1] = .good (.keyLoad 7 true 0)
    ∧ readSlot 4 [1, 14, 0, 0, 7] = .good (.keyClear 7) ∧ readSlot 4 [1, 15] = .good (.status 0)
    ∧ readSlot 4 [1, 16] = .good (.identify 0) := by decide

/-- A field at either side of its range makes the task bad. -/
theorem test_fieldsOutOfRange :
    readSlot 4 [1, 3, 0, 0, 3, 0, 1] = .badField .route
    ∧ readSlot 4 [1, 4, 0, 0, 1, 0, 0xFF, 0xFF] = .badField .position
    ∧ readSlot 4 [1, 5, 0, 0, 0, 0, 1, 0, 0, 0, 0, 0, 0, 1] = .badField .denyReplace
    ∧ readSlot 4 [1, 6, 0, 0, 0, 0, 1, 1, 0, 0, 0, 0, 129] = .badField .denyDelta
    ∧ readSlot 4 [1, 8, 0, 0, 0] = .badField .peerNotes ∧ readSlot 4 [1, 8, 0, 0, 33] = .badField .peerNotes
    ∧ readSlot 4 [1, 9, 0, 0, 0, 0, 0, 0, 1, 1] = .badField .seenExport
    ∧ readSlot 4 [1, 11, 0, 0, 5] = .badField .power ∧ readSlot 4 [1, 11, 0, 0, 3, 0, 0x59, 2, 1] = .badField .power
    ∧ readSlot 4 [1, 13, 0, 0, 8, 1] = .badField .keyLoad ∧ readSlot 4 [1, 14, 0, 0, 8] = .badField .keyClear := by decide

theorem test_meets_ScanTreatsSlots :
    (ScanAnswered [1] (onBus .scan (.read 1) (scanning .readState))
      ∧ ScanAnswered [3] (onBus .scan (.read 1) (scanning .readState))
      ∧ ScanAnswered [17, 7, 0] (onBus .scan (.read 3) (scanning .readHead))
      ∧ ScanAnswered [1, 7, 0] (onBus .scan (.read 3) (scanning .readHead))
      ∧ ScanAnswered (posted [0, 2, 1]) (onBus .scan (.read 20) (scanning (.readRequest [1, 7, 0])))
      ∧ ScanAnswered [] (onBus .scan (.write [2]) (scanning (.writeTaken 7 (.badField .power)))))
    ∧ NextFree (heldSlots (withHead .presence)) (scanOf .readState) 1 (withHead .presence)
    ∧ NextFree (heldSlots atWork) (scanOf .readState) 0 atWork
    ∧ ((scanning .readState).mpt.asked = [] ∧ (scanning .readState).mpt.runState = .running
      ∧ (scanning .readState).ssc.scan = some (scanOf .readState)
      ∧ (byteAt [17, 7, 0] 0).toNat = 17 ∧ (byteAt [1, 7, 0] 0).toNat = 1 ∧ [(1 : Byte), 7, 0].length = 3
      ∧ readSlot 4 (slotPosted :: ([1, 7, 0] ++ posted [0, 2, 1])) = .good (.cardInspect ⟨10, 2, true⟩)
      ∧ readSlot 4 (slotPosted :: ([15, 7, 0] ++ posted [])) = .good (.status 0)
      ∧ { scanOf .readHead with cardPassed := true }.cardPassed = true ∧ (scanOf .readHead).cardPassed = false
      ∧ (scanning .readHead).pev.power ≠ .doze
      ∧ ({ scanning .readHead with pev := { power := .doze } } : State).pev.power = .doze) :=
  ⟨⟨⟨_, rfl, rfl, rfl⟩, ⟨_, rfl, rfl, rfl⟩, ⟨_, rfl, rfl, rfl⟩, ⟨_, rfl, rfl, rfl⟩, ⟨_, rfl, rfl, rfl⟩,
    ⟨_, rfl, rfl, rfl⟩⟩, ⟨by decide, by decide, by decide⟩, ⟨by decide, by decide, by decide⟩, by decide⟩

theorem test_meets_CompletionAtDone :
    (ScanAnswered [] (onBus .scan (.write []) (scanning (.writeAnswer 7 none)))
      ∧ ScanAnswered [] (onBus .scan (.write []) (scanning (.writeDone none))))
    ∧ NextFree (heldSlots atWork) (scanOf (.writeDone none)) 0 atWork
    ∧ (CardAnswered 1 (onBus (.card 1) (.write []) (withHead (.closing (.ok draftOne) {} .writeAnswer)))
      ∧ CardAnswered 1 (onBus (.card 1) (.write []) (withHead (.closing (.ok draftOne) {} .writeDone))))
    ∧ (let h := held (.closing (.ok draftOne) {} .writeDone)
      let s : State := { atWork with clk := { hold := [h, second] } }
      s.mpt.asked = [] ∧ h.slot ∉ [second].map HeldTask.slot ∧ second.session = .waitingField ∧ s.clk.holder = .none
      ∧ fieldBlocked s = false ∧ s.fmn.passive = none ∧ s.mpt.runState ≠ .halting
      ∧ fieldBlocked { s with fmn := { openBlock := true } } = true)
    ∧ ∀ sc t body, ¬ Serving sc t (.cancelWait 1 body) (withHead .presence) :=
  ⟨⟨⟨_, rfl, rfl, rfl⟩, ⟨_, rfl, rfl, rfl⟩⟩, ⟨by decide, by decide, by decide⟩,
    ⟨⟨_, rfl, rfl, rfl⟩, ⟨_, rfl, rfl, rfl⟩⟩, by decide, fun _ _ _ h => nomatch h.1⟩

theorem test_meets_CardInspectEntersTheHold :
    InHand (scanOf (.handed ⟨7, .cardInspect ⟨10, 2, true⟩⟩)) ⟨7, .cardInspect ⟨10, 2, true⟩⟩
      (handed (.cardInspect ⟨10, 2, true⟩))
    ∧ NextFree (heldSlots atWork ++ [0]) (scanOf .readState) 0 atWork
    ∧ NoneFree [0] { scanOf .readState with remaining := 0 } atWork
    ∧ (let s := handed (.cardInspect ⟨10, 2, true⟩)
      s.mpt.asked = [] ∧ 0 ∉ heldSlots s ∧ s.mpt.runState = .running ∧ s.fmn.passive = none ∧ s.clk.hold = []
      ∧ s.clk.holder = .none ∧ fieldBlocked s = false
      ∧ fieldBlocked { s with fmn := { openBlock := true } } = true
      ∧ ({ s with clk := { holder := .sense } } : State).clk.holder ≠ .none
      ∧ (withHead .presence).clk.hold ≠ [] ∧ 0 ∉ heldSlots (withHead .presence)
      ∧ ({ s with mpt := { runState := .halting } } : State).mpt.runState = .halting) :=
  ⟨⟨rfl, rfl⟩, ⟨by decide, by decide, by decide⟩, fun _ h => absurd h (Nat.not_lt_zero _), by decide⟩

theorem test_meets_TasksReadTheirBuffers :
    InHand (scanOf (.handed ⟨7, .tokenInspect ⟨0, 1, true⟩⟩)) ⟨7, .tokenInspect ⟨0, 1, true⟩⟩ (handed (.tokenInspect ⟨0, 1, true⟩))
    ∧ InHand (scanOf (.handed ⟨7, .route ⟨.newTrip, 1, 0, 0, 9, 48, 0⟩⟩)) ⟨7, .route ⟨.newTrip, 1, 0, 0, 9, 48, 0⟩⟩
      (handed (.route ⟨.newTrip, 1, 0, 0, 9, 48, 0⟩))
    ∧ InHand (scanOf (.handed ⟨7, .denyReplace ⟨0, true, true, 1, 256, 0⟩⟩)) ⟨7, .denyReplace ⟨0, true, true, 1, 256, 0⟩⟩
      (handed (.denyReplace ⟨0, true, true, 1, 256, 0⟩))
    ∧ InHand (scanOf (.handed ⟨7, .denyDelta ⟨0, true, true, 1, 0, 0⟩⟩)) ⟨7, .denyDelta ⟨0, true, true, 1, 0, 0⟩⟩
      (handed (.denyDelta ⟨0, true, true, 1, 0, 0⟩))
    ∧ InHand (scanOf (.handed ⟨7, .denyPrune 3⟩)) ⟨7, .denyPrune 3⟩ (handed (.denyPrune 3))
    ∧ (ScanAnswered [] (onBus .scan (.read 0)
        (scanning (.serving ⟨7, .denyReplace ⟨0, true, true, 1, 0, 0⟩⟩ .replaceRead)))
      ∧ Serving (scanOf (.serving ⟨7, .denyDelta ⟨0, true, true, 1, 1, 0⟩⟩ .deltaRead))
        ⟨7, .denyDelta ⟨0, true, true, 1, 1, 0⟩⟩ .deltaRead
        (scanning (.serving ⟨7, .denyDelta ⟨0, true, true, 1, 1, 0⟩⟩ .deltaRead))) :=
  ⟨⟨rfl, rfl⟩, ⟨rfl, rfl⟩, ⟨rfl, rfl⟩, ⟨rfl, rfl⟩, ⟨rfl, rfl⟩, ⟨_, rfl, rfl, rfl⟩, rfl, rfl⟩

/-- A token buffer with its serial. -/
def tokenBytes (serial : Byte) : List Byte := serial :: List.replicate 39 0

theorem test_meets_TokenInspectDecides :
    (ScanAnswered (tokenBytes 0) (onBus .scan (.read 40) (scanning (.serving ⟨7, .tokenInspect ⟨0, 1, true⟩⟩ .tokenRead)))
      ∧ ScanAnswered (tokenBytes 5) (onBus .scan (.read 40) (scanning (.serving ⟨7, .tokenInspect ⟨0, 1, true⟩⟩ .tokenRead))))
    ∧ Serving (scanOf (.serving ⟨7, .tokenInspect ⟨0, 1, true⟩⟩ .tokenRead)) ⟨7, .tokenInspect ⟨0, 1, true⟩⟩ .tokenRead
      (scanning (.serving ⟨7, .tokenInspect ⟨0, 1, true⟩⟩ .tokenRead))
    ∧ Serving (scanOf (.serving ⟨7, .tokenInspect ⟨0, 1, true⟩⟩ (.tokenAsk askingOne))) ⟨7, .tokenInspect ⟨0, 1, true⟩⟩
      (.tokenAsk askingOne) (scanning (.serving ⟨7, .tokenInspect ⟨0, 1, true⟩⟩ (.tokenAsk askingOne)))
    ∧ (credAt (tokenBytes 0) 0 = 0 ∧ credAt (tokenBytes 5) 0 ≠ 0 ∧ atWork.mpt.asked = []
      ∧ (askBlocks .all askingOne atWork).asking.replies.isSome = true
      ∧ (askBlocks ⟨false, true, true⟩ askingOne atWork).asking.replies = none) :=
  ⟨⟨⟨_, rfl, rfl, rfl⟩, ⟨_, rfl, rfl, rfl⟩⟩, ⟨rfl, rfl⟩, ⟨rfl, rfl⟩, by decide⟩

/-- The bytes of a list of two stops, and of two stops of one code. -/
def twoStops : List Byte := [0xD1, 7, 1, 0, 0xD4, 7, 1, 0]

theorem test_meets_RouteIsCheckedAndInstalled :
    let r : RouteRequest := ⟨.newTrip, 1, 0, 0, 2001, 2, 0⟩
    let c : RouteRequest := { r with mode := .continueTrip }
    (InHand (scanOf (.handed ⟨7, .route { r with count := 49 }⟩)) ⟨7, .route { r with count := 49 }⟩
        (handed (.route { r with count := 49 }))
      ∧ ScanAnswered twoStops (onBus .scan (.read 8) (scanning (.serving ⟨7, .route c⟩ .routeRead)))
      ∧ Serving (scanOf (.serving ⟨7, .route r⟩ (.routeInstall (readStops 2 twoStops)))) ⟨7, .route r⟩
        (.routeInstall (readStops 2 twoStops)) (scanning (.serving ⟨7, .route r⟩ (.routeInstall (readStops 2 twoStops)))))
    ∧ (∃ x ∈ readStops 2 (twoStops.set 2 32), x.code = 0 ∨ x.code = 65535 ∨ 31 < x.zone.toNat)
    ∧ (¬ ∃ x ∈ readStops 2 twoStops, x.code = 0 ∨ x.code = 65535 ∨ 31 < x.zone.toNat)
    ∧ (¬ ((readStops 2 (twoStops.set 4 0xD1)).map Stop.code).Nodup ∧ ((readStops 2 twoStops).map Stop.code).Nodup)
    ∧ (let s := engaged (onBus .scan (.read 8) (scanning (.serving ⟨7, .route r⟩ .routeRead)))
      s.clk.hold = [held (.asking consultedOne)] ∧ consultedOne.seen.isSome = true ∧ consultedOne.emptied = none
      ∧ askingOne.seen = none ∧ emptiedOne.emptied.isSome = true
      ∧ (match exec (.memoryResponse twoStops) s with
        | .next t => t.clk.hold == [held (.asking { consultedOne with emptied := some 0 })]
        | _ => false) = true)
    ∧ (r.start ∈ (readStops 2 twoStops).map Stop.code ∧ (9 : Half) ∉ (readStops 2 twoStops).map Stop.code)
    ∧ (State.reset.rcx.state = .none ∧ c.trip = (onRoute (.between 1)).trip
      ∧ currentStop (onRoute (.between 1)) = 2004 ∧ (readStops 2 twoStops)[1]? = some ⟨2004, 1⟩
      ∧ 1 + 1 = (readStops 2 twoStops).length ∧ currentStop (onRoute (.between 0)) = 2001
      ∧ (readStops 2 twoStops)[0]? = some ⟨2001, 1⟩ ∧ 0 + 1 < (readStops 2 twoStops).length
      ∧ currentStop (onRoute (.atStop 3)) ∉ (readStops 2 twoStops).map Stop.code) :=
  ⟨⟨⟨rfl, rfl⟩, ⟨_, rfl, rfl, rfl⟩, rfl, rfl⟩, by decide, by decide, by decide, by decide, by decide, by decide⟩

theorem test_meets_PositionMovesTheTrain :
    InHand (scanOf (.handed ⟨7, .position ⟨.depart, 2009, some 5⟩⟩)) ⟨7, .position ⟨.depart, 2009, some 5⟩⟩
      { handed (.position ⟨.depart, 2009, some 5⟩) with rcx := onRoute (.atStop 2) }
    ∧ InHand (scanOf (.handed ⟨7, .position ⟨.arrive, 2015, none⟩⟩)) ⟨7, .position ⟨.arrive, 2015, none⟩⟩
      { handed (.position ⟨.arrive, 2015, none⟩) with rcx := onRoute (.between 2) }
    ∧ (contextOk (onRoute (.atStop 2)) = true ∧ contextOk (onRoute (.between 2)) = true
      ∧ ((onRoute (.atStop 2)).route[2]?).map Stop.code = some 2009 ∧ 2 + 1 < (onRoute (.atStop 2)).route.length
      ∧ ((onRoute (.between 2)).route[3]?).map Stop.code = some 2015 ∧ (2 : Nat) < 3
      ∧ ¬ 3 + 1 < (onRoute (.atStop 3)).route.length) :=
  ⟨⟨rfl, rfl⟩, ⟨rfl, rfl⟩, by decide⟩

/-- A deny entry of 16 bytes. -/
def entryOf (cred reason : Byte) : List Byte := [cred, 0, 0, 0, 0, 0, 0, 0, reason, 2, 9, 0, 0, 0, 0, 0]

/-- A list in LOADING that expects chunk 1, with one entry loaded. -/
def loadingList : DenyList :=
  { state := .loading, table := [⟨5, .stolen, .refuse, 0⟩], load := some ⟨1, 7, some 5⟩ }

theorem test_meets_ReplaceLoadsTheList :
    let r : ReplaceRequest := ⟨1, false, true, 7, 1, 0⟩
    (loadingList.state = .loading ∧ loadingList.load = some ⟨1, 7, some 5⟩ ∧ r.chunk = 1 ∧ r.target = 7 ∧ r.first = false)
    ∧ readEntries 1 (entryOf 6 4) = some [⟨6, .accountBlocked, .retain, 9⟩] ∧ readEntries 1 (entryOf 6 5) = none
    ∧ readEntries 1 (entryOf 5 4) = some [⟨5, .accountBlocked, .retain, 9⟩]
    ∧ ((5 : Cred) < 6 ∧ ¬ (5 : Cred) < 5) ∧ loadingList.table.length + 1 ≤ 16384 ∧ 16384 < 16384 + 1
    ∧ ({} : DenyList).state ≠ .loading := by decide

/-- A READY list with an open staging area that expects chunk 1. -/
def readyList : DenyList :=
  { state := .ready, generation := 7, staging := some ⟨[.remove 5], 1⟩ }

theorem test_meets_DeltaIsStagedAndCommitted :
    let r : DeltaRequest := ⟨1, false, true, 7, 1, 0⟩
    ({} : DenyList).state ≠ .ready ∧ readyList.state = .ready ∧ readyList.staging = some ⟨[.remove 5], 1⟩
    ∧ ({ readyList with staging := none } : DenyList).staging = none
    ∧ r.chunk = 1 ∧ r.base = readyList.generation ∧ (8 : Word) ≠ readyList.generation
    ∧ readOps 1 ((entryOf 6 4).set 12 1) = some [.add ⟨6, .accountBlocked, .retain, 9⟩]
    ∧ readOps 1 ((entryOf 6 0).set 12 2) = some [.remove 6] ∧ readOps 1 (entryOf 6 4) = none
    ∧ 1023 + 1 ≤ 1024 ∧ 1024 < 1024 + 1 := by decide

/-- A list with one entry. -/
def oneEntry : DenyList :=
  { state := .ready, table := [⟨5, .stolen, .refuse, 0⟩], filter := filterAdd filterZero 5 }

theorem test_oneEntryFillsItsCell (e : DenyEntry) (k : Fin 4096) :
    ((filterAdd filterZero e.cred)[k]).toNat = inCell k [e] := by
  simp only [inCell, filterAdd, filterZero, List.countP_cons, List.countP_nil]
  by_cases h : k = cellOf e.cred
  · subst h
    simp [cellUp]
  · have h' : cellOf e.cred ≠ k := fun x => h x.symm
    have h2 : (cellOf e.cred).val ≠ k.val := fun x => h' (Fin.ext x)
    simp [h', h2]

theorem test_meets_DeltaOperations : denyRule oneEntry ∧ (5 : Cred) ∈ oneEntry.table.map DenyEntry.cred
    ∧ (6 : Cred) ∉ oneEntry.table.map DenyEntry.cred := by
  refine ⟨⟨by simp [oneEntry], by simp [oneEntry, Config.denyEntries], fun k => Or.inr ?_, by simp [highestRule, oneEntry],
    by simp [denyStateRule, oneEntry], by simp [oneEntry]⟩, by simp [oneEntry], by simp [oneEntry]⟩
  exact test_oneEntryFillsItsCell ⟨5, .stolen, .refuse, 0⟩ k

theorem test_meets_LookupAndPrune : denyRule oneEntry ∧ oneEntry.state = .ready ∧ ({} : DenyList).state ≠ .ready :=
  ⟨test_meets_DeltaOperations.1, rfl, by decide⟩

theorem test_meets_SeenTableTakesInspections :
    seenRule twoSeen ∧ twoSeen.counter = .next 3 ∧ twoSeen.records.length < 2048
    ∧ (∃ y ∈ twoSeen.records, y.stamp ≠ .uncertain) ∧ ({ twoSeen with counter := .exhausted } : SeenTable).counter = .exhausted
    ∧ findSeen 7 twoSeen = none ∧ (findSeen 6 twoSeen).isSome = true :=
  ⟨⟨by decide, by decide, by simp [twoSeen, seen, belowCounter], by decide⟩, by decide, by decide, by decide, by decide,
    by decide, by decide⟩

/-- A table may be full: 2,048 records that are not pinned. -/
theorem test_aFullTable :
    let t : SeenTable :=
      { records := (List.range 2048).map fun n => seen (BitVec.ofNat 32 n) (BitVec.ofNat 64 n) .none, counter := .exhausted }
    2048 ≤ t.records.length := by
  simp

theorem test_meets_RideUpdatesArrive :
    let s : State := { atWork with snt := { twoSeen with updates := [⟨6, .landed 0, ctxOne⟩] } }
    (portRule s = true ∧ s.snt.updates = [⟨6, .landed 0, ctxOne⟩]) ∧ (portRule atWork = true ∧ atWork.snt.updates = [])
    ∧ (findSeen 6 twoSeen).isSome = true ∧ findSeen 7 twoSeen = none
    ∧ seenEngaged s = false ∧ seenEngaged (engaged s) = true ∧ (engaged s).snt.updates ≠ [] := by decide

/-- The bytes of a peer note of a conductor, with ride taken or not. -/
def noteBytes (ride conductor : Byte) : List Byte := [6, 0, 0, 0, 0, 0, 0, 0, 0xD1, 7, 0x3F, 0x0B, ride, 0, conductor, 0]

theorem test_meets_PeerNotesAreMerged :
    (ScanAnswered (noteBytes 1 8) (onBus .scan (.read 16) (scanning (.serving ⟨7, .peerNotes 1 0⟩ .notesRead)))
      ∧ Serving (scanOf (.serving ⟨7, .peerNotes 1 0⟩ .notesRead)) ⟨7, .peerNotes 1 0⟩ .notesRead
        (scanning (.serving ⟨7, .peerNotes 1 0⟩ .notesRead)))
    ∧ (let notes : List PeerNote := [⟨6, 2001, 2879, true, 8⟩]
      Serving (scanOf (.serving ⟨7, .peerNotes 1 0⟩ (.notesWait notes))) ⟨7, .peerNotes 1 0⟩ (.notesWait notes)
        (engaged (scanning (.serving ⟨7, .peerNotes 1 0⟩ (.notesWait notes)))))
    ∧ (let s := onBus .scan (.read 16) (scanning (.serving ⟨7, .peerNotes 1 0⟩ .notesRead))
      s.mpt.asked = [] ∧ seenEngaged s = false ∧ seenEngaged (engaged s) = true)
    ∧ readNotes 1 (noteBytes 1 8) = some [⟨6, 2001, 2879, true, 8⟩] ∧ readNotes 1 (noteBytes 2 8) = none
    ∧ (let n : PeerNote := ⟨6, 2001, 2879, true, 8⟩
      n.conductor ≠ (onRoute (.atStop 0)).conductor ∧ n.conductor = ({ conductor := 8 } : RunningContext).conductor
      ∧ findSeen n.cred twoSeen = some (seen 2 6 .none) ∧ (seen 2 6 .none).ride = .peer
      ∧ findSeen n.cred { twoSeen with records := [] } = none ∧ twoSeen.counter ≠ .exhausted
      ∧ ((mergeNotes (onRoute (.atStop 0)) [n]
          { records := [{ seen 2 6 .none with ride := .localRide }], counter := .next 3 }).claims ≠ [])
      ∧ (mergeNotes (onRoute (.atStop 0)) [n] twoSeen).claims = []) :=
  ⟨⟨⟨_, rfl, rfl, rfl⟩, rfl, rfl⟩, ⟨rfl, rfl⟩, by decide, by decide, by decide, by decide⟩

theorem test_meets_SeenExportWritesLocalRecords :
    InHand (scanOf (.handed ⟨7, .seenExport 0 256 0⟩)) ⟨7, .seenExport 0 256 0⟩ (handed (.seenExport 0 256 0))
    ∧ ScanAnswered [] (onBus .scan (.write []) (scanning (.serving ⟨7, .seenExport 0 256 0⟩ (.exportWrite [] 1 { code := .ok }))))
    ∧ Serving (scanOf (.serving ⟨7, .seenExport 0 256 0⟩ (.exportWrite [] 1 { code := .ok }))) ⟨7, .seenExport 0 256 0⟩
      (.exportWrite [] 1 { code := .ok }) (scanning (.serving ⟨7, .seenExport 0 256 0⟩ (.exportWrite [] 1 { code := .ok })))
    ∧ localAbove 1 twoSeen = [seen 2 6 .none] ∧ localAbove 2 twoSeen = []
    ∧ InHand (scanOf (.handed ⟨7, .seenExport 0 256 0⟩)) ⟨7, .seenExport 0 256 0⟩ (engaged (handed (.seenExport 0 256 0)))
    ∧ seenEngaged (handed (.seenExport 0 256 0)) = false ∧ seenEngaged (engaged (handed (.seenExport 0 256 0))) = true :=
  ⟨⟨rfl, rfl⟩, ⟨_, rfl, rfl, rfl⟩, ⟨rfl, rfl⟩, by decide, by decide, ⟨rfl, rfl⟩, by decide⟩

theorem test_meets_KeysStatusAndIdentity :
    (ScanAnswered keyOne (onBus .scan (.read 16) (scanning (.serving ⟨7, .keyLoad 7 false 0⟩ .keyRead)))
      ∧ Serving (scanOf (.serving ⟨7, .keyLoad 7 false 0⟩ .keyRead)) ⟨7, .keyLoad 7 false 0⟩ .keyRead
        (scanning (.serving ⟨7, .keyLoad 7 false 0⟩ .keyRead)))
    ∧ (InHand (scanOf (.handed ⟨7, .keyClear 7⟩)) ⟨7, .keyClear 7⟩ (handed (.keyClear 7))
      ∧ InHand (scanOf (.handed ⟨7, .status 0⟩)) ⟨7, .status 0⟩ (handed (.status 0))
      ∧ InHand (scanOf (.handed ⟨7, .identify 0⟩)) ⟨7, .identify 0⟩ (handed (.identify 0))
      ∧ Serving (scanOf (.serving ⟨7, .status 0⟩ (.statusAsk [.denyList] {}))) ⟨7, .status 0⟩ (.statusAsk [.denyList] {})
        (scanning (.serving ⟨7, .status 0⟩ (.statusAsk [.denyList] {})))
      ∧ Serving (scanOf (.serving ⟨7, .status 0⟩ .recordWrite)) ⟨7, .status 0⟩ .recordWrite
        (scanning (.serving ⟨7, .status 0⟩ .recordWrite))
      ∧ ScanAnswered [] (onBus .scan (.write []) (scanning (.serving ⟨7, .identify 0⟩ .recordWrite))))
    ∧ (StatusBlock.all.filter fun k => !StatusBlock.all.contains k) = []
    ∧ (StatusBlock.all.filter fun k => not ([StatusBlock.denyList].contains k)) ≠ []
    ∧ (seenEngaged (handed (.status 0)) = false ∧ seenEngaged (engaged (handed (.status 0))) = true)
    ∧ keyLoaded 7 atWork.ven = false ∧ keyLoaded 7 (judging .absent).keys = true ∧ tempQuiet (-40) atWork.fmn = true
    ∧ tempQuiet 105 atWork.fmn = false :=
  ⟨⟨⟨_, rfl, rfl, rfl⟩, rfl, rfl⟩,
    ⟨⟨rfl, rfl⟩, ⟨rfl, rfl⟩, ⟨rfl, rfl⟩, ⟨rfl, rfl⟩, ⟨rfl, rfl⟩, _, rfl, rfl, rfl⟩, by decide⟩

theorem test_meets_StatusAndIdentityRecordsHoldTheirFields :
    State.reset.rcx.position = none ∧ (onRoute (.atStop 3)).position = some (.atStop 3)
    ∧ (onRoute (.between 2)).position = some (.between 2) ∧ State.reset.dnl.staging = none
    ∧ readyList.staging = some ⟨[.remove 5], 1⟩ ∧ StatusBlock.all.Perm StatusBlock.all
    ∧ (notJudged [none, none, none] = [.empty, .empty, .empty] ∧ draftOne.places = none ∧ draftOne.chosen = none
      ∧ draftOne.seen = none ∧ { draftOne with chosen := some ⟨0, 1, 2, false, 1⟩ }.chosen = some ⟨0, 1, 2, false, 1⟩
      ∧ { draftOne with seen := some ⟨1, 2, .peer, 3⟩ }.seen = some ⟨1, 2, .peer, 3⟩)
    ∧ (byteAt [0] 0 = 0 ∧ byteAt [1] 0 ≠ 0)
    ∧ (crc32 ((stampBytes ⟨1, 2, 3, 4, 5, 0, 2⟩).take 12) = wordAt (stampBytes ⟨1, 2, 3, 4, 5, 0, 2⟩) 12)
    ∧ crc32 (((stampBytes ⟨1, 2, 3, 4, 5, 0, 2⟩).set 0 9).take 12) ≠ wordAt (stampBytes ⟨1, 2, 3, 4, 5, 0, 2⟩) 12 :=
  ⟨rfl, rfl, rfl, rfl, rfl, List.Perm.refl _, by decide, by decide, by decide +kernel, by decide +kernel⟩

theorem test_meets_PowerIsAnsweredThenEntered :
    (InHand (scanOf (.handed ⟨7, .power .doze 600 true⟩)) ⟨7, .power .doze 600 true⟩ (handed (.power .doze 600 true))
      ∧ (∀ p : PowerState, ScanAnswered [] (onBus .scan (.write []) (scanning (.writeDone (some ⟨p, 600, true⟩)))))
      ∧ ScanAnswered [] (onBus .scan (.write []) (scanning (.writeAnswer 7 (some ⟨.doze, 600, true⟩)))))
    ∧ NextFree (heldSlots atWork) (scanOf .readState) 0 atWork
    ∧ NoneFree [] { scanOf .readState with remaining := 0 } atWork
    ∧ (let s := handed (.power .doze 600 true)
      s.mpt.asked = [] ∧ s.clk.hold = [] ∧ (withHead .presence).clk.hold ≠ [] ∧ s.mpt.runState ≠ .halting
      ∧ s.jnw.queue = [] ∧ s.jnw.service = .idle ∧ s.jnw.reservation = none ∧ s.snt.updates = [] ∧ s.mpt.flight = none
      ∧ s.mpt.waiting = [] ∧ ({ s with jnw := { queue := [.reserve] } } : State).jnw.queue ≠ [])
    ∧ ∀ e ∈ [true, false], ∀ h ∈ [FieldHolder.none, .sense], ∀ r ∈ [RunState.running, .halting],
      let g := ScanPhase.writeDone (some ⟨.sleep, 0, false⟩)
      let s : State := { part r .run with
        ssc := { atWork.ssc with extraScan := e, scan := some (scanOf g) }, clk := { holder := h } }
      s.ssc.extraScan = e ∧ s.clk.holder = h ∧ s.mpt.runState = r ∧ s.pev.settling = none
      ∧ cursorAfter (scanOf g) s < slotCount s ∧ cursorAfter (scanOf g) s ∉ heldSlots s :=
  ⟨⟨⟨rfl, rfl⟩, fun _ => ⟨_, rfl, rfl, rfl⟩, _, rfl, rfl, rfl⟩, ⟨by decide, by decide, by decide⟩,
    fun _ h => absurd h (Nat.not_lt_zero _), by decide, by decide⟩

/-- A cancelled task at its DONE, and a part whose CANCEL waits for it. -/
def ended1 : HeldTask := held (.closing (.coded .cancelled none) {} .writeDone)
def cancelWaiting (body : AnswerBody) (hold : List HeldTask) (f : FieldHolder) : State :=
  onBus (.card 1) (.write [])
    { scanning (.serving ⟨7, .cancel 1⟩ (.cancelWait 1 body)) with clk := { hold := hold, holder := f } }

theorem test_meets_CancelIsDecidedByItsTarget :
    (InHand (scanOf (.handed ⟨7, .cancel 1⟩)) ⟨7, .cancel 1⟩
        { withHead .presence with ssc := { atWork.ssc with scan := some (scanOf (.handed ⟨7, .cancel 1⟩)) } }
      ∧ ScanAnswered [9, 0] (onBus .scan (.read 2) (scanning (.serving ⟨7, .cancel 3⟩ .cancelRead)))
      ∧ Serving (scanOf (.serving ⟨7, .cancel 3⟩ .cancelRead)) ⟨7, .cancel 3⟩ .cancelRead
        (scanning (.serving ⟨7, .cancel 3⟩ .cancelRead))
      ∧ ScanAnswered [] (onBus .scan (.write []) (scanning (.serving ⟨7, .cancel 3⟩ (.cancelTaken 9))))
      ∧ Serving (scanOf (.serving ⟨7, .cancel 3⟩ .cancelAnswer)) ⟨7, .cancel 3⟩ .cancelAnswer
        (scanning (.serving ⟨7, .cancel 3⟩ .cancelAnswer))
      ∧ Serving (scanOf (.serving ⟨7, .cancel 3⟩ .cancelDone)) ⟨7, .cancel 3⟩ .cancelDone
        (scanning (.serving ⟨7, .cancel 3⟩ .cancelDone)))
    ∧ (0 ∉ heldSlots atWork ∧ (0 = (scanOf .readState).index) ∧ ((1 : Byte) = 1) ∧ (3 : Byte) ≠ 1 ∧ (3 : Byte).toNat ≤ 3)
    ∧ (∀ x ∈ [Session.waitingField, .presence, .reading, .asking askingOne, .deciding draftOne planOne .awaitResolved,
        .stamping .put draftOne planOne, .closing (.ok draftOne) {} .writeDone],
      1 ≠ (scanOf .readState).index ∧ held x ∈ (withHead x).clk.hold ∧ (held x).slot = 1
      ∧ (heldSlots (withHead x)).Nodup ∧ (withHead x).clk.holder = .session ∧ (withHead x).mpt.asked = [])
    ∧ (∀ body, CardAnswered 1 (cancelWaiting body [ended1, second] .none)
      ∧ Serving (scanOf (.serving ⟨7, .cancel 1⟩ (.cancelWait 1 body))) ⟨7, .cancel 1⟩ (.cancelWait 1 body)
        (cancelWaiting body [ended1, second] .none))
    ∧ (∀ hold ∈ [[ended1], [second, ended1], [ended1, second]], ∀ f ∈ [FieldHolder.none, .sense],
      let s := cancelWaiting { code := .ok } hold f
      s.clk.hold = hold ∧ s.clk.holder = f ∧ fieldBlocked s = false ∧ s.fmn.passive = none ∧ s.mpt.asked = []
      ∧ ended1.slot = 1 ∧ second.slot ≠ 1 ∧ second.session = .waitingField
      ∧ fieldBlocked { s with fmn := { openBlock := true } } = true)
    ∧ ended1.session = .closing (.coded .cancelled none) {} .writeDone :=
  ⟨⟨⟨rfl, rfl⟩, ⟨_, rfl, rfl, rfl⟩, ⟨rfl, rfl⟩, ⟨_, rfl, rfl, rfl⟩, ⟨rfl, rfl⟩, rfl, rfl⟩, by decide, by decide,
    fun _ => ⟨⟨_, rfl, rfl, rfl⟩, rfl, rfl⟩, by decide, rfl⟩

/-- A decision point whose consult has claimed a RESOLVED entry. -/
def waitingOne : Asking := { askingOne with seen := some ⟨some (seen 1 5 .done), 0, .waiting⟩ }

/-- A DENIED entry. -/
def deniedOne : EntryContents := ⟨.denied, 5, ctxOne, none, none, 0x0101⟩

/-- A service comes to its end with a grant, and with a refusal. -/
theorem test_claimEnds (q : List JournalJob) (s : State) :
    ClaimEnds (.memoryResponse []) (some 1) (onBus .journal (.write []) (journalling q (.writingHost 7 1) s))
    ∧ ClaimEnds .journalClaim none (journalling q (.markRead 0xA5) s) :=
  ⟨.inl ⟨rfl, ⟨_, rfl, rfl, rfl⟩, 7, 1, rfl, rfl⟩, .inr ⟨rfl, rfl, 0xA5, by decide, rfl⟩⟩

theorem test_meets_JournalServesClaimsAndFills :
    (JournalAnswered [0x5A] (onBus .journal (.read 1) (journalling [.entry deniedOne .nobody] .readingMark atWork))
      ∧ JournalAnswered [] (onBus .journal (.write []) (journalling [.entry deniedOne .nobody] (.writingFields 7 1) atWork))
      ∧ JournalAnswered [] (onBus .journal (.write []) (journalling [.fill deniedOne] (.writingHost 7 1)
        (withHead (.closing (.ok draftOne) { fill := true } .awaitJournal)))))
    ∧ (∀ q ∈ [[JournalJob.entry deniedOne .nobody], [.entry deniedOne .token, .reserve], [.reserveVoid deniedOne, .reserve],
        [.fill deniedOne, .reserve]],
      ∀ v ∈ [JournalService.markRead 0x5A, .markRead 0xA5, .idle, .writingHost 7 1],
      let s : State := journalling q v { atWork with jnw := { atWork.jnw with reservation := some ⟨7, 1⟩ } }
      s.mpt.asked = [] ∧ s.jnw.ring = some ⟨0x2000, 8⟩ ∧ s.jnw.reservation = some ⟨7, 1⟩ ∧ s.jnw.service = v
      ∧ s.jnw.queue = q)
    ∧ (let h := held (.closing (.ok draftOne) { fill := true } .awaitJournal)
      h.slot ∉ [second].map HeldTask.slot ∧ h.session = .closing (.ok draftOne) { fill := true } .awaitJournal) :=
  ⟨⟨⟨_, rfl, rfl, rfl⟩, ⟨_, rfl, rfl, rfl⟩, _, rfl, rfl, rfl⟩, by decide, by decide⟩

theorem test_meets_ClaimsAnswerTheirMakers :
    (Serving (scanOf (.serving ⟨7, .tokenInspect ⟨0, 1, true⟩⟩ (.tokenRide draftOne planOne))) ⟨7, .tokenInspect ⟨0, 1, true⟩⟩
        (.tokenRide draftOne planOne) (scanning (.serving ⟨7, .tokenInspect ⟨0, 1, true⟩⟩ (.tokenRide draftOne planOne)))
      ∧ Serving (scanOf (.serving ⟨7, .tokenInspect ⟨0, 1, true⟩⟩ (.tokenDenied draftOne))) ⟨7, .tokenInspect ⟨0, 1, true⟩⟩
        (.tokenDenied draftOne) (scanning (.serving ⟨7, .tokenInspect ⟨0, 1, true⟩⟩ (.tokenDenied draftOne)))
      ∧ ∀ k, Serving (scanOf (.serving ⟨7, .peerNotes 1 0⟩ (.notesClaims {} k))) ⟨7, .peerNotes 1 0⟩ (.notesClaims {} k)
        (scanning (.serving ⟨7, .peerNotes 1 0⟩ (.notesClaims {} k))))
    ∧ (let s := journalling [.reserve] (.markRead 0) (withHead (.deciding draftOne planOne .awaitReservation))
      s.jnw.ring = some ⟨0x2000, 8⟩ ∧ s.mpt.asked = [] ∧ s.jnw.queue = [.reserve] ∧ s.jnw.service = .markRead 0
      ∧ (0 : Byte) ≠ 0x5A ∧ s.clk.hold = held (.deciding draftOne planOne .awaitReservation) :: []
      ∧ s.clk.holder = .session)
    ∧ (∀ x ∈ [Session.closing (.ok draftOne) { denied := true } .awaitJournal,
        .closing (.ok draftOne) { denied := true, resolved := true } .awaitJournal,
        .closing (.ok draftOne) { resolved := true } .awaitJournal, .asking waitingOne,
        .deciding draftOne planOne .awaitResolved],
      ∀ e ∈ [deniedOne, { deniedOne with kind := .resolved }], ∀ v ∈ [JournalService.writingHost 7 1, .markRead 0xA5],
      let s := onBus .journal (.write []) (journalling [.entry e .card, .reserve] v (withHead x))
      s.jnw.queue = .entry e .card :: [.reserve] ∧ s.clk.hold = held x :: [] ∧ (held x).session = x ∧ s.jnw.service = v)
    ∧ (deniedOne.kind = .denied ∧ (tokenEntry planOne).kind = .ride ∧ (conflictEntry 5 ctxOne none 8).kind = .conflict
      ∧ (waitingOne.seen.map SeenReply.claim) = some .waiting ∧ ({ denied := false } : Owed) = {}
      ∧ ({ denied := false, resolved := true } : Owed) ≠ {}) :=
  ⟨⟨⟨rfl, rfl⟩, ⟨rfl, rfl⟩, fun _ => ⟨rfl, rfl⟩⟩, by decide, by decide, by decide⟩

/-! ### Steps from states within the rules -/

theorem test_meets_DenyListStaysInOrder :
    denyRule { atWork with dnl := oneEntry, pending := [.clearFaults] }.dnl
    ∧ ∃ t, step { atWork with dnl := oneEntry, pending := [.clearFaults] } = .next t :=
  ⟨test_meets_DeltaOperations.1, _, rfl⟩

theorem test_meets_SeenTableStaysInOrder :
    seenRule { atWork with snt := twoSeen, pending := [.seenUpdate] }.snt
    ∧ ∃ t, step { atWork with snt := twoSeen, pending := [.seenUpdate] } = .next t :=
  ⟨test_meets_SeenTableTakesInspections.1, _, rfl⟩

theorem test_meets_TheRulesThatStepsKeep :
    let s : State := { withHead .reading with
      snt := { twoSeen with records := [seen 1 5 .uncertain] }, rcx := onRoute (.between 2), pending := [.replyLimitExpiry] }
    holdRule s = true ∧ pinRule s = true ∧ contextRule s = true ∧ portRule s = true ∧ fieldRule s = true ∧ heatRule s = true
    ∧ layoutRule s = true ∧ haltedRule s = true ∧ powerRule s = true ∧ seenRule s.snt
    ∧ (∃ t, step s = .next t) ∧ haltedRule State.reset = true
    ∧ haltedRule (starting .setupRead (.read 32) false) = true := by
  refine ⟨by decide, by decide, by decide, by decide, by decide, by decide, by decide, by decide, by decide, ?_, ⟨_, rfl⟩,
    by decide, by decide⟩
  exact ⟨by decide, by decide, by simp [twoSeen, seen, belowCounter], by decide⟩

end Sys2Proof.Tests
end

section
/-! SUPPORT. Coverage by stops (R12): where a stop's code stands on a route that R31 allows, and what coversByStops says in
terms of the indices of origin and destination. -/

namespace Sys2Proof.Proofs.Coverage

open Sys2Proof Sys2Proof.Machine

/-! ### A route that R31 allows -/

theorem codes_pairwise_ne_of_routeOk {route : List Stop} (h : routeOk route = true) :
    route.Pairwise fun s t => s.code ≠ t.code := by
  simp only [routeOk, codesDistinct, Bool.and_eq_true, decide_eq_true_eq] at h
  obtain ⟨_, hnodup⟩ := h
  exact List.pairwise_map.1 hnodup

theorem stopOk_of_routeOk {route : List Stop} (h : routeOk route = true) {s : Stop} (hs : s ∈ route) : stopOk s = true := by
  simp only [routeOk, Bool.and_eq_true, List.all_eq_true] at h
  obtain ⟨⟨_, hstops⟩, _⟩ := h
  exact hstops s hs

theorem code_ne_zero_of_stopOk {s : Stop} (h : stopOk s = true) : s.code ≠ 0 := by
  simp only [stopOk, stopCodeOk, Bool.and_eq_true, bne_iff_ne] at h
  obtain ⟨⟨hzero, _⟩, _⟩ := h
  exact hzero

/-- No code appears twice, so the first place where a stop's code is found is that stop's own. -/
theorem stopIndex_code_of_routeOk {route : List Stop} (h : routeOk route = true) {k : Nat} {s : Stop}
    (hk : route[k]? = some s) : stopIndex route s.code = some k := by
  obtain ⟨hlt, rfl⟩ := List.getElem?_eq_some_iff.1 hk
  have hcode : route[k].code ≠ 0 := code_ne_zero_of_stopOk (stopOk_of_routeOk h (List.getElem_mem hlt))
  have hfirst : ∀ j (hj : j < k), route[j].code ≠ route[k].code := fun j hj =>
    List.pairwise_iff_getElem.1 (codes_pairwise_ne_of_routeOk h) j k (hj.trans hlt) hlt hj
  rw [stopIndex, if_neg hcode, List.findIdx?_eq_some_iff_getElem]
  exact ⟨hlt, by simp, fun j hj => by simpa using hfirst j hj⟩

/-! ### The segment and coverage -/

theorem segmentFirst_le_segmentLast (p : Position) : segmentFirst p ≤ segmentLast p := by
  cases p with
  | atStop k => exact Nat.le_refl k
  | between k => exact Nat.le_succ k

/-- R12: with both stops found, a record of the point-to-point classes is judged by their indices alone. -/
theorem covers_eq_coversByStops {route : List Stop} {cls : ProductClass} {r : FareRecord} {o d : Nat}
    (hcls : cls ≠ .zonePass) (ho : stopIndex route r.origin = some o) (hd : stopIndex route r.destination = some d)
    (p : Position) : covers route p cls r = coversByStops cls p o d := by
  cases cls with
  | zonePass => exact absurd rfl hcls
  | single | returnFare | carnet | periodPass | group => simp only [covers, ho, hd]

theorem coversByStops_forward {cls : ProductClass} (h : cls = .single ∨ cls = .group) (p : Position) (o d : Nat) :
    coversByStops cls p o d = true ↔ o ≤ segmentFirst p ∧ segmentLast p ≤ d := by
  rcases h with rfl | rfl <;> simp [coversByStops]

theorem coversByStops_eitherWay {cls : ProductClass} (h : cls = .returnFare ∨ cls = .carnet ∨ cls = .periodPass)
    (p : Position) (o d : Nat) :
    coversByStops cls p o d = true ↔ min o d ≤ segmentFirst p ∧ segmentLast p ≤ max o d := by
  rcases h with rfl | rfl | rfl <;> simp [coversByStops]

/-- From a stop to itself the direction makes no difference. -/
theorem coversByStops_self (cls : ProductClass) (p : Position) (j : Nat) :
    coversByStops cls p j j = true ↔ j ≤ segmentFirst p ∧ segmentLast p ≤ j := by
  cases cls <;> simp [coversByStops]

theorem coversByStops_self_between (cls : ProductClass) (j k : Nat) : coversByStops cls (.between k) j j = false := by
  rw [Bool.eq_false_iff, Ne, coversByStops_self]
  simp only [segmentFirst, segmentLast]
  omega

/-- Travel against the running order is never paid for by a record of the forward classes. -/
theorem coversByStops_forward_against {cls : ProductClass} (h : cls = .single ∨ cls = .group) {o d : Nat} (hlt : d < o)
    (p : Position) : coversByStops cls p o d = false := by
  have hseg := segmentFirst_le_segmentLast p
  rw [Bool.eq_false_iff, Ne, coversByStops_forward h]
  omega

/-- Settles O14: both stops are found at their own indices, so coverage is coversByStops at those indices, whatever the
zones. -/
theorem coverageByStops : Obligations.CoverageByStops := by
  unfold Obligations.CoverageByStops
  intro route cls r o d so sd hroute hcls hso hso_code hsd hsd_code
  have ho : stopIndex route r.origin = some o := hso_code ▸ stopIndex_code_of_routeOk hroute hso
  have hd : stopIndex route r.destination = some d := hsd_code ▸ stopIndex_code_of_routeOk hroute hsd
  have hcovers := covers_eq_coversByStops hcls ho hd
  refine ⟨fun k hfwd => ?forward, fun k heither => ?eitherWay, fun hod => ?sameStop, fun hsingle hlt p => ?against,
    fun p z => ?zonesNotRead⟩
  case forward =>
    rw [hcovers, hcovers]
    exact ⟨coversByStops_forward hfwd (.atStop k) o d, coversByStops_forward hfwd (.between k) o d⟩
  case eitherWay =>
    rw [hcovers, hcovers]
    exact ⟨coversByStops_eitherWay heither (.atStop k) o d, coversByStops_eitherWay heither (.between k) o d⟩
  case sameStop =>
    subst hod
    have hat : coversByStops cls (.atStop o) o o = true :=
      (coversByStops_self cls (.atStop o) o).2 ⟨Nat.le_refl o, Nat.le_refl o⟩
    exact ⟨(hcovers _).trans hat, fun k => (hcovers _).trans (coversByStops_self_between cls o k)⟩
  case against => exact (hcovers p).trans (coversByStops_forward_against (.inl hsingle) hlt p)
  case zonesNotRead =>
    have hcovers' : covers route p cls { r with zones := z } = coversByStops cls p o d :=
      covers_eq_coversByStops (r := { r with zones := z }) hcls ho hd p
    exact hcovers'.trans (hcovers p).symm

end Sys2Proof.Proofs.Coverage
end

section
/-! SUPPORT. The event enables (R167, R168): what a write to EVENT ENABLE leaves to be read, which flags drive the interrupt
line, and the operations that keep the enables. -/

namespace Sys2Proof.Proofs.EventEnables

open Sys2Proof Sys2Proof.Machine

/-! ### The register and the line -/

/-- R167: only bits 7 to 0 of a word written to EVENT ENABLE are read back. -/
theorem setWidth_byte_word (v : Word) : (v.setWidth 8).setWidth 32 = v &&& 0xFF := by
  apply BitVec.eq_of_toNat_eq
  have hlow : v.toNat &&& 255 = v.toNat % 256 := Nat.and_two_pow_sub_one_eq_mod v.toNat 8
  have hfits : v.toNat % 256 < 2 ^ 32 := by omega
  simpa [hlow] using Nat.mod_eq_of_lt hfits

/-- R168: the line is asserted exactly while some flag is set together with its own enable. -/
theorem interruptLine_iff (s : State) :
    interruptLine s = true ↔ ∃ i < 8, s.pev.events.getLsbD i = true ∧ s.pev.enables.getLsbD i = true := by
  have hzero : s.pev.events &&& s.pev.enables = 0#8 ↔
      ∀ i < 8, s.pev.events.getLsbD i = true → s.pev.enables.getLsbD i = false := by
    simp [BitVec.eq_of_getLsbD_eq_iff]
  simp [interruptLine, hzero]

/-! ### Latching a flag and resetting the part -/

theorem reportLatch_enables (was : Bool) (r : Report) (s : State) :
    (reportLatch was r s).pev.enables = s.pev.enables := by
  unfold reportLatch
  split <;> rfl

theorem latchShutdown_enables (s : State) : (latchShutdown s).pev.enables = s.pev.enables := reportLatch_enables ..

theorem warm_enables (s : State) : (warm s).pev.enables = s.pev.enables := reportLatch_enables ..

/-- R112: a die found hot latches its flags and raises events, and no enable is touched. -/
theorem latchHotDie_enables (s : State) : (latchHotDie s).pev.enables = s.pev.enables := by
  simp only [latchHotDie]
  repeat' split
  all_goals simp [latchShutdown_enables, warm_enables]

theorem resetPart_enables (d : Int) (s : State) : (resetPart d s).pev.enables = 0 := latchHotDie_enables _

/-! ### HALT, START and the memory fault keep the enables -/

theorem endPulse_pev (s : State) : (endPulse s).pev = s.pev := by
  unfold endPulse
  split
  · exact turnOff_pev s
  · rfl

/-- R164: the HALT of every power state, the wake from DOZE included. -/
theorem haltRunning_enables (s : State) : (haltRunning s).pev.enables = s.pev.enables := by
  unfold haltRunning
  cases s.pev.power with
  | run | reduced => simp
  | doze => simp [endPulse_pev]
  | sleep => rfl

theorem exec_halt_enables (s : State) : ∃ t, exec .halt s = .next t ∧ t.pev.enables = s.pev.enables := by
  simp only [exec, execHalt]
  cases s.mpt.runState with
  | starting => exact ⟨_, rfl, rfl⟩
  | running => exact ⟨arbitrate (haltRunning s), rfl, by simp [haltRunning_enables]⟩
  | halted | halting => exact ⟨s, rfl, rfl⟩

theorem startPart_enables (s : State) : (startPart s).pev.enables = s.pev.enables := by
  unfold startPart
  dsimp only
  split <;> rfl

theorem exec_start_enables (s : State) : ∃ t, exec .start s = .next t ∧ t.pev.enables = s.pev.enables := by
  simp only [exec, execStart]
  split
  · exact ⟨arbitrate (startPart s), rfl, by simp [startPart_enables]⟩
  · exact ⟨s, rfl, rfl⟩

/-- R165: a memory fault ends DOZE and its timers, and delivers the updates in transit; the enables stay. -/
theorem memoryFaultHalts_enables (s : State) : (memoryFaultHalts s).pev.enables = s.pev.enables := by
  simp [memoryFaultHalts, faultPower]

theorem exec_memoryFault_enables (s : State) :
    ∃ t, exec .memoryFault s = .next t ∧ t.pev.enables = s.pev.enables := by
  simp only [exec, execMemoryFault]
  split
  · exact ⟨memoryFaultHalts s, rfl, memoryFaultHalts_enables s⟩
  · exact ⟨s, rfl, rfl⟩

/-- Settles O5: the write and the flags' latching are the model's own updates of one field, the line is read bit by bit, and
each command that clears or keeps the enables is taken by its own lemma. -/
theorem enablesAreReplacedAndChooseTheLine : Obligations.EnablesAreReplacedAndChooseTheLine := by
  unfold Obligations.EnablesAreReplacedAndChooseTheLine
  intro v s
  refine ⟨⟨_, rfl, rfl, setWidth_byte_word v⟩, interruptLine_iff s, fun flag => raiseEvent_pev flag s,
    fun d => ⟨_, rfl, resetPart_enables d s⟩, fun d => ⟨_, rfl, resetPart_enables d s⟩, fun c hc => ?keeps⟩
  case keeps =>
    have hcases : c = .halt ∨ c = .start ∨ c = .memoryFault := by simpa using hc
    obtain rfl | rfl | rfl := hcases
    · exact exec_halt_enables s
    · exact exec_start_enables s
    · exact exec_memoryFault_enables s

end Sys2Proof.Proofs.EventEnables
end

section
/-! SUPPORT. The frame of each operation that Laws/Ops leaves out: which blocks it leaves as they were, one lemma for each
operation, in the order of the model. -/

namespace Sys2Proof.Proofs.Frames

open Sys2Proof Sys2Proof.Machine

/-! ### The field and the die (R112 to R119) -/

@[simp] theorem latchHotDie_keeps (s : State) :
    (latchHotDie s).mpt = s.mpt ∧ (latchHotDie s).ssc = s.ssc ∧ (latchHotDie s).rcx = s.rcx ∧
    (latchHotDie s).ven = s.ven ∧ (latchHotDie s).dnl = s.dnl ∧ (latchHotDie s).snt = s.snt ∧
    (latchHotDie s).clk = s.clk ∧ (latchHotDie s).jnw = s.jnw ∧ (latchHotDie s).draws = s.draws ∧
    (latchHotDie s).pending = s.pending := by
  simp only [latchHotDie]
  repeat' split
  all_goals simp

@[simp] theorem antennaLost_keeps (s : State) :
    (antennaLost s).rcx = s.rcx ∧ (antennaLost s).ven = s.ven ∧ (antennaLost s).dnl = s.dnl ∧
    (antennaLost s).pending = s.pending := by
  simp only [antennaLost]
  repeat' split
  all_goals simp

@[simp] theorem overcurrent_keeps (s : State) :
    (overcurrent s).rcx = s.rcx ∧ (overcurrent s).ven = s.ven ∧ (overcurrent s).dnl = s.dnl ∧
    (overcurrent s).pending = s.pending := by
  simp only [overcurrent]
  simp

@[simp] theorem passiveFinding_keeps (b : Bool) (s : State) :
    (passiveFinding b s).mpt = s.mpt ∧ (passiveFinding b s).ssc = s.ssc ∧ (passiveFinding b s).rcx = s.rcx ∧
    (passiveFinding b s).ven = s.ven ∧ (passiveFinding b s).dnl = s.dnl ∧ (passiveFinding b s).snt = s.snt ∧
    (passiveFinding b s).clk = s.clk ∧ (passiveFinding b s).jnw = s.jnw ∧ (passiveFinding b s).draws = s.draws ∧
    (passiveFinding b s).pending = s.pending := by
  simp only [passiveFinding]
  repeat' split
  all_goals simp

@[simp] theorem passiveEnds_keeps (u : PassiveUse) (b : Bool) (s : State) :
    (passiveEnds u b s).rcx = s.rcx ∧ (passiveEnds u b s).ven = s.ven ∧ (passiveEnds u b s).dnl = s.dnl ∧
    (passiveEnds u b s).snt = s.snt ∧ (passiveEnds u b s).clk = s.clk ∧ (passiveEnds u b s).jnw = s.jnw ∧
    (passiveEnds u b s).draws = s.draws ∧ (passiveEnds u b s).pending = s.pending := by
  simp only [passiveEnds]
  repeat' split
  all_goals simp

/-! ### Card sessions (R92 to R101) -/

@[simp] theorem exhausted_keeps (t : HeldTask) (s : State) :
    (exhausted t s).ssc = s.ssc ∧ (exhausted t s).rcx = s.rcx ∧ (exhausted t s).ven = s.ven ∧
    (exhausted t s).dnl = s.dnl ∧ (exhausted t s).pev = s.pev ∧ (exhausted t s).draws = s.draws ∧
    (exhausted t s).pending = s.pending := by
  simp only [exhausted]
  repeat' split
  all_goals simp

@[simp] theorem tryFails_keeps (t : HeldTask) (s : State) :
    (tryFails t s).ssc = s.ssc ∧ (tryFails t s).rcx = s.rcx ∧ (tryFails t s).ven = s.ven ∧
    (tryFails t s).dnl = s.dnl ∧ (tryFails t s).pev = s.pev ∧ (tryFails t s).draws = s.draws ∧
    (tryFails t s).pending = s.pending := by
  simp only [tryFails]
  repeat' split
  all_goals simp

@[simp] theorem replyFails_keeps (s : State) :
    (replyFails s).ssc = s.ssc ∧ (replyFails s).rcx = s.rcx ∧ (replyFails s).ven = s.ven ∧
    (replyFails s).dnl = s.dnl ∧ (replyFails s).pev = s.pev ∧ (replyFails s).draws = s.draws ∧
    (replyFails s).pending = s.pending := by
  simp only [replyFails]
  repeat' split
  all_goals simp

@[simp] theorem refuseRide_keeps (t : HeldTask) (d : Draft) (p : RidePlan) (w : VerdictReason) (o : Owed) (s : State) :
    (refuseRide t d p w o s).ssc = s.ssc ∧ (refuseRide t d p w o s).rcx = s.rcx ∧
    (refuseRide t d p w o s).ven = s.ven ∧ (refuseRide t d p w o s).dnl = s.dnl ∧
    (refuseRide t d p w o s).jnw = s.jnw ∧ (refuseRide t d p w o s).pev = s.pev ∧
    (refuseRide t d p w o s).draws = s.draws ∧ (refuseRide t d p w o s).pending = s.pending := by
  simp only [refuseRide]
  simp

@[simp] theorem seekReservation_keeps (t : HeldTask) (x : Decided) (d : Draft) (p : RidePlan) (s : State) :
    (seekReservation t x d p s).ssc = s.ssc ∧ (seekReservation t x d p s).rcx = s.rcx ∧
    (seekReservation t x d p s).ven = s.ven ∧ (seekReservation t x d p s).dnl = s.dnl ∧
    (seekReservation t x d p s).pev = s.pev ∧ (seekReservation t x d p s).draws = s.draws ∧
    (seekReservation t x d p s).pending = s.pending := by
  simp only [seekReservation]
  repeat' split
  all_goals simp

@[simp] theorem decideCard_keeps (t : HeldTask) (a : Asking) (r : Replies) (l : List JournalJob) (s : State) :
    (decideCard t a r l s).ssc = s.ssc ∧ (decideCard t a r l s).rcx = s.rcx ∧
    (decideCard t a r l s).ven = s.ven ∧ (decideCard t a r l s).dnl = s.dnl ∧
    (decideCard t a r l s).pev = s.pev ∧ (decideCard t a r l s).pending = s.pending := by
  simp only [decideCard]
  repeat' split
  all_goals simp

@[simp] theorem askCard_keeps (t : HeldTask) (w : Asks) (a : Asking) (s : State) :
    (askCard t w a s).ssc = s.ssc ∧ (askCard t w a s).rcx = s.rcx ∧ (askCard t w a s).ven = s.ven ∧
    (askCard t w a s).pev = s.pev ∧ (askCard t w a s).pending = s.pending := by
  simp only [askCard]
  repeat' split
  all_goals simp

@[simp] theorem beginStamping_keeps (n : Word) (s : State) :
    (beginStamping n s).mpt = s.mpt ∧ (beginStamping n s).ssc = s.ssc ∧ (beginStamping n s).rcx = s.rcx ∧
    (beginStamping n s).ven = s.ven ∧ (beginStamping n s).dnl = s.dnl ∧ (beginStamping n s).snt = s.snt ∧
    (beginStamping n s).fmn = s.fmn ∧ (beginStamping n s).jnw = s.jnw ∧ (beginStamping n s).pev = s.pev ∧
    (beginStamping n s).draws = s.draws ∧ (beginStamping n s).pending = s.pending := by
  simp only [beginStamping]
  repeat' split
  all_goals simp

@[simp] theorem checkTaken_keeps (t : HeldTask) (d : Draft) (p : RidePlan) (r : StampStanding) (s : State) :
    (checkTaken t d p r s).ssc = s.ssc ∧ (checkTaken t d p r s).rcx = s.rcx ∧
    (checkTaken t d p r s).ven = s.ven ∧ (checkTaken t d p r s).dnl = s.dnl ∧
    (checkTaken t d p r s).pev = s.pev ∧ (checkTaken t d p r s).draws = s.draws ∧
    (checkTaken t d p r s).pending = s.pending := by
  simp only [checkTaken]
  repeat' split
  all_goals simp

@[simp] theorem helloTaken_keeps (t : HeldTask) (l : LinkStatus) (c : Cred) (f : Byte) (b : Bool) (s : State) :
    (helloTaken t l c f b s).ssc = s.ssc ∧ (helloTaken t l c f b s).rcx = s.rcx ∧
    (helloTaken t l c f b s).ven = s.ven ∧ (helloTaken t l c f b s).dnl = s.dnl ∧
    (helloTaken t l c f b s).snt = s.snt ∧ (helloTaken t l c f b s).jnw = s.jnw ∧
    (helloTaken t l c f b s).pev = s.pev ∧ (helloTaken t l c f b s).draws = s.draws ∧
    (helloTaken t l c f b s).pending = s.pending := by
  simp only [helloTaken]
  repeat' split
  all_goals simp

/-! ### The tasks at their owners -/

@[simp] theorem enterHold_keeps (i : Nat) (g : Half) (r : CardRequest) (s : State) :
    (enterHold i g r s).rcx = s.rcx ∧ (enterHold i g r s).ven = s.ven ∧ (enterHold i g r s).dnl = s.dnl ∧
    (enterHold i g r s).snt = s.snt ∧ (enterHold i g r s).jnw = s.jnw ∧
    (enterHold i g r s).pending = s.pending := by
  simp only [enterHold]
  repeat' split
  all_goals simp

@[simp] theorem decideToken_keeps (sc : Scan) (t : Task) (a : Asking) (r : Replies) (l : List JournalJob) (s : State) :
    (decideToken sc t a r l s).rcx = s.rcx ∧ (decideToken sc t a r l s).ven = s.ven ∧
    (decideToken sc t a r l s).dnl = s.dnl ∧ (decideToken sc t a r l s).clk = s.clk ∧
    (decideToken sc t a r l s).fmn = s.fmn ∧ (decideToken sc t a r l s).pev = s.pev ∧
    (decideToken sc t a r l s).pending = s.pending := by
  simp only [decideToken]
  repeat' split
  all_goals simp

@[simp] theorem askToken_keeps (sc : Scan) (t : Task) (w : Asks) (a : Asking) (s : State) :
    (askToken sc t w a s).rcx = s.rcx ∧ (askToken sc t w a s).ven = s.ven ∧ (askToken sc t w a s).clk = s.clk ∧
    (askToken sc t w a s).fmn = s.fmn ∧ (askToken sc t w a s).pev = s.pev ∧
    (askToken sc t w a s).pending = s.pending := by
  simp only [askToken]
  repeat' split
  all_goals simp

@[simp] theorem routeTaken_keeps (sc : Scan) (t : Task) (r : RouteRequest) (s : State) :
    (routeTaken sc t r s).rcx = s.rcx ∧ (routeTaken sc t r s).ven = s.ven ∧ (routeTaken sc t r s).dnl = s.dnl ∧
    (routeTaken sc t r s).snt = s.snt ∧ (routeTaken sc t r s).clk = s.clk ∧ (routeTaken sc t r s).fmn = s.fmn ∧
    (routeTaken sc t r s).jnw = s.jnw ∧ (routeTaken sc t r s).pev = s.pev ∧
    (routeTaken sc t r s).draws = s.draws ∧ (routeTaken sc t r s).pending = s.pending := by
  simp only [routeTaken]
  repeat' split
  all_goals simp

@[simp] theorem routeInstalled_keeps (sc : Scan) (t : Task) (r : RouteRequest) (l : List Stop) (s : State) :
    (routeInstalled sc t r l s).ven = s.ven ∧ (routeInstalled sc t r l s).dnl = s.dnl ∧
    (routeInstalled sc t r l s).snt = s.snt ∧ (routeInstalled sc t r l s).clk = s.clk ∧
    (routeInstalled sc t r l s).fmn = s.fmn ∧ (routeInstalled sc t r l s).jnw = s.jnw ∧
    (routeInstalled sc t r l s).pev = s.pev ∧ (routeInstalled sc t r l s).draws = s.draws ∧
    (routeInstalled sc t r l s).pending = s.pending := by
  simp only [routeInstalled]
  simp

@[simp] theorem replaceServed_keeps (sc : Scan) (g : Half) (r : ReplaceRequest) (b : List Byte) (s : State) :
    (replaceServed sc g r b s).rcx = s.rcx ∧ (replaceServed sc g r b s).ven = s.ven ∧
    (replaceServed sc g r b s).snt = s.snt ∧ (replaceServed sc g r b s).clk = s.clk ∧
    (replaceServed sc g r b s).fmn = s.fmn ∧ (replaceServed sc g r b s).jnw = s.jnw ∧
    (replaceServed sc g r b s).pev = s.pev ∧ (replaceServed sc g r b s).draws = s.draws ∧
    (replaceServed sc g r b s).pending = s.pending := by
  simp only [replaceServed]
  simp

@[simp] theorem deltaServed_keeps (sc : Scan) (g : Half) (r : DeltaRequest) (b : List Byte) (s : State) :
    (deltaServed sc g r b s).rcx = s.rcx ∧ (deltaServed sc g r b s).ven = s.ven ∧
    (deltaServed sc g r b s).snt = s.snt ∧ (deltaServed sc g r b s).clk = s.clk ∧
    (deltaServed sc g r b s).fmn = s.fmn ∧ (deltaServed sc g r b s).jnw = s.jnw ∧
    (deltaServed sc g r b s).pev = s.pev ∧ (deltaServed sc g r b s).draws = s.draws ∧
    (deltaServed sc g r b s).pending = s.pending := by
  simp only [deltaServed]
  simp

@[simp] theorem notesMerged_keeps (sc : Scan) (t : Task) (l : List PeerNote) (s : State) :
    (notesMerged sc t l s).rcx = s.rcx ∧ (notesMerged sc t l s).ven = s.ven ∧
    (notesMerged sc t l s).dnl = s.dnl ∧ (notesMerged sc t l s).clk = s.clk ∧
    (notesMerged sc t l s).fmn = s.fmn ∧ (notesMerged sc t l s).pev = s.pev ∧
    (notesMerged sc t l s).draws = s.draws ∧ (notesMerged sc t l s).pending = s.pending := by
  simp only [notesMerged]
  repeat' split
  all_goals simp

@[simp] theorem notesDue_keeps (sc : Scan) (t : Task) (l : List PeerNote) (s : State) :
    (notesDue sc t l s).rcx = s.rcx ∧ (notesDue sc t l s).ven = s.ven ∧ (notesDue sc t l s).dnl = s.dnl ∧
    (notesDue sc t l s).clk = s.clk ∧ (notesDue sc t l s).fmn = s.fmn ∧ (notesDue sc t l s).pev = s.pev ∧
    (notesDue sc t l s).draws = s.draws ∧ (notesDue sc t l s).pending = s.pending := by
  simp only [notesDue]
  repeat' split
  all_goals simp

@[simp] theorem exportNext_keeps (sc : Scan) (t : Task) (a : Word) (l : List SeenRecord) (n : Nat) (b : AnswerBody)
    (s : State) :
    (exportNext sc t a l n b s).rcx = s.rcx ∧ (exportNext sc t a l n b s).ven = s.ven ∧
    (exportNext sc t a l n b s).dnl = s.dnl ∧ (exportNext sc t a l n b s).snt = s.snt ∧
    (exportNext sc t a l n b s).clk = s.clk ∧ (exportNext sc t a l n b s).fmn = s.fmn ∧
    (exportNext sc t a l n b s).jnw = s.jnw ∧ (exportNext sc t a l n b s).pev = s.pev ∧
    (exportNext sc t a l n b s).draws = s.draws ∧ (exportNext sc t a l n b s).pending = s.pending := by
  simp only [exportNext]
  repeat' split
  all_goals simp

@[simp] theorem fieldTested_keeps (sc : Scan) (g : Half) (s : State) :
    (fieldTested sc g s).rcx = s.rcx ∧ (fieldTested sc g s).ven = s.ven ∧ (fieldTested sc g s).dnl = s.dnl ∧
    (fieldTested sc g s).snt = s.snt ∧ (fieldTested sc g s).clk = s.clk ∧ (fieldTested sc g s).jnw = s.jnw ∧
    (fieldTested sc g s).pev = s.pev ∧ (fieldTested sc g s).draws = s.draws ∧
    (fieldTested sc g s).pending = s.pending := by
  simp only [fieldTested]
  repeat' split
  all_goals simp

@[simp] theorem cancelHeld_keeps (t : HeldTask) (s : State) :
    (cancelHeld t s).ssc = s.ssc ∧ (cancelHeld t s).rcx = s.rcx ∧ (cancelHeld t s).ven = s.ven ∧
    (cancelHeld t s).dnl = s.dnl ∧ (cancelHeld t s).snt = s.snt ∧ (cancelHeld t s).pev = s.pev ∧
    (cancelHeld t s).draws = s.draws ∧ (cancelHeld t s).pending = s.pending := by
  simp only [cancelHeld]
  repeat' split
  all_goals simp

@[simp] theorem cancelOfHeld_keeps (sc : Scan) (g : Half) (n : Nat) (t : HeldTask) (s : State) :
    (cancelOfHeld sc g n t s).rcx = s.rcx ∧ (cancelOfHeld sc g n t s).ven = s.ven ∧
    (cancelOfHeld sc g n t s).dnl = s.dnl ∧ (cancelOfHeld sc g n t s).snt = s.snt ∧
    (cancelOfHeld sc g n t s).pev = s.pev ∧ (cancelOfHeld sc g n t s).draws = s.draws ∧
    (cancelOfHeld sc g n t s).pending = s.pending := by
  simp only [cancelOfHeld]
  repeat' split
  all_goals simp

@[simp] theorem cancelOfSlot_keeps (sc : Scan) (g : Half) (n : Nat) (x : Byte) (k : Byte) (s : State) :
    (cancelOfSlot sc g n x k s).rcx = s.rcx ∧ (cancelOfSlot sc g n x k s).ven = s.ven ∧
    (cancelOfSlot sc g n x k s).dnl = s.dnl ∧ (cancelOfSlot sc g n x k s).snt = s.snt ∧
    (cancelOfSlot sc g n x k s).clk = s.clk ∧ (cancelOfSlot sc g n x k s).fmn = s.fmn ∧
    (cancelOfSlot sc g n x k s).jnw = s.jnw ∧ (cancelOfSlot sc g n x k s).pev = s.pev ∧
    (cancelOfSlot sc g n x k s).draws = s.draws ∧ (cancelOfSlot sc g n x k s).pending = s.pending := by
  simp only [cancelOfSlot]
  repeat' split
  all_goals simp

@[simp] theorem cancelTaken_keeps (sc : Scan) (g : Half) (n : Nat) (x : Byte) (k : Byte) (s : State) :
    (cancelTaken sc g n x k s).rcx = s.rcx ∧ (cancelTaken sc g n x k s).ven = s.ven ∧
    (cancelTaken sc g n x k s).dnl = s.dnl ∧ (cancelTaken sc g n x k s).snt = s.snt ∧
    (cancelTaken sc g n x k s).pev = s.pev ∧ (cancelTaken sc g n x k s).draws = s.draws ∧
    (cancelTaken sc g n x k s).pending = s.pending := by
  simp only [cancelTaken]
  repeat' split
  all_goals simp

@[simp] theorem keyServed_keeps (sc : Scan) (g : Half) (n : Nat) (b : Bool) (l : List Byte) (s : State) :
    (keyServed sc g n b l s).rcx = s.rcx ∧ (keyServed sc g n b l s).dnl = s.dnl ∧
    (keyServed sc g n b l s).snt = s.snt ∧ (keyServed sc g n b l s).clk = s.clk ∧
    (keyServed sc g n b l s).fmn = s.fmn ∧ (keyServed sc g n b l s).jnw = s.jnw ∧
    (keyServed sc g n b l s).pev = s.pev ∧ (keyServed sc g n b l s).draws = s.draws ∧
    (keyServed sc g n b l s).pending = s.pending := by
  simp only [keyServed]
  repeat' split
  all_goals simp

@[simp] theorem statusAsked_keeps (sc : Scan) (t : Task) (a : Word) (d : Int) (o : Bool)
    (l m : List StatusBlock) (r : StatusRecord) (s : State) :
    (statusAsked sc t a d o l m r s).rcx = s.rcx ∧ (statusAsked sc t a d o l m r s).ven = s.ven ∧
    (statusAsked sc t a d o l m r s).dnl = s.dnl ∧ (statusAsked sc t a d o l m r s).snt = s.snt ∧
    (statusAsked sc t a d o l m r s).clk = s.clk ∧ (statusAsked sc t a d o l m r s).jnw = s.jnw ∧
    (statusAsked sc t a d o l m r s).pev = s.pev ∧ (statusAsked sc t a d o l m r s).draws = s.draws ∧
    (statusAsked sc t a d o l m r s).pending = s.pending := by
  simp only [statusAsked]
  repeat' split
  all_goals simp

/-! ### The Journal Writer and those it answers (R150 to R153) -/

@[simp] theorem closeIfReady_keeps (t : HeldTask) (e : SessionEnd) (o : Owed) (s : State) :
    (closeIfReady t e o s).ssc = s.ssc ∧ (closeIfReady t e o s).rcx = s.rcx ∧
    (closeIfReady t e o s).ven = s.ven ∧ (closeIfReady t e o s).dnl = s.dnl ∧
    (closeIfReady t e o s).snt = s.snt ∧ (closeIfReady t e o s).fmn = s.fmn ∧
    (closeIfReady t e o s).jnw = s.jnw ∧ (closeIfReady t e o s).pev = s.pev ∧
    (closeIfReady t e o s).draws = s.draws ∧ (closeIfReady t e o s).pending = s.pending := by
  simp only [closeIfReady]
  repeat' split
  all_goals simp

@[simp] theorem cardEntryServed_keeps (k : EntryKind) (n : Option Word) (s : State) :
    (cardEntryServed k n s).ssc = s.ssc ∧ (cardEntryServed k n s).rcx = s.rcx ∧
    (cardEntryServed k n s).ven = s.ven ∧ (cardEntryServed k n s).dnl = s.dnl ∧
    (cardEntryServed k n s).snt = s.snt ∧ (cardEntryServed k n s).fmn = s.fmn ∧
    (cardEntryServed k n s).pev = s.pev ∧ (cardEntryServed k n s).draws = s.draws ∧
    (cardEntryServed k n s).pending = s.pending := by
  simp only [cardEntryServed]
  repeat' split
  all_goals simp

@[simp] theorem reservationRefused_keeps (s : State) :
    (reservationRefused s).ssc = s.ssc ∧ (reservationRefused s).rcx = s.rcx ∧
    (reservationRefused s).ven = s.ven ∧ (reservationRefused s).dnl = s.dnl ∧
    (reservationRefused s).jnw = s.jnw ∧ (reservationRefused s).pev = s.pev ∧
    (reservationRefused s).draws = s.draws ∧ (reservationRefused s).pending = s.pending := by
  simp only [reservationRefused]
  repeat' split
  all_goals simp

@[simp] theorem fillServed_keeps (s : State) :
    (fillServed s).ssc = s.ssc ∧ (fillServed s).rcx = s.rcx ∧ (fillServed s).ven = s.ven ∧
    (fillServed s).dnl = s.dnl ∧ (fillServed s).snt = s.snt ∧ (fillServed s).fmn = s.fmn ∧
    (fillServed s).jnw = s.jnw ∧ (fillServed s).pev = s.pev ∧ (fillServed s).draws = s.draws ∧
    (fillServed s).pending = s.pending := by
  simp only [fillServed]
  repeat' split
  all_goals simp

@[simp] theorem tokenEntryServed_keeps (n : Option Word) (s : State) :
    (tokenEntryServed n s).rcx = s.rcx ∧ (tokenEntryServed n s).ven = s.ven ∧
    (tokenEntryServed n s).dnl = s.dnl ∧ (tokenEntryServed n s).clk = s.clk ∧
    (tokenEntryServed n s).fmn = s.fmn ∧ (tokenEntryServed n s).jnw = s.jnw ∧
    (tokenEntryServed n s).pev = s.pev ∧ (tokenEntryServed n s).draws = s.draws ∧
    (tokenEntryServed n s).pending = s.pending := by
  simp only [tokenEntryServed]
  repeat' split
  all_goals simp

@[simp] theorem noteEntryServed_keeps (n : Option Word) (s : State) :
    (noteEntryServed n s).rcx = s.rcx ∧ (noteEntryServed n s).ven = s.ven ∧ (noteEntryServed n s).dnl = s.dnl ∧
    (noteEntryServed n s).snt = s.snt ∧ (noteEntryServed n s).clk = s.clk ∧ (noteEntryServed n s).fmn = s.fmn ∧
    (noteEntryServed n s).jnw = s.jnw ∧ (noteEntryServed n s).pev = s.pev ∧
    (noteEntryServed n s).draws = s.draws ∧ (noteEntryServed n s).pending = s.pending := by
  simp only [noteEntryServed]
  repeat' split
  all_goals simp

@[simp] theorem entryServed_keeps (k : EntryKind) (w : ClaimFor) (n : Option Word) (s : State) :
    (entryServed k w n s).rcx = s.rcx ∧ (entryServed k w n s).ven = s.ven ∧ (entryServed k w n s).dnl = s.dnl ∧
    (entryServed k w n s).fmn = s.fmn ∧ (entryServed k w n s).pev = s.pev ∧
    (entryServed k w n s).draws = s.draws ∧ (entryServed k w n s).pending = s.pending := by
  simp only [entryServed]
  repeat' split
  all_goals simp

@[simp] theorem writeFields_keeps (r : Ring) (i : Nat) (n : Word) (e : EntryContents) (s : State) :
    (writeFields r i n e s).ssc = s.ssc ∧ (writeFields r i n e s).rcx = s.rcx ∧
    (writeFields r i n e s).ven = s.ven ∧ (writeFields r i n e s).dnl = s.dnl ∧
    (writeFields r i n e s).snt = s.snt ∧ (writeFields r i n e s).clk = s.clk ∧
    (writeFields r i n e s).fmn = s.fmn ∧ (writeFields r i n e s).pev = s.pev ∧
    (writeFields r i n e s).draws = s.draws ∧ (writeFields r i n e s).pending = s.pending := by
  simp only [writeFields]
  simp

@[simp] theorem writeHost_keeps (r : Ring) (i : Nat) (n : Word) (s : State) :
    (writeHost r i n s).ssc = s.ssc ∧ (writeHost r i n s).rcx = s.rcx ∧ (writeHost r i n s).ven = s.ven ∧
    (writeHost r i n s).dnl = s.dnl ∧ (writeHost r i n s).snt = s.snt ∧ (writeHost r i n s).clk = s.clk ∧
    (writeHost r i n s).fmn = s.fmn ∧ (writeHost r i n s).pev = s.pev ∧ (writeHost r i n s).draws = s.draws ∧
    (writeHost r i n s).pending = s.pending := by
  simp only [writeHost]
  simp

@[simp] theorem grantClaim_keeps (j : JournalJob) (r : Ring) (s : State) :
    (grantClaim j r s).ssc = s.ssc ∧ (grantClaim j r s).rcx = s.rcx ∧ (grantClaim j r s).ven = s.ven ∧
    (grantClaim j r s).dnl = s.dnl ∧ (grantClaim j r s).snt = s.snt ∧ (grantClaim j r s).fmn = s.fmn ∧
    (grantClaim j r s).pev = s.pev ∧ (grantClaim j r s).draws = s.draws ∧
    (grantClaim j r s).pending = s.pending := by
  simp only [grantClaim]
  repeat' split
  all_goals simp

@[simp] theorem refuseClaim_keeps (j : JournalJob) (s : State) :
    (refuseClaim j s).rcx = s.rcx ∧ (refuseClaim j s).ven = s.ven ∧ (refuseClaim j s).dnl = s.dnl ∧
    (refuseClaim j s).draws = s.draws ∧ (refuseClaim j s).pending = s.pending := by
  simp only [refuseClaim]
  repeat' split
  all_goals simp

@[simp] theorem serveClaim_keeps (j : JournalJob) (m : Byte) (r : Ring) (s : State) :
    (serveClaim j m r s).rcx = s.rcx ∧ (serveClaim j m r s).ven = s.ven ∧ (serveClaim j m r s).dnl = s.dnl ∧
    (serveClaim j m r s).draws = s.draws ∧ (serveClaim j m r s).pending = s.pending := by
  simp only [serveClaim]
  repeat' split
  all_goals simp

@[simp] theorem entryWritten_keeps (j : JournalJob) (n : Word) (s : State) :
    (entryWritten j n s).rcx = s.rcx ∧ (entryWritten j n s).ven = s.ven ∧ (entryWritten j n s).dnl = s.dnl ∧
    (entryWritten j n s).fmn = s.fmn ∧ (entryWritten j n s).draws = s.draws ∧
    (entryWritten j n s).pending = s.pending := by
  simp only [entryWritten]
  repeat' split
  all_goals simp

@[simp] theorem journalGoesOn_keeps (b : List Byte) (s : State) :
    (journalGoesOn b s).rcx = s.rcx ∧ (journalGoesOn b s).ven = s.ven ∧ (journalGoesOn b s).dnl = s.dnl ∧
    (journalGoesOn b s).fmn = s.fmn ∧ (journalGoesOn b s).draws = s.draws ∧
    (journalGoesOn b s).pending = s.pending := by
  simp only [journalGoesOn]
  repeat' split
  all_goals simp

/-! ### START and the sweep (R140 to R142) -/

@[simp] theorem checkSetup_keeps (b : List Byte) (s : State) :
    (checkSetup b s).ven = s.ven ∧ (checkSetup b s).dnl = s.dnl ∧ (checkSetup b s).draws = s.draws ∧
    (checkSetup b s).pending = s.pending := by
  simp only [checkSetup]
  repeat' split
  all_goals simp

@[simp] theorem startUpGoesOn_keeps (p : StartPhase) (b : List Byte) (s : State) :
    (startUpGoesOn p b s).ven = s.ven ∧ (startUpGoesOn p b s).dnl = s.dnl ∧
    (startUpGoesOn p b s).draws = s.draws ∧ (startUpGoesOn p b s).pending = s.pending := by
  simp only [startUpGoesOn]
  repeat' split
  all_goals simp

@[simp] theorem startPart_keeps (s : State) :
    (startPart s).rcx = s.rcx ∧ (startPart s).ven = s.ven ∧ (startPart s).dnl = s.dnl ∧
    (startPart s).snt = s.snt ∧ (startPart s).clk = s.clk ∧ (startPart s).fmn = s.fmn ∧
    (startPart s).jnw = s.jnw ∧ (startPart s).draws = s.draws ∧ (startPart s).pending = s.pending := by
  simp only [startPart]
  repeat' split
  all_goals simp

/-! ### NUDGE, HALT and the timers -/

@[simp] theorem nudgeAwake_keeps (s : State) :
    (nudgeAwake s).rcx = s.rcx ∧ (nudgeAwake s).ven = s.ven ∧ (nudgeAwake s).dnl = s.dnl ∧
    (nudgeAwake s).snt = s.snt ∧ (nudgeAwake s).clk = s.clk ∧ (nudgeAwake s).fmn = s.fmn ∧
    (nudgeAwake s).jnw = s.jnw ∧ (nudgeAwake s).draws = s.draws ∧ (nudgeAwake s).pending = s.pending := by
  simp only [nudgeAwake]
  repeat' split
  all_goals simp

@[simp] theorem nudgeAsleep_keeps (s : State) :
    (nudgeAsleep s).mpt = s.mpt ∧ (nudgeAsleep s).ssc = s.ssc ∧ (nudgeAsleep s).rcx = s.rcx ∧
    (nudgeAsleep s).ven = s.ven ∧ (nudgeAsleep s).dnl = s.dnl ∧ (nudgeAsleep s).snt = s.snt ∧
    (nudgeAsleep s).clk = s.clk ∧ (nudgeAsleep s).fmn = s.fmn ∧ (nudgeAsleep s).jnw = s.jnw ∧
    (nudgeAsleep s).draws = s.draws ∧ (nudgeAsleep s).pending = s.pending := by
  simp only [nudgeAsleep]
  repeat' split
  all_goals simp

@[simp] theorem nudge_keeps (s : State) :
    (nudge s).rcx = s.rcx ∧ (nudge s).ven = s.ven ∧ (nudge s).dnl = s.dnl ∧ (nudge s).snt = s.snt ∧
    (nudge s).clk = s.clk ∧ (nudge s).fmn = s.fmn ∧ (nudge s).jnw = s.jnw ∧ (nudge s).draws = s.draws ∧
    (nudge s).pending = s.pending := by
  simp only [nudge]
  repeat' split
  all_goals simp

@[simp] theorem endPulse_keeps (s : State) :
    (endPulse s).mpt = s.mpt ∧ (endPulse s).ssc = s.ssc ∧ (endPulse s).rcx = s.rcx ∧ (endPulse s).ven = s.ven ∧
    (endPulse s).dnl = s.dnl ∧ (endPulse s).snt = s.snt ∧ (endPulse s).jnw = s.jnw ∧ (endPulse s).pev = s.pev ∧
    (endPulse s).draws = s.draws ∧ (endPulse s).pending = s.pending := by
  simp only [endPulse]
  repeat' split
  all_goals simp

@[simp] theorem haltRunning_keeps (s : State) :
    (haltRunning s).rcx = s.rcx ∧ (haltRunning s).ven = s.ven ∧ (haltRunning s).dnl = s.dnl ∧
    (haltRunning s).draws = s.draws ∧ (haltRunning s).pending = s.pending := by
  simp only [haltRunning]
  repeat' split
  all_goals simp

@[simp] theorem wakeExpires_keeps (n : Nat) (s : State) :
    (wakeExpires n s).rcx = s.rcx ∧ (wakeExpires n s).ven = s.ven ∧ (wakeExpires n s).dnl = s.dnl ∧
    (wakeExpires n s).snt = s.snt ∧ (wakeExpires n s).clk = s.clk ∧ (wakeExpires n s).jnw = s.jnw ∧
    (wakeExpires n s).draws = s.draws ∧ (wakeExpires n s).pending = s.pending := by
  simp only [wakeExpires]
  repeat' split
  all_goals simp

@[simp] theorem wakeByCard_keeps (s : State) :
    (wakeByCard s).mpt = s.mpt ∧ (wakeByCard s).rcx = s.rcx ∧ (wakeByCard s).ven = s.ven ∧
    (wakeByCard s).dnl = s.dnl ∧ (wakeByCard s).snt = s.snt ∧ (wakeByCard s).clk = s.clk ∧
    (wakeByCard s).fmn = s.fmn ∧ (wakeByCard s).jnw = s.jnw ∧ (wakeByCard s).draws = s.draws ∧
    (wakeByCard s).pending = s.pending := by
  simp only [wakeByCard]
  repeat' split
  all_goals simp

@[simp] theorem senseMeasured_keeps (m : Nat) (s : State) :
    (senseMeasured m s).mpt = s.mpt ∧ (senseMeasured m s).rcx = s.rcx ∧ (senseMeasured m s).ven = s.ven ∧
    (senseMeasured m s).dnl = s.dnl ∧ (senseMeasured m s).snt = s.snt ∧ (senseMeasured m s).clk = s.clk ∧
    (senseMeasured m s).fmn = s.fmn ∧ (senseMeasured m s).jnw = s.jnw ∧ (senseMeasured m s).draws = s.draws ∧
    (senseMeasured m s).pending = s.pending := by
  simp only [senseMeasured]
  repeat' split
  all_goals simp

@[simp] theorem wakeFromSleep_keeps (s : State) :
    (wakeFromSleep s).mpt = s.mpt ∧ (wakeFromSleep s).ssc = s.ssc ∧ (wakeFromSleep s).ven = s.ven ∧
    (wakeFromSleep s).dnl = s.dnl ∧ (wakeFromSleep s).snt = s.snt ∧ (wakeFromSleep s).clk = s.clk ∧
    (wakeFromSleep s).fmn = s.fmn ∧ (wakeFromSleep s).jnw = s.jnw ∧ (wakeFromSleep s).draws = s.draws ∧
    (wakeFromSleep s).pending = s.pending := by
  simp only [wakeFromSleep]
  simp

@[simp] theorem enterDoze_keeps (c : PowerChange) (s : State) :
    (enterDoze c s).mpt = s.mpt ∧ (enterDoze c s).rcx = s.rcx ∧ (enterDoze c s).ven = s.ven ∧
    (enterDoze c s).dnl = s.dnl ∧ (enterDoze c s).snt = s.snt ∧ (enterDoze c s).clk = s.clk ∧
    (enterDoze c s).fmn = s.fmn ∧ (enterDoze c s).jnw = s.jnw ∧ (enterDoze c s).draws = s.draws ∧
    (enterDoze c s).pending = s.pending := by
  simp only [enterDoze]
  simp

@[simp] theorem enterSleep_keeps (s : State) :
    (enterSleep s).mpt = s.mpt ∧ (enterSleep s).ven = s.ven ∧ (enterSleep s).dnl = s.dnl ∧
    (enterSleep s).snt = s.snt ∧ (enterSleep s).clk = s.clk ∧ (enterSleep s).jnw = s.jnw ∧
    (enterSleep s).draws = s.draws ∧ (enterSleep s).pending = s.pending := by
  simp only [enterSleep]
  simp

@[simp] theorem enterPower_keeps (c : PowerChange) (s : State) :
    (enterPower c s).mpt = s.mpt ∧ (enterPower c s).ven = s.ven ∧ (enterPower c s).dnl = s.dnl ∧
    (enterPower c s).snt = s.snt ∧ (enterPower c s).jnw = s.jnw ∧ (enterPower c s).draws = s.draws ∧
    (enterPower c s).pending = s.pending := by
  simp only [enterPower]
  repeat' split
  all_goals simp

@[simp] theorem endScanInto_keeps (sc : Scan) (c : PowerChange) (s : State) :
    (endScanInto sc c s).ven = s.ven ∧ (endScanInto sc c s).dnl = s.dnl ∧ (endScanInto sc c s).snt = s.snt ∧
    (endScanInto sc c s).jnw = s.jnw ∧ (endScanInto sc c s).draws = s.draws ∧
    (endScanInto sc c s).pending = s.pending := by
  simp only [endScanInto]
  repeat' split
  all_goals simp

@[simp] theorem powerDone_keeps (sc : Scan) (c : PowerChange) (s : State) :
    (powerDone sc c s).ven = s.ven ∧ (powerDone sc c s).dnl = s.dnl ∧ (powerDone sc c s).snt = s.snt ∧
    (powerDone sc c s).jnw = s.jnw ∧ (powerDone sc c s).draws = s.draws ∧
    (powerDone sc c s).pending = s.pending := by
  simp only [powerDone]
  repeat' split
  all_goals simp

/-! ### The answer of a bus access (R144) -/

@[simp] theorem stateRead_keeps (sc : Scan) (b : List Byte) (s : State) :
    (stateRead sc b s).rcx = s.rcx ∧ (stateRead sc b s).ven = s.ven ∧ (stateRead sc b s).dnl = s.dnl ∧
    (stateRead sc b s).snt = s.snt ∧ (stateRead sc b s).clk = s.clk ∧ (stateRead sc b s).fmn = s.fmn ∧
    (stateRead sc b s).jnw = s.jnw ∧ (stateRead sc b s).draws = s.draws ∧
    (stateRead sc b s).pending = s.pending := by
  simp only [stateRead]
  repeat' split
  all_goals simp

@[simp] theorem headRead_keeps (sc : Scan) (b : List Byte) (s : State) :
    (headRead sc b s).rcx = s.rcx ∧ (headRead sc b s).ven = s.ven ∧ (headRead sc b s).dnl = s.dnl ∧
    (headRead sc b s).snt = s.snt ∧ (headRead sc b s).clk = s.clk ∧ (headRead sc b s).fmn = s.fmn ∧
    (headRead sc b s).jnw = s.jnw ∧ (headRead sc b s).draws = s.draws ∧
    (headRead sc b s).pending = s.pending := by
  simp only [headRead]
  repeat' split
  all_goals simp

@[simp] theorem requestRead_keeps (sc : Scan) (h : List Byte) (b : List Byte) (s : State) :
    (requestRead sc h b s).rcx = s.rcx ∧ (requestRead sc h b s).ven = s.ven ∧
    (requestRead sc h b s).dnl = s.dnl ∧ (requestRead sc h b s).snt = s.snt ∧
    (requestRead sc h b s).clk = s.clk ∧ (requestRead sc h b s).fmn = s.fmn ∧
    (requestRead sc h b s).jnw = s.jnw ∧ (requestRead sc h b s).draws = s.draws ∧
    (requestRead sc h b s).pending = s.pending := by
  simp only [requestRead]
  repeat' split
  all_goals simp

@[simp] theorem slotTakenWritten_keeps (sc : Scan) (g : Half) (p : Parsed) (s : State) :
    (slotTakenWritten sc g p s).rcx = s.rcx ∧ (slotTakenWritten sc g p s).ven = s.ven ∧
    (slotTakenWritten sc g p s).dnl = s.dnl ∧ (slotTakenWritten sc g p s).snt = s.snt ∧
    (slotTakenWritten sc g p s).clk = s.clk ∧ (slotTakenWritten sc g p s).fmn = s.fmn ∧
    (slotTakenWritten sc g p s).jnw = s.jnw ∧ (slotTakenWritten sc g p s).pev = s.pev ∧
    (slotTakenWritten sc g p s).draws = s.draws ∧ (slotTakenWritten sc g p s).pending = s.pending := by
  simp only [slotTakenWritten]
  repeat' split
  all_goals simp

@[simp] theorem tokenServed_keeps (sc : Scan) (t : Task) (r : TokenRequest) (b : List Byte) (s : State) :
    (tokenServed sc t r b s).rcx = s.rcx ∧ (tokenServed sc t r b s).ven = s.ven ∧
    (tokenServed sc t r b s).dnl = s.dnl ∧ (tokenServed sc t r b s).snt = s.snt ∧
    (tokenServed sc t r b s).clk = s.clk ∧ (tokenServed sc t r b s).fmn = s.fmn ∧
    (tokenServed sc t r b s).jnw = s.jnw ∧ (tokenServed sc t r b s).pev = s.pev ∧
    (tokenServed sc t r b s).draws = s.draws ∧ (tokenServed sc t r b s).pending = s.pending := by
  simp only [tokenServed]
  repeat' split
  all_goals simp

@[simp] theorem routeServed_keeps (sc : Scan) (t : Task) (r : RouteRequest) (b : List Byte) (s : State) :
    (routeServed sc t r b s).ven = s.ven ∧ (routeServed sc t r b s).dnl = s.dnl ∧
    (routeServed sc t r b s).fmn = s.fmn ∧ (routeServed sc t r b s).jnw = s.jnw ∧
    (routeServed sc t r b s).pev = s.pev ∧ (routeServed sc t r b s).draws = s.draws ∧
    (routeServed sc t r b s).pending = s.pending := by
  simp only [routeServed]
  repeat' split
  all_goals simp

@[simp] theorem notesServed_keeps (sc : Scan) (t : Task) (n : Nat) (b : List Byte) (s : State) :
    (notesServed sc t n b s).rcx = s.rcx ∧ (notesServed sc t n b s).ven = s.ven ∧
    (notesServed sc t n b s).dnl = s.dnl ∧ (notesServed sc t n b s).clk = s.clk ∧
    (notesServed sc t n b s).fmn = s.fmn ∧ (notesServed sc t n b s).pev = s.pev ∧
    (notesServed sc t n b s).draws = s.draws ∧ (notesServed sc t n b s).pending = s.pending := by
  simp only [notesServed]
  repeat' split
  all_goals simp

@[simp] theorem cancelTagRead_keeps (sc : Scan) (t : Task) (n : Nat) (b : List Byte) (s : State) :
    (cancelTagRead sc t n b s).rcx = s.rcx ∧ (cancelTagRead sc t n b s).ven = s.ven ∧
    (cancelTagRead sc t n b s).dnl = s.dnl ∧ (cancelTagRead sc t n b s).snt = s.snt ∧
    (cancelTagRead sc t n b s).clk = s.clk ∧ (cancelTagRead sc t n b s).fmn = s.fmn ∧
    (cancelTagRead sc t n b s).jnw = s.jnw ∧ (cancelTagRead sc t n b s).pev = s.pev ∧
    (cancelTagRead sc t n b s).draws = s.draws ∧ (cancelTagRead sc t n b s).pending = s.pending := by
  simp only [cancelTagRead]
  simp

@[simp] theorem servingGoesOn_keeps (sc : Scan) (t : Task) (g : ServeStage) (b : List Byte) (s : State) :
    (servingGoesOn sc t g b s).fmn = s.fmn ∧ (servingGoesOn sc t g b s).draws = s.draws ∧
    (servingGoesOn sc t g b s).pending = s.pending := by
  simp only [servingGoesOn]
  repeat' split
  all_goals simp

@[simp] theorem answerWritten_keeps (sc : Scan) (g : Half) (c : Option PowerChange) (s : State) :
    (answerWritten sc g c s).rcx = s.rcx ∧ (answerWritten sc g c s).ven = s.ven ∧
    (answerWritten sc g c s).dnl = s.dnl ∧ (answerWritten sc g c s).snt = s.snt ∧
    (answerWritten sc g c s).clk = s.clk ∧ (answerWritten sc g c s).fmn = s.fmn ∧
    (answerWritten sc g c s).jnw = s.jnw ∧ (answerWritten sc g c s).pev = s.pev ∧
    (answerWritten sc g c s).draws = s.draws ∧ (answerWritten sc g c s).pending = s.pending := by
  simp only [answerWritten]
  repeat' split
  all_goals simp

@[simp] theorem doneWritten_keeps (sc : Scan) (c : Option PowerChange) (s : State) :
    (doneWritten sc c s).ven = s.ven ∧ (doneWritten sc c s).dnl = s.dnl ∧ (doneWritten sc c s).snt = s.snt ∧
    (doneWritten sc c s).jnw = s.jnw ∧ (doneWritten sc c s).draws = s.draws ∧
    (doneWritten sc c s).pending = s.pending := by
  simp only [doneWritten]
  repeat' split
  all_goals simp

@[simp] theorem scanGoesOn_keeps (sc : Scan) (b : List Byte) (s : State) :
    (scanGoesOn sc b s).draws = s.draws ∧ (scanGoesOn sc b s).pending = s.pending := by
  simp only [scanGoesOn]
  repeat' split
  all_goals simp

@[simp] theorem cancelServed_keeps (n : Nat) (s : State) :
    (cancelServed n s).rcx = s.rcx ∧ (cancelServed n s).ven = s.ven ∧ (cancelServed n s).dnl = s.dnl ∧
    (cancelServed n s).snt = s.snt ∧ (cancelServed n s).clk = s.clk ∧ (cancelServed n s).fmn = s.fmn ∧
    (cancelServed n s).jnw = s.jnw ∧ (cancelServed n s).pev = s.pev ∧ (cancelServed n s).draws = s.draws ∧
    (cancelServed n s).pending = s.pending := by
  simp only [cancelServed]
  repeat' split
  all_goals simp

@[simp] theorem cardGoesOn_keeps (n : Nat) (s : State) :
    (cardGoesOn n s).rcx = s.rcx ∧ (cardGoesOn n s).ven = s.ven ∧ (cardGoesOn n s).dnl = s.dnl ∧
    (cardGoesOn n s).snt = s.snt ∧ (cardGoesOn n s).jnw = s.jnw ∧ (cardGoesOn n s).pending = s.pending := by
  simp only [cardGoesOn]
  repeat' split
  all_goals simp

@[simp] theorem resume_pending (c : Client) (b : List Byte) (s : State) :
    (resume c b s).pending = s.pending := by
  simp only [resume]
  repeat' split
  all_goals simp

@[simp] theorem memoryFaultHalts_keeps (s : State) :
    (memoryFaultHalts s).rcx = s.rcx ∧ (memoryFaultHalts s).ven = s.ven ∧ (memoryFaultHalts s).dnl = s.dnl ∧
    (memoryFaultHalts s).draws = s.draws ∧ (memoryFaultHalts s).pending = s.pending := by
  simp only [memoryFaultHalts]
  simp

/-! ### CLEAR FAULTS (R120) -/

@[simp] theorem clearOpen_keeps (s : State) :
    (clearOpen s).mpt = s.mpt ∧ (clearOpen s).ssc = s.ssc ∧ (clearOpen s).rcx = s.rcx ∧
    (clearOpen s).ven = s.ven ∧ (clearOpen s).dnl = s.dnl ∧ (clearOpen s).snt = s.snt ∧
    (clearOpen s).clk = s.clk ∧ (clearOpen s).jnw = s.jnw ∧ (clearOpen s).draws = s.draws ∧
    (clearOpen s).pending = s.pending := by
  simp only [clearOpen]
  repeat' split
  all_goals simp

@[simp] theorem clearOvercurrent_keeps (s : State) :
    (clearOvercurrent s).mpt = s.mpt ∧ (clearOvercurrent s).ssc = s.ssc ∧ (clearOvercurrent s).rcx = s.rcx ∧
    (clearOvercurrent s).ven = s.ven ∧ (clearOvercurrent s).dnl = s.dnl ∧ (clearOvercurrent s).snt = s.snt ∧
    (clearOvercurrent s).clk = s.clk ∧ (clearOvercurrent s).jnw = s.jnw ∧ (clearOvercurrent s).draws = s.draws ∧
    (clearOvercurrent s).pending = s.pending := by
  simp only [clearOvercurrent]
  repeat' split
  all_goals simp

@[simp] theorem clearFaults_keeps (s : State) :
    (clearFaults s).mpt = s.mpt ∧ (clearFaults s).ssc = s.ssc ∧ (clearFaults s).rcx = s.rcx ∧
    (clearFaults s).ven = s.ven ∧ (clearFaults s).dnl = s.dnl ∧ (clearFaults s).snt = s.snt ∧
    (clearFaults s).clk = s.clk ∧ (clearFaults s).jnw = s.jnw ∧ (clearFaults s).draws = s.draws ∧
    (clearFaults s).pending = s.pending := by
  simp only [clearFaults]
  simp

end Sys2Proof.Proofs.Frames
end

section
/-! SUPPORT. The queue of commands: a step takes the front command, every command ends in a next state, and none touches the
queue. -/

namespace Sys2Proof.Proofs.Queue

open Sys2Proof Sys2Proof.Machine

theorem step_nil {s : State} (h : s.pending = []) : step s = .next s := by simp only [step, h]

theorem step_cons {s : State} {c : Instr} {rest : List Instr} (h : s.pending = c :: rest) :
    step s = exec c { s with pending := rest } := by
  simp only [step, h]

/-- An outcome is a next state whose queue is that of s. -/
def KeepsQueue (s : State) (o : Host.Outcome State Fault Refusal) : Prop := ∃ t, o = .next t ∧ t.pending = s.pending

theorem keepsQueue_next {s u : State} (h : u.pending = s.pending) : KeepsQueue s (.next u) := ⟨u, rfl, h⟩

theorem exec_keepsQueue (c : Instr) (s : State) : KeepsQueue s (exec c s) := by
  cases c
  all_goals
    simp only [exec, settled, execStart, execHalt, execNudge, execClearFaults, execReset, execResetLine, execEventsWrite,
      execEventEnableWrite, execSetupAddressWrite, execMemoryResponse, execMemoryFault, execPollTimerExpiry,
      execMinuteTimerExpiry, execWakeTimerExpiry, execSenseTimerExpiry, execSensePulseEnd, execPassiveCheckEnd,
      execSettlingEnd, execPresenceIntervalExpiry, execPresentationDeadline, execReplyLimitExpiry,
      execAntennaOpenDetection, execAntennaCurrentRise, execOvercurrentDetection, execThermalWarning,
      execReducedDutyLift, execThermalShutdown, execShutdownBlockLift, execHello, execArea, execStampAck,
      execCheckStampReply, execCardInspect, execTokenInspect, execRoute, execPosition, execDenyReplace, execDenyDelta,
      execDenyPrune, execPeerNotes, execSeenExport, execFieldTest, execPower, execCancel, execKeyLoad, execKeyClear,
      execStatus, execIdentify, execJournalClaim, execReservationFill, execSeenUpdate, execHaltingEnd]
    repeat' split
  all_goals exact keepsQueue_next (by simp [resetPart])

/-- Settles O1: both halves are the two branches of the step. -/
theorem stepRunsTheFrontCommand : Obligations.StepRunsTheFrontCommand := by
  unfold Obligations.StepRunsTheFrontCommand
  exact fun s => ⟨step_nil, fun _ _ => step_cons⟩

/-- Settles O2: every arm of exec is a next state or a settled one, and each operation's frame has the queue in it. -/
theorem everyCommandCompletes : Obligations.EveryCommandCompletes := by
  unfold Obligations.EveryCommandCompletes
  exact exec_keepsQueue

end Sys2Proof.Proofs.Queue
end

section
/-! SUPPORT. What one command can do: the state it leads to, with the guard under which it does so, and for those that
go over the bus the state before the arbitration. Every invariant below is proved along these cases. -/

namespace Sys2Proof.Proofs.Cases

open Sys2Proof Sys2Proof.Machine

/-- The commands that ask for no access: from s to t. -/
inductive Direct (s : State) : State → Prop
  | idle : Direct s s
  | clearFaults : Direct s (clearFaults s)
  | reset (d : Int) : Direct s (resetPart d s)
  | eventsWrite (v : Word) : Direct s { s with pev := { s.pev with events := s.pev.events &&& ~~~(v.setWidth 8) } }
  | enablesWrite (v : Word) : Direct s { s with pev := { s.pev with enables := v.setWidth 8 } }
  | addressWrite (v : Word) : Direct s { s with mpt := { s.mpt with setupAddress := v } }
  | haltWaits (h : s.mpt.runState = .starting) : Direct s { s with mpt := { s.mpt with haltPending := true } }
  | fault (h : s.mpt.flight.isSome = true) : Direct s (memoryFaultHalts s)
  | minute : Direct s { s with rcx := minutePasses s.rcx }
  | wake {t : HeldTask} {rest : List HeldTask} (hh : s.clk.hold = t :: rest) (hx : t.session = .presence) :
      Direct s (sendWake s)
  | currentRise : Direct s { s with fmn := { s.fmn with finding := .connected, detected := false } }
  | stampAck {t : HeldTask} {rest : List HeldTask} {d : Draft} {p : RidePlan} (hh : s.clk.hold = t :: rest)
      (hx : t.session = .stamping .put d p) : Direct s (sendTry 1 (setSession t.slot (.stamping .check d p) s))
  | haltingEnd (hr : s.mpt.runState = .halting) (hn : nothingLeft s = true) : Direct s (enterHalted .command s)

/-- The other commands: from s to the state u that goes to the arbitration of the bus. -/
inductive Settles (s : State) : State → Prop
  | start (hr : s.mpt.runState = .halted) : Settles s (startPart s)
  | halt (hr : s.mpt.runState = .running) : Settles s (haltRunning s)
  | nudge (hr : s.mpt.runState = .running) : Settles s (nudge s)
  | answered {a : Access} {data : List Byte} (hf : s.mpt.flight = some a) (ha : answers data a = true) :
      Settles s (resume a.client data { s with mpt := freeBus s })
  | poll (ha : scansAllowed s = true) (hn : s.ssc.scan = none) : Settles s (beginScan s)
  | wakeTimer {n : Nat} (hw : s.pev.wakeTimer = some n) (hr : s.mpt.runState = .running) (hp : s.pev.power = .doze) :
      Settles s (wakeExpires n s)
  | sense (hr : s.mpt.runState = .running) (hp : s.pev.power = .doze) (hh : s.clk.holder = .none)
      (hb : fieldBlocked s = false) : Settles s (turnOn .sense s)
  | pulseEnd (m : Nat) (hh : s.clk.holder = .sense) : Settles s (afterPulse (senseMeasured m (turnOff s)))
  | checkEnd {use : PassiveUse} (carried : Bool) (d : Int) (hu : s.fmn.passive = some use) :
      Settles s (passiveEnds use carried (measure d s))
  | wakeToScan (hs : s.pev.settling = some .scan) : Settles s (nudgeAwake (wakeFromSleep s))
  | wakeToHalt (hs : s.pev.settling = some .halt) : Settles s (enterHalting (wakeFromSleep s))
  | deadline {t : HeldTask} {rest : List HeldTask} (hh : s.clk.hold = t :: rest) (hx : t.session = .presence) :
      Settles s (closeHead t (sessionVerdict .noCredential none) {} s)
  | replyFails : Settles s (replyFails s)
  | antennaLost (hh : s.clk.holder = .session) : Settles s (antennaLost s)
  | overcurrent : Settles s (overcurrent s)
  | dieMoves (d : Int) : Settles s (dieMoves d s)
  | hello {t : HeldTask} {rest : List HeldTask} (link : LinkStatus) (c : Cred) (filled : Byte) (stamp : Bool)
      (hh : s.clk.hold = t :: rest) (hx : t.session = .presence) : Settles s (helloTaken t link c filled stamp s)
  | area {t : HeldTask} {rest : List HeldTask} {id : CardIdentity} (records : List (List Byte))
      (stamp : Option (List Byte)) (w : Asks) (hh : s.clk.hold = t :: rest) (hx : t.session = .reading) :
      Settles s (askCard t w (cardAsking t id records stamp) (sendTry 0 s))
  | asking {t : HeldTask} {rest : List HeldTask} {a : Asking} (w : Asks) (hh : s.clk.hold = t :: rest)
      (hx : t.session = .asking a) : Settles s (askCard t w a s)
  | checkReply {t : HeldTask} {rest : List HeldTask} {d : Draft} {p : RidePlan} (reply : StampStanding)
      (hh : s.clk.hold = t :: rest) (hx : t.session = .stamping .check d p) : Settles s (checkTaken t d p reply s)
  | cardInspect {sc : Scan} {g : Half} {r : CardRequest} (hi : InHand sc ⟨g, .cardInspect r⟩ s) :
      Settles s (goOn sc (enterHold sc.index g r s))
  | tokenRead {sc : Scan} {g : Half} {r : TokenRequest} (hi : InHand sc ⟨g, .tokenInspect r⟩ s) :
      Settles s (askRead .scan r.address 40 (serveOn sc ⟨g, .tokenInspect r⟩ .tokenRead s))
  | tokenAsk {sc : Scan} {t : Task} {a : Asking} (w : Asks) (hi : Serving sc t (.tokenAsk a) s) :
      Settles s (askToken sc t w a s)
  | route {sc : Scan} {g : Half} {r : RouteRequest} (hi : InHand sc ⟨g, .route r⟩ s) :
      Settles s (routeTaken sc ⟨g, .route r⟩ r s)
  | routeInstall {sc : Scan} {g : Half} {r : RouteRequest} {stops : List Stop}
      (hi : Serving sc ⟨g, .route r⟩ (.routeInstall stops) s) : Settles s (routeInstalled sc ⟨g, .route r⟩ r stops s)
  | position {sc : Scan} {g : Half} {r : PositionRequest} (hi : InHand sc ⟨g, .position r⟩ s) :
      Settles s (completeTask sc g (positionBody r s.rcx) none { s with rcx := positioned r s.rcx })
  | replaceEmpty {sc : Scan} {g : Half} {r : ReplaceRequest} (hi : InHand sc ⟨g, .denyReplace r⟩ s) :
      Settles s (replaceServed sc g r [] s)
  | replaceRead {sc : Scan} {g : Half} {r : ReplaceRequest} (hi : InHand sc ⟨g, .denyReplace r⟩ s) :
      Settles s (askRead .scan r.address (16 * r.count) (serveOn sc ⟨g, .denyReplace r⟩ .replaceRead s))
  | deltaEmpty {sc : Scan} {g : Half} {r : DeltaRequest} (hi : InHand sc ⟨g, .denyDelta r⟩ s) :
      Settles s (deltaServed sc g r [] s)
  | deltaRead {sc : Scan} {g : Half} {r : DeltaRequest} (hi : InHand sc ⟨g, .denyDelta r⟩ s) :
      Settles s (askRead .scan r.address (16 * r.count) (serveOn sc ⟨g, .denyDelta r⟩ .deltaRead s))
  | prune {sc : Scan} {g : Half} {day : Half} (hi : InHand sc ⟨g, .denyPrune day⟩ s) :
      Settles s (completeTask sc g (pruneList day s.dnl).2 none { s with dnl := (pruneList day s.dnl).1 })
  | notesRead {sc : Scan} {g : Half} {n : Nat} {address : Word} (hi : InHand sc ⟨g, .peerNotes n address⟩ s) :
      Settles s (askRead .scan address (16 * n) (serveOn sc ⟨g, .peerNotes n address⟩ .notesRead s))
  | notesWait {sc : Scan} {t : Task} {notes : List PeerNote} (hi : Serving sc t (.notesWait notes) s) :
      Settles s (notesDue sc t notes s)
  | seenExport {sc : Scan} {g : Half} {after : Word} {capacity : Nat} {address : Word}
      (hi : InHand sc ⟨g, .seenExport after capacity address⟩ s) :
      Settles s (exportNext sc ⟨g, .seenExport after capacity address⟩ address ((localAbove after s.snt).take capacity) 0
        (exportSummary (localAbove after s.snt) capacity s.snt.counter) s)
  | fieldTest {sc : Scan} {g : Half} (d : Int) (hi : InHand sc ⟨g, .fieldTest⟩ s) :
      Settles s (fieldTested sc g (measure d s))
  | powerBusy {sc : Scan} {g : Half} {target : PowerState} {n : Nat} {near : Bool}
      (hi : InHand sc ⟨g, .power target n near⟩ s) (hr : powerRefused target s = true) :
      Settles s (completeTask sc g (Machine.powerBusy s.pev.power s.clk.hold.length) none s)
  | power {sc : Scan} {g : Half} {target : PowerState} {n : Nat} {near : Bool}
      (hi : InHand sc ⟨g, .power target n near⟩ s) (hr : powerRefused target s = false)
      (hw : powerWaits target s = false) :
      Settles s (completeTask sc g (powerAnswer s.pev.power target) (some ⟨target, n, near⟩) s)
  | cancel {sc : Scan} {g : Half} {n : Nat} (state kind : Byte) (hi : InHand sc ⟨g, .cancel n⟩ s) :
      Settles s (cancelTaken sc g n state kind s)
  | keyLoad {sc : Scan} {g : Half} {n : Nat} {replace : Bool} {address : Word}
      (hi : InHand sc ⟨g, .keyLoad n replace address⟩ s) :
      Settles s (askRead .scan address 16 (serveOn sc ⟨g, .keyLoad n replace address⟩ .keyRead s))
  | keyClear {sc : Scan} {g : Half} {n : Nat} (hi : InHand sc ⟨g, .keyClear n⟩ s) :
      Settles s (completeTask sc g (keyClearAnswer (keyLoaded n s.ven) (setKey n none s.ven)) none
        { s with ven := setKey n none s.ven })
  | status {sc : Scan} {g : Half} {address : Word} (d : Int) (high : Bool) (asks : List StatusBlock)
      (hi : InHand sc ⟨g, .status address⟩ s) :
      Settles s (statusAsked sc ⟨g, .status address⟩ address d high asks StatusBlock.all {} s)
  | statusAsk {sc : Scan} {g : Half} {address : Word} {left : List StatusBlock} {r : StatusRecord} (d : Int) (high : Bool)
      (asks : List StatusBlock) (hi : Serving sc ⟨g, .status address⟩ (.statusAsk left r) s) :
      Settles s (statusAsked sc ⟨g, .status address⟩ address d high asks left r s)
  | identify {sc : Scan} {g : Half} {address : Word} (hi : InHand sc ⟨g, .identify address⟩ s) :
      Settles s (askWrite .scan address identityBytes (serveOn sc ⟨g, .identify address⟩ .recordWrite s))
  | journalClaim {mark : Byte} {j : JournalJob} {rest : List JournalJob} {ring : Ring}
      (hv : s.jnw.service = .markRead mark) (hq : s.jnw.queue = j :: rest) (hr : s.jnw.ring = some ring)
      (hc : isClaim j = true) : Settles s (serveClaim j mark ring s)
  | fill {e : EntryContents} {rest : List JournalJob} {ring : Ring} {r : Reservation} (hv : s.jnw.service = .idle)
      (hq : s.jnw.queue = .fill e :: rest) (hr : s.jnw.ring = some ring) (hres : s.jnw.reservation = some r) :
      Settles s (writeFields ring r.entry r.serial e s)
  | seenUpdate (he : seenEngaged s = false) : Settles s (deliverUpdate s)

/-- What a command leads to. -/
def Steps (s t : State) : Prop := Direct s t ∨ ∃ u, Settles s u ∧ t = arbitrate u

theorem Direct.steps {s t u : State} (d : Direct s u) (h : Host.Outcome.next (φ := Fault) (ρ := Refusal) u = .next t) :
    Steps s t := by
  cases h
  exact .inl d

theorem idles {s t : State} (h : Host.Outcome.next (φ := Fault) (ρ := Refusal) s = .next t) : Steps s t :=
  Direct.idle.steps h

theorem Settles.steps {s t u : State} (d : Settles s u) (h : settled u = .next t) : Steps s t := by
  cases h
  exact .inr ⟨u, d, rfl⟩

theorem inHand_of_handedTask {s : State} {sc : Scan} {t : Task} (h : handedTask s = some (sc, t)) : InHand sc t s := by
  simp only [handedTask] at h
  repeat' split at h
  all_goals simp_all [InHand]

theorem serving_of_servedTask {s : State} {sc : Scan} {t : Task} {g : ServeStage}
    (h : servedTask s = some (sc, t, g)) : Serving sc t g s := by
  simp only [servedTask] at h
  repeat' split at h
  all_goals simp_all [Serving]

theorem exec_cases {c : Instr} {s t : State} (h : exec c s = .next t) : Steps s t := by
  cases c
  case start =>
    simp only [exec, execStart] at h
    split at h
    · exact (Settles.start ‹_›).steps h
    · exact idles h
  case halt =>
    simp only [exec, execHalt] at h
    split at h
    · exact (Direct.haltWaits ‹_›).steps h
    · exact (Settles.halt ‹_›).steps h
    all_goals exact idles h
  case nudge =>
    simp only [exec, execNudge] at h
    split at h
    · exact (Settles.nudge ‹_›).steps h
    · exact idles h
  case clearFaults => exact Direct.clearFaults.steps h
  case reset d => exact (Direct.reset d).steps h
  case resetLine d => exact (Direct.reset d).steps h
  case eventsWrite v => exact (Direct.eventsWrite v).steps h
  case eventEnableWrite v => exact (Direct.enablesWrite v).steps h
  case setupAddressWrite v => exact (Direct.addressWrite v).steps h
  case memoryResponse data =>
    simp only [exec, execMemoryResponse] at h
    split at h
    · exact idles h
    · split at h
      · exact (Settles.answered ‹_› ‹_›).steps h
      · exact idles h
  case memoryFault =>
    simp only [exec, execMemoryFault] at h
    split at h
    · exact (Direct.fault ‹_›).steps h
    · exact idles h
  case pollTimerExpiry =>
    simp only [exec, execPollTimerExpiry] at h
    split at h
    · obtain ⟨ha, -, hn⟩ := ‹_ ∧ _ ∧ _›
      exact (Settles.poll ha hn).steps h
    · exact idles h
  case minuteTimerExpiry =>
    simp only [exec, execMinuteTimerExpiry] at h
    split at h
    · exact Direct.minute.steps h
    · exact idles h
  case wakeTimerExpiry =>
    simp only [exec, execWakeTimerExpiry] at h
    split at h
    · exact idles h
    · split at h
      · obtain ⟨hr, hp⟩ := ‹_ ∧ _›
        exact (Settles.wakeTimer ‹_› hr hp).steps h
      · exact idles h
  case senseTimerExpiry =>
    simp only [exec, execSenseTimerExpiry] at h
    split at h
    · obtain ⟨hr, hp, -, hh, hb⟩ := ‹_ ∧ _›
      exact (Settles.sense hr hp hh hb).steps h
    · exact idles h
  case sensePulseEnd m =>
    simp only [exec, execSensePulseEnd] at h
    split at h
    · exact (Settles.pulseEnd m ‹_›).steps h
    · exact idles h
  case passiveCheckEnd carried d =>
    simp only [exec, execPassiveCheckEnd] at h
    split at h
    · exact idles h
    · exact (Settles.checkEnd carried d ‹_›).steps h
  case settlingEnd =>
    simp only [exec, execSettlingEnd] at h
    split at h
    · exact idles h
    · exact (Settles.wakeToScan ‹_›).steps h
    · exact (Settles.wakeToHalt ‹_›).steps h
  case presenceIntervalExpiry =>
    simp only [exec, execPresenceIntervalExpiry] at h
    split at h
    · exact idles h
    · split at h
      · exact (Direct.wake ‹_› ‹_›).steps h
      · exact idles h
  case presentationDeadline =>
    simp only [exec, execPresentationDeadline] at h
    split at h
    · exact idles h
    · split at h
      · exact (Settles.deadline ‹_› ‹_›).steps h
      · exact idles h
  case replyLimitExpiry => exact Settles.replyFails.steps h
  case antennaOpenDetection =>
    simp only [exec, execAntennaOpenDetection] at h
    split at h
    · obtain ⟨hh, -⟩ := ‹_ ∧ _›
      exact (Settles.antennaLost hh).steps h
    · exact idles h
  case antennaCurrentRise =>
    simp only [exec, execAntennaCurrentRise] at h
    split at h
    · exact Direct.currentRise.steps h
    · exact idles h
  case overcurrentDetection =>
    simp only [exec, execOvercurrentDetection] at h
    split at h
    · exact Settles.overcurrent.steps h
    · exact idles h
  case thermalWarning d =>
    simp only [exec, execThermalWarning] at h
    split at h
    · exact (Settles.dieMoves d).steps h
    · exact idles h
  case reducedDutyLift d =>
    simp only [exec, execReducedDutyLift] at h
    split at h
    · exact (Settles.dieMoves d).steps h
    · exact idles h
  case thermalShutdown d =>
    simp only [exec, execThermalShutdown] at h
    split at h
    · exact (Settles.dieMoves d).steps h
    · exact idles h
  case shutdownBlockLift d =>
    simp only [exec, execShutdownBlockLift] at h
    split at h
    · exact (Settles.dieMoves d).steps h
    · exact idles h
  case hello link c filled stamp =>
    simp only [exec, execHello] at h
    split at h
    · exact idles h
    · split at h
      · split at h
        · exact idles h
        · exact (Settles.hello link c filled stamp ‹_› ‹_›).steps h
      · exact Settles.replyFails.steps h
  case area link records stamp w =>
    simp only [exec, execArea] at h
    split at h
    · exact idles h
    · split at h
      · split at h
        · exact (Settles.area records stamp w ‹_› ‹_›).steps h
        · exact Settles.replyFails.steps h
      · exact (Settles.asking w ‹_› ‹_›).steps h
      · exact Settles.replyFails.steps h
  case stampAck link c =>
    simp only [exec, execStampAck] at h
    split at h
    · exact idles h
    · split at h
      · split at h
        · exact (Direct.stampAck ‹_› ‹_›).steps h
        · exact Settles.replyFails.steps h
      all_goals exact Settles.replyFails.steps h
  case checkStampReply link stamp =>
    simp only [exec, execCheckStampReply] at h
    split at h
    · exact idles h
    · split at h
      · split at h
        · exact (Settles.checkReply _ ‹_› ‹_›).steps h
        · exact Settles.replyFails.steps h
      all_goals exact Settles.replyFails.steps h
  case cardInspect =>
    simp only [exec, execCardInspect] at h
    split at h
    · exact (Settles.cardInspect (inHand_of_handedTask ‹_›)).steps h
    · exact idles h
  case tokenInspect w =>
    simp only [exec, execTokenInspect] at h
    split at h
    · exact (Settles.tokenRead (inHand_of_handedTask ‹_›)).steps h
    · exact (Settles.tokenAsk w (serving_of_servedTask ‹_›)).steps h
    · exact idles h
  case route =>
    simp only [exec, execRoute] at h
    split at h
    · exact (Settles.route (inHand_of_handedTask ‹_›)).steps h
    · exact (Settles.routeInstall (serving_of_servedTask ‹_›)).steps h
    · exact idles h
  case position =>
    simp only [exec, execPosition] at h
    split at h
    · exact (Settles.position (inHand_of_handedTask ‹_›)).steps h
    · exact idles h
  case denyReplace =>
    simp only [exec, execDenyReplace] at h
    split at h
    · split at h
      · exact (Settles.replaceEmpty (inHand_of_handedTask ‹_›)).steps h
      · exact (Settles.replaceRead (inHand_of_handedTask ‹_›)).steps h
    · exact idles h
  case denyDelta =>
    simp only [exec, execDenyDelta] at h
    split at h
    · split at h
      · exact (Settles.deltaEmpty (inHand_of_handedTask ‹_›)).steps h
      · exact (Settles.deltaRead (inHand_of_handedTask ‹_›)).steps h
    · exact idles h
  case denyPrune =>
    simp only [exec, execDenyPrune] at h
    split at h
    · exact (Settles.prune (inHand_of_handedTask ‹_›)).steps h
    · exact idles h
  case peerNotes =>
    simp only [exec, execPeerNotes] at h
    split at h
    · exact (Settles.notesRead (inHand_of_handedTask ‹_›)).steps h
    · exact (Settles.notesWait (serving_of_servedTask ‹_›)).steps h
    · exact idles h
  case seenExport =>
    simp only [exec, execSeenExport] at h
    split at h
    · split at h
      · exact idles h
      · exact (Settles.seenExport (inHand_of_handedTask ‹_›)).steps h
    · exact idles h
  case fieldTest d =>
    simp only [exec, execFieldTest] at h
    split at h
    · exact (Settles.fieldTest d (inHand_of_handedTask ‹_›)).steps h
    · exact idles h
  case power =>
    simp only [exec, execPower] at h
    split at h
    · split at h
      · exact (Settles.powerBusy (inHand_of_handedTask ‹_›) ‹_›).steps h
      · split at h
        · exact idles h
        · exact (Settles.power (inHand_of_handedTask ‹_›) (Bool.eq_false_iff.mpr ‹¬ powerRefused _ _ = true›)
            (Bool.eq_false_iff.mpr ‹¬ powerWaits _ _ = true›)).steps h
    · exact idles h
  case cancel state kind =>
    simp only [exec, execCancel] at h
    split at h
    · exact (Settles.cancel state kind (inHand_of_handedTask ‹_›)).steps h
    · exact idles h
  case keyLoad =>
    simp only [exec, execKeyLoad] at h
    split at h
    · exact (Settles.keyLoad (inHand_of_handedTask ‹_›)).steps h
    · exact idles h
  case keyClear =>
    simp only [exec, execKeyClear] at h
    split at h
    · exact (Settles.keyClear (inHand_of_handedTask ‹_›)).steps h
    · exact idles h
  case status d high asks =>
    simp only [exec, execStatus] at h
    split at h
    · exact (Settles.status d high asks (inHand_of_handedTask ‹_›)).steps h
    · exact (Settles.statusAsk d high asks (serving_of_servedTask ‹_›)).steps h
    · exact idles h
  case identify =>
    simp only [exec, execIdentify] at h
    split at h
    · exact (Settles.identify (inHand_of_handedTask ‹_›)).steps h
    · exact idles h
  case journalClaim =>
    simp only [exec, execJournalClaim] at h
    split at h
    · split at h
      · exact (Settles.journalClaim ‹_› ‹_› ‹_› ‹_›).steps h
      · exact idles h
    · exact idles h
  case reservationFill =>
    simp only [exec, execReservationFill] at h
    split at h
    · exact (Settles.fill ‹_› ‹_› ‹_› ‹_›).steps h
    · exact idles h
  case seenUpdate =>
    simp only [exec, execSeenUpdate] at h
    split at h
    · exact idles h
    · exact (Settles.seenUpdate (Bool.eq_false_iff.mpr ‹_›)).steps h
  case haltingEnd =>
    simp only [exec, execHaltingEnd] at h
    split at h
    · obtain ⟨hr, hn⟩ := ‹_ ∧ _›
      exact (Direct.haltingEnd hr hn).steps h
    · exact idles h

theorem step_cases {s t : State} (h : step s = .next t) :
    t = s ∨ ∃ rest, Steps { s with pending := rest } t := by
  simp only [step] at h
  split at h
  · cases h
    exact .inl rfl
  · exact .inr ⟨_, exec_cases h⟩

/-- A property that every command keeps, and that does not turn on the queue, is kept by every step. -/
theorem step_keeps {P : State → Prop} {s t : State} (h : step s = .next t) (hp : P s)
    (queue : ∀ rest, P s → P { s with pending := rest }) (direct : ∀ s t, P s → Direct s t → P t)
    (settles : ∀ s u, P s → Settles s u → P (arbitrate u)) : P t := by
  obtain rfl | ⟨rest, hd | ⟨u, hu, rfl⟩⟩ := step_cases h
  · exact hp
  · exact direct _ _ (queue rest hp) hd
  · exact settles _ _ (queue rest hp) hu

end Sys2Proof.Proofs.Cases
end

section
/-! SUPPORT. What a step can do to the Deny List (R64): each change is one event of the block's own, and every other command
leaves the list as it was. -/

namespace Sys2Proof.Proofs.DenySteps

open Sys2Proof Sys2Proof.Machine Sys2Proof.Proofs.Cases

/-- The events of the Deny List. -/
inductive DenyStep (d : DenyList) : DenyList → Prop
  | same : DenyStep d d
  | lookup (c : Cred) : DenyStep d (afterLookup c d)
  | replace (r : ReplaceRequest) (data : List Byte) : DenyStep d (replaceList r data d).1
  | delta (r : DeltaRequest) (data : List Byte) : DenyStep d (deltaList r data d).1
  | prune (day : Half) : DenyStep d (pruneList day d).1
  | reset : DenyStep d {}

theorem DenyStep.of_eq {d d' : DenyList} (h : d' = d) : DenyStep d d' := h ▸ .same

theorem askBlocks_dnl (w : Asks) (a : Asking) (s : State) : DenyStep s.dnl (askBlocks w a s).state.dnl := by
  have hc : (askContext w.context ⟨a, [], s⟩).state = s := by
    simp only [askContext]
    split <;> rfl
  have hd : DenyStep s.dnl (askDenyList w.denyList (askContext w.context ⟨a, [], s⟩)).state.dnl := by
    simp only [askDenyList]
    split
    · simp only [hc]
      exact .lookup _
    · simp only [hc]
      exact .same
  have hs : ∀ x : Asked, (askSeenTable w.seenTable x).state.dnl = x.state.dnl := fun x => by
    simp only [askSeenTable]
    split <;> simp
  rw [askBlocks, hs]
  exact hd

theorem askCard_dnl (t : HeldTask) (w : Asks) (a : Asking) (s : State) : DenyStep s.dnl (askCard t w a s).dnl := by
  simp only [askCard]
  split
  · simpa using askBlocks_dnl w a s
  · simpa using askBlocks_dnl w a s

theorem askToken_dnl (sc : Scan) (t : Task) (w : Asks) (a : Asking) (s : State) :
    DenyStep s.dnl (askToken sc t w a s).dnl := by
  simp only [askToken]
  split
  · simpa using askBlocks_dnl w a s
  · simpa using askBlocks_dnl w a s

theorem replaceServed_dnl (sc : Scan) (g : Half) (r : ReplaceRequest) (data : List Byte) (s : State) :
    DenyStep s.dnl (replaceServed sc g r data s).dnl := .replace r data

theorem deltaServed_dnl (sc : Scan) (g : Half) (r : DeltaRequest) (data : List Byte) (s : State) :
    DenyStep s.dnl (deltaServed sc g r data s).dnl := .delta r data

theorem servingGoesOn_dnl (sc : Scan) (t : Task) (g : ServeStage) (data : List Byte) (s : State) :
    DenyStep s.dnl (servingGoesOn sc t g data s).dnl := by
  simp only [servingGoesOn]
  split
  case h_3 => exact replaceServed_dnl ..
  case h_4 => exact deltaServed_dnl ..
  all_goals exact .of_eq (by simp)

theorem resume_dnl (c : Client) (data : List Byte) (s : State) : DenyStep s.dnl (resume c data s).dnl := by
  simp only [resume]
  split
  case h_3 sc _ =>
    simp only [scanGoesOn]
    split
    case h_6 => exact servingGoesOn_dnl ..
    all_goals exact .of_eq (by simp)
  all_goals exact .of_eq (by simp)

theorem direct_dnl {s t : State} (h : Direct s t) : DenyStep s.dnl t.dnl := by
  cases h
  case reset d =>
    rw [show (resetPart d s).dnl = {} by simp [resetPart, State.reset]]
    exact .reset
  all_goals exact .of_eq (by simp)

theorem settles_dnl {s u : State} (h : Settles s u) : DenyStep s.dnl u.dnl := by
  cases h
  case answered a data _ _ => exact resume_dnl a.client data { s with mpt := freeBus s }
  case area t _ id records stamp w _ _ => exact askCard_dnl t w (cardAsking t id records stamp) (sendTry 0 s)
  case asking t _ a w _ _ => exact askCard_dnl t w a s
  case tokenAsk sc t a w _ => exact askToken_dnl sc t w a s
  case replaceEmpty sc g r _ => exact replaceServed_dnl sc g r [] s
  case deltaEmpty sc g r _ => exact deltaServed_dnl sc g r [] s
  case prune day _ => exact .prune day
  all_goals exact .of_eq (by simp)

theorem step_dnl {s t : State} (h : step s = .next t) : DenyStep s.dnl t.dnl := by
  obtain rfl | ⟨rest, hd | ⟨u, hu, rfl⟩⟩ := step_cases h
  · exact .same
  · exact direct_dnl (s := { s with pending := rest }) hd
  · simpa using settles_dnl hu

end Sys2Proof.Proofs.DenySteps
end

section
/-! SUPPORT. The count filter and the table of the Deny List (R67, R68, R73, R79): what each operation does to a cell and to
the ascending order, as facts about lists and vectors alone. -/

namespace Sys2Proof.Proofs.DenyTable

open Sys2Proof Sys2Proof.Machine

/-! ### One cell -/

theorem cellUp_toNat (n : BitVec 4) : (cellUp n).toNat = min 15 (n.toNat + 1) := by
  revert n
  decide

theorem cellUp_eq (n : BitVec 4) : cellUp n = if n ≠ 15 then n + 1 else n := by
  revert n
  decide

theorem cellDown_eq (n : BitVec 4) (h : n ≠ 0) : cellDown n = if n ≠ 15 then n - 1 else n := by
  revert n
  decide

theorem cellDown_toNat (n : BitVec 4) (h : n ≠ 15) : (cellDown n).toNat = n.toNat - 1 := by
  revert n
  decide

/-! ### The filter -/

theorem filterAdd_getElem (f : Vector (BitVec 4) 4096) (c : Cred) (k : Fin 4096) :
    (filterAdd f c)[k] = if k = cellOf c then cellUp f[k] else f[k] := by
  obtain h | h := eq_or_ne k (cellOf c)
  · subst h
    simp [filterAdd]
  · have hne : (cellOf c).val ≠ k.val := fun e => h (Fin.ext e.symm)
    simp [filterAdd, h, hne]

theorem filterRemove_getElem (f : Vector (BitVec 4) 4096) (c : Cred) (k : Fin 4096) :
    (filterRemove f c)[k] = if k = cellOf c then cellDown f[k] else f[k] := by
  obtain h | h := eq_or_ne k (cellOf c)
  · subst h
    simp [filterRemove]
  · have hne : (cellOf c).val ≠ k.val := fun e => h (Fin.ext e.symm)
    simp [filterRemove, h, hne]

theorem inCell_cons (k : Fin 4096) (e : DenyEntry) (es : List DenyEntry) :
    inCell k (e :: es) = inCell k es + if cellOf e.cred = k then 1 else 0 := by
  simp [inCell, List.countP_cons]

theorem inCell_append (k : Fin 4096) (es fs : List DenyEntry) : inCell k (es ++ fs) = inCell k es + inCell k fs := by
  simp [inCell]

/-- Entries added one by one raise a cell by their number in it, up to 15. -/
theorem filterAddAll_getElem (es : List DenyEntry) (f : Vector (BitVec 4) 4096) (k : Fin 4096) :
    (filterAddAll f es)[k].toNat = min 15 (f[k].toNat + inCell k es) := by
  induction es generalizing f with
  | nil =>
    have h := f[k].isLt
    simp only [filterAddAll, List.foldl_nil, inCell, List.countP_nil]
    omega
  | cons e es ih =>
    rw [show filterAddAll f (e :: es) = filterAddAll (filterAdd f e.cred) es from rfl, ih, filterAdd_getElem, inCell_cons]
    obtain h | h := eq_or_ne k (cellOf e.cred)
    · rw [if_pos h, if_pos h.symm, cellUp_toNat]
      omega
    · rw [if_neg h, if_neg h.symm, Nat.add_zero]

theorem recount_getElem (es : List DenyEntry) (k : Fin 4096) : (recount es)[k].toNat = min 15 (inCell k es) := by
  rw [recount, filterAddAll_getElem, show filterZero[k] = 0 by simp [filterZero]]
  simp

/-! ### A filter that counts a table (R68) -/

/-- A cell holds the number of the entries in it, or 15. -/
def Counts (f : Vector (BitVec 4) 4096) (es : List DenyEntry) : Prop :=
  ∀ k : Fin 4096, f[k] = 15 ∨ f[k].toNat = inCell k es

theorem filterRule_iff (d : DenyList) : filterRule d ↔ Counts d.filter d.table := Iff.rfl

theorem counts_of_min {f : Vector (BitVec 4) 4096} {es : List DenyEntry}
    (h : ∀ k : Fin 4096, f[k].toNat = min 15 (inCell k es)) : Counts f es := by
  intro k
  have hk := h k
  obtain hle | hlt := Nat.le_total 15 (inCell k es)
  · exact .inl (BitVec.eq_of_toNat_eq (by rw [hk, Nat.min_eq_left hle]; rfl))
  · exact .inr (by rw [hk, Nat.min_eq_right hlt])

theorem counts_recount (es : List DenyEntry) : Counts (recount es) es := counts_of_min (recount_getElem es)

theorem counts_zero : Counts filterZero [] := counts_recount []

theorem counts_addAll {f : Vector (BitVec 4) 4096} {es : List DenyEntry} (h : Counts f es) (fs : List DenyEntry) :
    Counts (filterAddAll f fs) (es ++ fs) := by
  intro k
  have hk := filterAddAll_getElem fs f k
  obtain h15 | hn := h k
  · exact .inl (BitVec.eq_of_toNat_eq (by rw [hk, h15]; exact Nat.min_eq_left (Nat.le_add_right 15 _)))
  · rw [hn, ← inCell_append] at hk
    obtain hle | hlt := Nat.le_total 15 (inCell k (es ++ fs))
    · exact .inl (BitVec.eq_of_toNat_eq (by rw [hk, Nat.min_eq_left hle]; rfl))
    · exact .inr (by rw [hk, Nat.min_eq_right hlt])

/-- An entry more, wherever it stands in the table. -/
theorem counts_add {f : Vector (BitVec 4) 4096} {es fs : List DenyEntry} {e : DenyEntry} (h : Counts f es)
    (hp : fs.Perm (e :: es)) : Counts (filterAdd f e.cred) fs := by
  intro k
  rw [show inCell k fs = inCell k (e :: es) from hp.countP_eq _, inCell_cons, filterAdd_getElem]
  obtain he | he := eq_or_ne k (cellOf e.cred)
  · rw [if_pos he, if_pos he.symm, cellUp_eq]
    split
    · refine .inr ?_
      have hn := (h k).resolve_left ‹_›
      have hup := cellUp_toNat f[k]
      rw [cellUp_eq, if_pos ‹_›] at hup
      have hlt : f[k].toNat ≠ 15 := fun hc => ‹f[k] ≠ 15› (BitVec.eq_of_toNat_eq hc)
      have := f[k].isLt
      omega
    · exact .inl (not_not.mp ‹_›)
  · rw [if_neg he, if_neg he.symm]
    exact h k

/-- An entry less, wherever it stood in the table. -/
theorem counts_remove {f : Vector (BitVec 4) 4096} {es fs : List DenyEntry} {e : DenyEntry} (h : Counts f es)
    (hp : es.Perm (e :: fs)) : Counts (filterRemove f e.cred) fs := by
  intro k
  have hk := h k
  rw [show inCell k es = inCell k (e :: fs) from hp.countP_eq _, inCell_cons] at hk
  rw [filterRemove_getElem]
  obtain he | he := eq_or_ne k (cellOf e.cred)
  · rw [if_pos he.symm] at hk
    rw [if_pos he]
    obtain h15 | hn := hk
    · exact .inl (by rw [h15]; rfl)
    · obtain h15 | h15 := eq_or_ne f[k] 15
      · exact .inl (by rw [h15]; rfl)
      · exact .inr (by rw [cellDown_toNat _ h15]; omega)
  · rw [if_neg he.symm] at hk
    rw [if_neg he]
    exact hk

/-- A cell that counts an entry is not 0. -/
theorem counts_ne_zero {f : Vector (BitVec 4) 4096} {es : List DenyEntry} {e : DenyEntry} (h : Counts f es) (he : e ∈ es) :
    f[cellOf e.cred] ≠ 0 := by
  intro hz
  have hpos : 0 < inCell (cellOf e.cred) es := List.countP_pos_iff.mpr ⟨e, he, by simp⟩
  obtain h15 | hn := h (cellOf e.cred)
  · rw [hz] at h15
    exact absurd h15 (by decide)
  · rw [hz] at hn
    simp at hn
    omega

/-! ### The ascending order (R73, R79) -/

/-- The table in strictly ascending order of credential ID. -/
def Sorted (es : List DenyEntry) : Prop := es.Pairwise fun a b => a.cred < b.cred

theorem sorted_iff (es : List DenyEntry) : (es.map DenyEntry.cred).Pairwise (fun a b => a < b) ↔ Sorted es :=
  List.pairwise_map

theorem Sorted.filter {es : List DenyEntry} (h : Sorted es) (p : DenyEntry → Bool) : Sorted (es.filter p) :=
  List.Pairwise.filter p h

theorem Sorted.cred_inj {es : List DenyEntry} (h : Sorted es) {a b : DenyEntry} (ha : a ∈ es) (hb : b ∈ es)
    (hc : a.cred = b.cred) : a = b := by
  induction h with
  | nil => simp at ha
  | @cons x xs hx _ ih =>
    have hno : ∀ y ∈ xs, x.cred ≠ y.cred := fun y hy e => absurd (e ▸ hx y hy) (BitVec.lt_irrefl _)
    obtain hax | hax := List.mem_cons.mp ha <;> obtain hbx | hbx := List.mem_cons.mp hb
    · rw [hax, hbx]
    · exact absurd (hax ▸ hc) (hno b hbx)
    · exact absurd (hbx ▸ hc.symm) (hno a hax)
    · exact ih hax hbx

theorem findEntry_eq_none {c : Cred} {es : List DenyEntry} : findEntry c es = none ↔ c ∉ es.map DenyEntry.cred := by
  simp [findEntry]

theorem findEntry_isSome {c : Cred} {es : List DenyEntry} : (findEntry c es).isSome = true ↔ c ∈ es.map DenyEntry.cred := by
  simp [findEntry, List.mem_map]

theorem findEntry_eq_some {c : Cred} {e : DenyEntry} {es : List DenyEntry} (h : Sorted es) :
    findEntry c es = some e ↔ e ∈ es ∧ e.cred = c := by
  constructor
  · intro hf
    exact ⟨List.mem_of_find?_eq_some hf, by simpa using List.find?_some hf⟩
  · rintro ⟨he, rfl⟩
    obtain ⟨x, hx⟩ := Option.isSome_iff_exists.mp (findEntry_isSome.mpr (List.mem_map_of_mem he))
    have hm : x ∈ es := List.mem_of_find?_eq_some hx
    have hc : x.cred = e.cred := by simpa using List.find?_some hx
    rw [hx, h.cred_inj hm he hc]

theorem mem_placeEntry {e y : DenyEntry} {es : List DenyEntry} (h : Sorted es) :
    y ∈ placeEntry e es ↔ y = e ∨ (y ∈ es ∧ y.cred ≠ e.cred) := by
  induction h with
  | nil => simp [placeEntry]
  | @cons x xs hx hs ih =>
    have habove : e.cred ≤ x.cred → y ∈ xs → y.cred ≠ e.cred := fun hle hy hc =>
      absurd (hx y hy) (by rw [hc]; exact BitVec.not_lt.mpr hle)
    simp only [placeEntry]
    split
    case isTrue hlt =>
      have hne : x.cred ≠ e.cred := fun hc => BitVec.lt_irrefl _ (hc ▸ hlt)
      have := habove (BitVec.le_of_lt hlt)
      aesop
    case isFalse hlt =>
      split
      case isTrue heq =>
        have := habove (BitVec.le_of_eq heq)
        aesop
      case isFalse hne =>
        rw [List.mem_cons, ih]
        aesop

theorem sorted_placeEntry {es : List DenyEntry} (h : Sorted es) (e : DenyEntry) : Sorted (placeEntry e es) := by
  induction h with
  | nil => simp [placeEntry, Sorted]
  | @cons x xs hx hs ih =>
    simp only [placeEntry]
    split
    case isTrue hlt =>
      refine List.Pairwise.cons (fun y hy => ?_) (.cons hx hs)
      obtain rfl | hy := List.mem_cons.mp hy
      · exact hlt
      · exact BitVec.lt_trans hlt (hx y hy)
    case isFalse hlt =>
      split
      case isTrue heq => exact .cons (fun y hy => heq ▸ hx y hy) hs
      case isFalse hne =>
        refine .cons (fun y hy => ?_) ih
        obtain rfl | ⟨hy, -⟩ := (mem_placeEntry hs).mp hy
        · exact BitVec.lt_of_le_ne (BitVec.not_lt.mp hlt) (Ne.symm hne)
        · exact hx y hy

/-- An entry of a new ID is added. -/
theorem placeEntry_perm {e : DenyEntry} {es : List DenyEntry} (h : e.cred ∉ es.map DenyEntry.cred) :
    (placeEntry e es).Perm (e :: es) := by
  induction es with
  | nil => exact .refl _
  | cons x xs ih =>
    have hx : e.cred ≠ x.cred := fun hc => h (by simp [hc])
    have hxs : e.cred ∉ xs.map DenyEntry.cred := fun hm => h (List.mem_cons_of_mem _ hm)
    simp only [placeEntry, if_neg hx]
    split
    · exact .refl _
    · exact ((ih hxs).cons x).trans (.swap e x xs)

/-- An entry of an ID that is present takes its place. -/
theorem placeEntry_creds {e : DenyEntry} {es : List DenyEntry} (hs : Sorted es) (h : e.cred ∈ es.map DenyEntry.cred) :
    (placeEntry e es).map DenyEntry.cred = es.map DenyEntry.cred := by
  induction hs with
  | nil => simp at h
  | @cons x xs hx _ ih =>
    simp only [placeEntry]
    split
    case isTrue hlt =>
      obtain hc | hm := List.mem_cons.mp h
      · exact absurd hlt (by rw [hc]; exact BitVec.lt_irrefl _)
      · obtain ⟨y, hy, hc⟩ := List.mem_map.mp hm
        exact absurd (BitVec.lt_trans hlt (hx y hy)) (by rw [hc]; exact BitVec.lt_irrefl _)
    case isFalse hlt =>
      split
      case isTrue heq => simp [heq]
      case isFalse hne =>
        have hm : e.cred ∈ xs.map DenyEntry.cred := (List.mem_cons.mp h).resolve_left hne
        simp [ih hm]

theorem inCell_of_creds {es fs : List DenyEntry} (h : es.map DenyEntry.cred = fs.map DenyEntry.cred) (k : Fin 4096) :
    inCell k es = inCell k fs := by
  have hc : ∀ l : List DenyEntry, inCell k l = (l.map DenyEntry.cred).countP fun c => cellOf c == k := fun l => by
    rw [List.countP_map]
    rfl
  rw [hc, hc, h]

/-- The entry of an ID is taken out. -/
theorem perm_filter_ne {e : DenyEntry} {es : List DenyEntry} (hs : Sorted es) (he : e ∈ es) :
    es.Perm (e :: es.filter fun x => x.cred != e.cred) := by
  induction hs with
  | nil => simp at he
  | @cons x xs hx hs ih =>
    obtain rfl | hm := List.mem_cons.mp he
    · have hall : xs.filter (fun y => y.cred != e.cred) = xs := by
        refine List.filter_eq_self.mpr fun y hy => ?_
        have hlt := hx y hy
        exact bne_iff_ne.mpr fun hc => absurd hlt (by rw [hc]; exact BitVec.lt_irrefl _)
      simp [hall]
    · have hlt := hx e hm
      have hne : (x.cred != e.cred) = true := bne_iff_ne.mpr fun hc => absurd hlt (by rw [hc]; exact BitVec.lt_irrefl _)
      rw [List.filter_cons, if_pos hne]
      exact ((ih hm).cons x).trans (.swap e x _)

/-! ### The order of a chunk (R73) -/

theorem ascending_iff (h : Option Cred) (es : List DenyEntry) :
    ascending h es = true ↔ Sorted es ∧ ∀ c, h = some c → ∀ e, es.head? = some e → c < e.cred := by
  induction es generalizing h with
  | nil => simp [ascending, Sorted]
  | cons e es ih =>
    have hcons : Sorted (e :: es) ↔ Sorted es ∧ ∀ x, es.head? = some x → e.cred < x.cred := by
      constructor
      · intro hs
        obtain ⟨hh, ht⟩ := List.pairwise_cons.mp hs
        exact ⟨ht, fun x hx => hh x (List.mem_of_head? hx)⟩
      · rintro ⟨ht, hh⟩
        refine List.Pairwise.cons (fun y hy => ?_) ht
        cases es with
        | nil => simp at hy
        | cons x xs =>
          have hlt := hh x rfl
          obtain rfl | hy := List.mem_cons.mp hy
          · exact hlt
          · exact BitVec.lt_trans hlt ((List.pairwise_cons.mp ht).1 y hy)
    cases h with
    | none => simp [ascending, ih, hcons]
    | some c =>
      simp only [ascending, Bool.and_eq_true, decide_eq_true_eq, ih, hcons]
      simp
      tauto

/-- A chunk whose IDs lie above the last of a table continues it in order. -/
theorem sorted_append {t es : List DenyEntry} (ht : Sorted t)
    (h : ascending (t.getLast?.map DenyEntry.cred) es = true) : Sorted (t ++ es) := by
  obtain ⟨hes, hhead⟩ := (ascending_iff _ _).mp h
  refine List.pairwise_append.mpr ⟨ht, hes, fun a ha b hb => ?_⟩
  obtain ⟨l, hl⟩ : ∃ l, t.getLast? = some l := ⟨_, List.getLast?_eq_getLast_of_ne_nil (List.ne_nil_of_mem ha)⟩
  obtain ⟨i, rfl⟩ : ∃ i, t = i ++ [l] := ⟨t.dropLast, (List.dropLast_append_getLast? l hl).symm⟩
  have hal : a.cred ≤ l.cred := by
    obtain hi | hi := List.mem_append.mp ha
    · exact BitVec.le_of_lt ((List.pairwise_append.mp ht).2.2 a hi l (by simp))
    · rw [List.mem_singleton.mp hi]
      exact BitVec.le_refl _
  obtain ⟨x, xs, rfl⟩ : ∃ x xs, es = x :: xs := List.exists_cons_of_ne_nil (List.ne_nil_of_mem hb)
  have hlx : l.cred < x.cred := hhead l.cred (by simp) x rfl
  have hxb : x.cred ≤ b.cred := by
    obtain rfl | hb := List.mem_cons.mp hb
    · exact BitVec.le_refl _
    · exact BitVec.le_of_lt ((List.pairwise_cons.mp hes).1 b hb)
  rw [BitVec.le_def] at hal hxb
  rw [BitVec.lt_def] at hlx ⊢
  omega

end Sys2Proof.Proofs.DenyTable
end

section
/-! SUPPORT. The rule of the Deny List (R64 to R81) kept by each of the block's events, and so by every step. -/

namespace Sys2Proof.Proofs.DenyRule

open Sys2Proof Sys2Proof.Machine Sys2Proof.Proofs.DenySteps Sys2Proof.Proofs.DenyTable

/-- The rule of the table: what a load, a commit and a prune have to keep of it. -/
structure TableRule (d : DenyList) : Prop where
  sorted : Sorted d.table
  fits : d.table.length ≤ Config.denyEntries
  counts : Counts d.filter d.table

theorem denyRule_iff (d : DenyList) :
    denyRule d ↔ TableRule d ∧ highestRule d ∧ denyStateRule d
      ∧ ∀ st, d.staging = some st → st.ops.length ≤ Config.stagingOps := by
  rw [denyRule, sorted_iff, filterRule_iff]
  constructor
  · rintro ⟨hs, hl, hf, hrest⟩
    exact ⟨⟨hs, hl, hf⟩, hrest⟩
  · rintro ⟨⟨hs, hl, hf⟩, hrest⟩
    exact ⟨hs, hl, hf, hrest⟩

/-- Outside LOADING there is no load, so nothing is asked of its highest ID. -/
theorem highestRule_of_none {d : DenyList} (h : d.load = none) : highestRule d := fun l hl => by simp [h] at hl

/-- The list given up: nothing in it, no load, INVALID. -/
theorem denyRule_failLoad (d : DenyList) (hs : d.staging = none) : denyRule (failLoad d) :=
  (denyRule_iff _).mpr ⟨⟨.nil, Nat.zero_le _, counts_zero⟩, highestRule_of_none rfl,
    ⟨by simp [failLoad], by simp [failLoad, hs], fun _ => rfl⟩, by simp [failLoad, hs]⟩

theorem denyRule_beginLoad (target : Word) (d : DenyList) : denyRule (beginLoad target d) :=
  (denyRule_iff _).mpr ⟨⟨.nil, Nat.zero_le _, counts_zero⟩, fun l hl => by cases hl; rfl,
    ⟨by simp [beginLoad], by simp [beginLoad], by simp [beginLoad]⟩, by simp [beginLoad]⟩

/-! ### Loads (R72 to R74) -/

/-- R73: a chunk that passes every check. -/
theorem checkChunk_ok {r : ReplaceRequest} {data : List Byte} {l : Load} {d : DenyList} {es : List DenyEntry}
    (h : checkChunk r data l d = .ok es) :
    ascending l.highest es = true ∧ d.table.length + es.length ≤ Config.denyEntries := by
  simp only [checkChunk] at h
  split at h
  · cases h
  · split at h
    · cases h
    · split at h
      · cases h
      · split at h
        · cases h
        · cases h
          exact ⟨by simpa using ‹¬ascending l.highest _ = false›, Nat.not_lt.mp ‹_›⟩

theorem highestAfter_append (t es : List DenyEntry) :
    highestAfter (t.getLast?.map DenyEntry.cred) es = (t ++ es).getLast?.map DenyEntry.cred := by
  rw [highestAfter, List.getLast?_append]
  cases es.getLast? <;> rfl

theorem denyRule_applyChunk {d : DenyList} (h : denyRule d) {r : ReplaceRequest} {l : Load} {es : List DenyEntry}
    (hl : d.load = some l) (ha : ascending l.highest es = true)
    (hfits : d.table.length + es.length ≤ Config.denyEntries) : denyRule (applyChunk r es l d) := by
  obtain ⟨⟨hsorted, -, hcounts⟩, hhigh, ⟨hload, hstaging, -⟩, -⟩ := (denyRule_iff d).mp h
  have hlast := hhigh l hl
  have hloading : d.state = .loading := hload.mp (by simp [hl])
  have hnone : d.staging = none := by
    by_contra hc
    have := hstaging (Option.isSome_iff_ne_none.mpr hc)
    simp [hloading] at this
  have htable : Sorted (d.table ++ es) := sorted_append hsorted (hlast ▸ ha)
  have hlength : (d.table ++ es).length ≤ Config.denyEntries := by simpa using hfits
  simp only [applyChunk]
  split
  · exact (denyRule_iff _).mpr ⟨⟨htable, hlength, counts_recount _⟩, highestRule_of_none rfl,
      ⟨by simp, by simp, by simp⟩, by simp [hnone]⟩
  · refine (denyRule_iff _).mpr ⟨⟨htable, hlength, counts_addAll hcounts es⟩, fun x hx => ?_,
      ⟨by simp [hloading], by simp [hnone], by simp [hloading]⟩, by simp [hnone]⟩
    cases hx
    simp only [hlast, highestAfter_append]

theorem denyRule_loadChunk {d : DenyList} (h : denyRule d) (hs : d.staging = none) (r : ReplaceRequest)
    (data : List Byte) (n : Option Nat) : denyRule (loadChunk r data n d).1 := by
  simp only [loadChunk]
  split
  · exact denyRule_failLoad d hs
  · split
    · exact denyRule_failLoad d hs
    · obtain ⟨ha, hfits⟩ := checkChunk_ok ‹_›
      exact denyRule_applyChunk h ‹_› ha hfits

theorem denyRule_replaceList {d : DenyList} (h : denyRule d) (r : ReplaceRequest) (data : List Byte) :
    denyRule (replaceList r data d).1 := by
  simp only [replaceList]
  split
  · exact denyRule_loadChunk (denyRule_beginLoad r.target d) rfl r data _
  · split
    · obtain ⟨-, -, ⟨-, hstaging, -⟩, -⟩ := (denyRule_iff d).mp h
      refine denyRule_loadChunk h ?_ r data none
      by_contra hc
      have := hstaging (Option.isSome_iff_ne_none.mpr hc)
      simp_all
    · exact h

/-! ### Deltas (R76 to R79) -/

/-- The table and the filter are all that an operation changes. -/
theorem applyOp_list (op : DeltaOp) (x : DenyList × DeltaCounts) :
    (applyOp op x).1 = { x.1 with table := (applyOp op x).1.table, filter := (applyOp op x).1.filter } := by
  cases op <;> simp only [applyOp] <;> split <;> rfl

/-- The order and the count of a table without its capacity, which a commit tests at the end (R79). -/
def Ordered (d : DenyList) : Prop := Sorted d.table ∧ Counts d.filter d.table

theorem counts_of_creds {f : Vector (BitVec 4) 4096} {es fs : List DenyEntry} (h : Counts f es)
    (hc : fs.map DenyEntry.cred = es.map DenyEntry.cred) : Counts f fs := by
  intro k
  rw [inCell_of_creds hc k]
  exact h k

theorem ordered_applyOp {x : DenyList × DeltaCounts} (h : Ordered x.1) (op : DeltaOp) : Ordered (applyOp op x).1 := by
  obtain ⟨hs, hc⟩ := h
  cases op with
  | add e =>
    simp only [applyOp]
    split
    · have hcreds := placeEntry_creds hs (findEntry_isSome.mp ‹_›)
      exact ⟨sorted_placeEntry hs e, counts_of_creds hc hcreds⟩
    · have hnew : e.cred ∉ x.1.table.map DenyEntry.cred := fun hm => ‹¬ _› (findEntry_isSome.mpr hm)
      exact ⟨sorted_placeEntry hs e, counts_add hc (placeEntry_perm hnew)⟩
  | remove c =>
    simp only [applyOp]
    split
    · obtain ⟨e, he, rfl⟩ := List.mem_map.mp (findEntry_isSome.mp ‹_›)
      exact ⟨hs.filter _, counts_remove hc (perm_filter_ne hs he)⟩
    · exact ⟨hs, hc⟩

theorem applyOps_nil (d : DenyList) : applyOps [] d = (d, {}) := rfl

theorem applyOps_concat (ops : List DeltaOp) (op : DeltaOp) (d : DenyList) :
    applyOps (ops ++ [op]) d = applyOp op (applyOps ops d) := by simp [applyOps]

theorem applyOps_list (ops : List DeltaOp) (d : DenyList) :
    (applyOps ops d).1 = { d with table := (applyOps ops d).1.table, filter := (applyOps ops d).1.filter } := by
  induction ops using List.reverseRecOn with
  | nil => rfl
  | append_singleton ops op ih =>
    rw [applyOps_concat, applyOp_list, ih]

theorem ordered_applyOps {d : DenyList} (h : Ordered d) (ops : List DeltaOp) : Ordered (applyOps ops d).1 := by
  induction ops using List.reverseRecOn with
  | nil => exact h
  | append_singleton ops op ih =>
    rw [applyOps_concat]
    exact ordered_applyOp ih op

/-- Closing the staging area keeps the rule. -/
theorem denyRule_unstaged {d d' : DenyList} (h : denyRule d)
    (hd : d' = { d with staging := none, discards := d'.discards }) : denyRule d' := by
  obtain ⟨⟨hs, hl, hc⟩, hhigh, ⟨hload, -, hinv⟩, -⟩ := (denyRule_iff d).mp h
  rw [hd]
  exact (denyRule_iff _).mpr ⟨⟨hs, hl, hc⟩, hhigh, ⟨hload, by simp, hinv⟩, by simp⟩

/-- A staging area within its bound opens on a READY list. -/
theorem denyRule_staged {d : DenyList} (h : denyRule d) (hr : d.state = .ready) {st : Staging}
    (hst : st.ops.length ≤ Config.stagingOps) : denyRule { d with staging := some st } := by
  obtain ⟨⟨hs, hl, hc⟩, hhigh, ⟨hload, -, hinv⟩, -⟩ := (denyRule_iff d).mp h
  refine (denyRule_iff _).mpr ⟨⟨hs, hl, hc⟩, hhigh, ⟨hload, fun _ => hr, hinv⟩, fun x hx => ?_⟩
  cases hx
  exact hst

theorem denyRule_discardStaging {d : DenyList} (h : denyRule d) : denyRule (discardStaging d) := denyRule_unstaged h rfl

theorem denyRule_commitDelta {d : DenyList} (h : denyRule d) (hr : d.state = .ready) (ops : List DeltaOp) :
    denyRule (commitDelta ops d).1 := by
  simp only [commitDelta]
  split
  · exact denyRule_discardStaging h
  · obtain ⟨⟨hs, -, hc⟩, -, ⟨hload, -, -⟩, -⟩ := (denyRule_iff d).mp h
    obtain ⟨hs', hc'⟩ := ordered_applyOps (d := d) ⟨hs, hc⟩ ops
    have hnone : d.load = none := by
      by_contra hn
      have := hload.mp (Option.isSome_iff_ne_none.mpr hn)
      simp [hr] at this
    have hstate : (applyOps ops d).1.state = .ready := by rw [applyOps_list]; exact hr
    have hloads : (applyOps ops d).1.load = none := by rw [applyOps_list]; exact hnone
    exact (denyRule_iff _).mpr ⟨⟨hs', Nat.not_lt.mp ‹_›, hc'⟩, highestRule_of_none hloads,
      ⟨by simp [hstate, hloads], by simp, by simp [hstate]⟩, by simp⟩

theorem denyRule_stageChunk {d : DenyList} (h : denyRule d) (hr : d.state = .ready) (r : DeltaRequest)
    (data : List Byte) (st : Staging) : denyRule (stageChunk r data st d).1 := by
  simp only [stageChunk]
  split
  · exact denyRule_discardStaging h
  · split
    · exact denyRule_discardStaging h
    case h_2 ops _ =>
      split
      · exact denyRule_discardStaging h
      · have hstaged := denyRule_staged (st := ⟨st.ops ++ ops, st.next + 1⟩) h hr (by
          simpa using Nat.not_lt.mp ‹¬ Config.stagingOps < _›)
        split
        · exact denyRule_commitDelta hstaged hr _
        · exact hstaged

theorem denyRule_openStaging {d : DenyList} (h : denyRule d) (hr : d.state = .ready) (r : DeltaRequest)
    (data : List Byte) : denyRule (openStaging r data d).1 := by
  simp only [openStaging]
  generalize hd : (if d.staging.isSome = true then discardStaging d else d) = d'
  have h' : denyRule d' := by
    subst hd
    split
    · exact denyRule_discardStaging h
    · exact h
  have hr' : d'.state = .ready := by
    subst hd
    split <;> exact hr
  split
  · exact h'
  · split
    · exact h'
    · exact denyRule_stageChunk (denyRule_staged h' hr' (Nat.zero_le _)) hr' r data _

theorem denyRule_deltaList {d : DenyList} (h : denyRule d) (r : DeltaRequest) (data : List Byte) :
    denyRule (deltaList r data d).1 := by
  simp only [deltaList]
  split
  · exact h
  · have hr : d.state = .ready := not_not.mp ‹_›
    split
    · exact denyRule_openStaging h hr r data
    · split
      · exact h
      · exact denyRule_stageChunk h hr r data _

/-! ### Lookups and prunes (R69, R81) -/

theorem denyRule_afterLookup {d : DenyList} (h : denyRule d) (c : Cred) : denyRule (afterLookup c d) := by
  simp only [afterLookup]
  split <;> exact h

theorem denyRule_pruned {d : DenyList} (h : denyRule d) (hr : d.state = .ready) (day : Half) : denyRule (pruned day d) := by
  obtain ⟨⟨hs, hl, -⟩, -, ⟨hload, hstaging, -⟩, hops⟩ := (denyRule_iff d).mp h
  have hnone : d.load = none := by
    by_contra hn
    have := hload.mp (Option.isSome_iff_ne_none.mpr hn)
    simp [hr] at this
  exact (denyRule_iff _).mpr ⟨⟨hs.filter _, (List.length_filter_le _ _).trans hl, counts_recount _⟩,
    highestRule_of_none hnone, ⟨hload, hstaging, by simp [pruned, hr]⟩, hops⟩

theorem denyRule_pruneList {d : DenyList} (h : denyRule d) (day : Half) : denyRule (pruneList day d).1 := by
  simp only [pruneList]
  split
  · exact h
  · exact denyRule_pruned h (not_not.mp ‹_›) day

/-- The list of a part that has been reset. -/
theorem denyRule_reset : denyRule {} :=
  (denyRule_iff _).mpr ⟨⟨.nil, Nat.zero_le _, counts_zero⟩, highestRule_of_none rfl, ⟨by simp, by simp, fun _ => rfl⟩,
    by simp⟩

theorem DenyStep.denyRule {d d' : DenyList} (h : denyRule d) (hs : DenyStep d d') : denyRule d' := by
  cases hs with
  | same => exact h
  | lookup c => exact denyRule_afterLookup h c
  | replace r data => exact denyRule_replaceList h r data
  | delta r data => exact denyRule_deltaList h r data
  | prune day => exact denyRule_pruneList h day
  | reset => exact denyRule_reset

/-- Settles O55: a step is one event of the Deny List, and each event keeps the rule. -/
theorem denyListStaysInOrder : Obligations.DenyListStaysInOrder := by
  unfold Obligations.DenyListStaysInOrder
  exact fun s t h hs => DenyStep.denyRule h (step_dnl hs)

end Sys2Proof.Proofs.DenyRule
end

section
/-! SUPPORT. The rule of the Seen Table (R48, R49): what insertions, replacements and the table's own events keep of it. -/

namespace Sys2Proof.Proofs.SeenRule

open Sys2Proof Sys2Proof.Machine Sys2Proof.Proofs.Cases

/-! ### Finding a record -/

theorem findSeen_eq_none {c : Cred} {t : SeenTable} : findSeen c t = none ↔ c ∉ t.records.map SeenRecord.cred := by
  simp [findSeen]

theorem mem_of_findSeen {c : Cred} {t : SeenTable} {r : SeenRecord} (h : findSeen c t = some r) :
    r ∈ t.records ∧ r.cred = c :=
  ⟨List.mem_of_find?_eq_some h, by simpa using List.find?_some h⟩

/-! ### The rule of a list of records -/

/-- R48: a pending sequence stands exactly beside stamp state UNCERTAIN. -/
def Paired (r : SeenRecord) : Prop := r.pendingSequence.isSome = (r.stamp == .uncertain)

/-- The rule turns on the records and the counter alone. -/
theorem seenRule_congr {t t' : SeenTable} (hr : t'.records = t.records) (hc : t'.counter = t.counter) (h : seenRule t) :
    seenRule t' := by
  unfold seenRule at *
  rwa [hr, hc]

theorem seenRule_paired {t : SeenTable} (h : seenRule t) {r : SeenRecord} (hr : r ∈ t.records) : Paired r := by
  obtain ⟨-, -, -, hp⟩ := h
  exact hp r hr

/-- Records taken out leave the rule in force. -/
theorem seenRule_sublist {t t' : SeenTable} (hs : t'.records.Sublist t.records) (hc : t'.counter = t.counter)
    (h : seenRule t) : seenRule t' := by
  obtain ⟨hnodup, hnumbers, hbelow, hpaired⟩ := h
  exact ⟨hnodup.sublist (hs.map _), hnumbers.sublist (hs.map _), fun r hr => hc ▸ hbelow r (hs.subset hr),
    fun r hr => hpaired r (hs.subset hr)⟩

/-! ### Insertions (R49, R50) -/

theorem evictFirst_sublist (l : List SeenRecord) : (evictFirst l).Sublist l := by
  induction l with
  | nil => exact .refl _
  | cons r rs ih =>
    simp only [evictFirst]
    split
    · exact ih.cons_cons r
    · exact List.sublist_cons_self r rs

theorem makeRoom_records (t : SeenTable) : (makeRoom t).records.Sublist t.records := by
  simp only [makeRoom]
  split
  · exact .refl _
  · exact evictFirst_sublist _

@[simp] theorem makeRoom_counter (t : SeenTable) : (makeRoom t).counter = t.counter := by
  simp only [makeRoom]
  split <;> rfl

/-- Every number below a number is below the counter after it. -/
theorem belowCounter_after {m n : Word} (h : m ≤ n) : belowCounter m (counterAfter n) := by
  simp only [counterAfter]
  split
  · trivial
  · have hn : n.toNat ≠ 4294967295 := fun hc => ‹¬ _› (BitVec.eq_of_toNat_eq (by rw [hc]; rfl))
    simp only [belowCounter]
    bv_omega

theorem seenRule_insertSeen {t : SeenTable} {r : SeenRecord} (h : seenRule t) (hf : findSeen r.cred t = none)
    (hp : Paired r) : seenRule (insertSeen r t) := by
  simp only [insertSeen]
  split
  · exact h
  case h_2 n hn =>
    obtain ⟨hnodup, hnumbers, hbelow, hpaired⟩ := seenRule_sublist (makeRoom_records t) (makeRoom_counter t) h
    rw [makeRoom_counter, hn] at hbelow
    have hnew : r.cred ∉ (makeRoom t).records.map SeenRecord.cred := fun hm =>
      findSeen_eq_none.mp hf (((makeRoom_records t).map _).subset hm)
    have hmem : ∀ {P : SeenRecord → Prop}, (∀ x ∈ (makeRoom t).records, P x) → P { r with number := n } →
        ∀ x ∈ (makeRoom t).records ++ [{ r with number := n }], P x := by
      intro P hall hone x hx
      obtain hx | hx := List.mem_append.mp hx
      · exact hall x hx
      · rw [List.mem_singleton.mp hx]
        exact hone
    refine ⟨?creds, ?numbers, hmem (fun x hx => ?_) (belowCounter_after (BitVec.le_refl n)), hmem hpaired hp⟩
    case creds =>
      rw [List.map_append, List.nodup_append]
      exact ⟨hnodup, by simp, by simpa using hnew⟩
    case numbers =>
      rw [List.map_append, List.pairwise_append]
      refine ⟨hnumbers, by simp, fun a ha b hb => ?_⟩
      obtain ⟨x, hx, rfl⟩ := List.mem_map.mp ha
      rw [List.mem_singleton.mp hb]
      exact hbelow x hx
    · exact belowCounter_after (BitVec.le_of_lt (hbelow x hx))

/-! ### Replacements -/

/-- A record put in the place of the one of its credential: the credentials and the numbers stay. -/
theorem seenRule_replaceSeen {t : SeenTable} {r r' : SeenRecord} (h : seenRule t) (hr : r ∈ t.records)
    (hc : r'.cred = r.cred) (hn : r'.number = r.number) (hp : Paired r') : seenRule (replaceSeen r' t) := by
  obtain ⟨hnodup, hnumbers, hbelow, hpaired⟩ := h
  have hone : ∀ x ∈ t.records, x.cred = r'.cred → x = r := fun x hx he =>
    List.inj_on_of_nodup_map hnodup hx hr (he.trans hc)
  have hcreds : (replaceSeen r' t).records.map SeenRecord.cred = t.records.map SeenRecord.cred := by
    simp only [replaceSeen, List.map_map]
    refine List.map_congr_left fun x hx => ?_
    simp only [Function.comp_apply]
    split
    · exact Eq.symm ‹_›
    · rfl
  have hnums : (replaceSeen r' t).records.map SeenRecord.number = t.records.map SeenRecord.number := by
    simp only [replaceSeen, List.map_map]
    refine List.map_congr_left fun x hx => ?_
    simp only [Function.comp_apply]
    split
    · rw [hone x hx ‹_›, hn]
    · rfl
  refine ⟨hcreds ▸ hnodup, hnums ▸ hnumbers, fun x hx => ?_, fun x hx => ?_⟩
  · obtain ⟨y, hy, rfl⟩ := List.mem_map.mp hx
    split
    · rw [hn]
      exact hbelow r hr
    · exact hbelow y hy
  · obtain ⟨y, hy, rfl⟩ := List.mem_map.mp hx
    split
    · exact hp
    · exact hpaired y hy

/-! ### The table's events -/

theorem paired_freshRecord (c : Cred) (v : Verdict) (ctx : ContextAnswer) : Paired (freshRecord c v ctx) := rfl

theorem paired_meetAgain {r : SeenRecord} (h : Paired r) (stop : Half) : Paired (meetAgain stop r) := h

theorem paired_applyOutcome {r : SeenRecord} (h : Paired r) (o : RideOutcome) : Paired (applyOutcome o r) := by
  cases o with
  | landed _ | uncertain _ _ => rfl
  | token | stampFailed _ | refused => exact h

theorem paired_resolvedRecord (o : Resolution) (r : SeenRecord) : Paired (resolvedRecord o r) := by cases o <;> rfl

theorem paired_peerRecord (n : PeerNote) : Paired (peerRecord n) := rfl

theorem paired_meetNote {r : SeenRecord} (h : Paired r) (n : PeerNote) : Paired (meetNote n r) := by
  simp only [meetNote]
  split <;> exact h

@[simp] theorem applyOutcome_keeps (o : RideOutcome) (r : SeenRecord) :
    (applyOutcome o r).cred = r.cred ∧ (applyOutcome o r).number = r.number := by
  cases o <;> exact ⟨rfl, rfl⟩

@[simp] theorem resolvedRecord_keeps (o : Resolution) (r : SeenRecord) :
    (resolvedRecord o r).cred = r.cred ∧ (resolvedRecord o r).number = r.number := by
  cases o <;> exact ⟨rfl, rfl⟩

@[simp] theorem meetNote_keeps (n : PeerNote) (r : SeenRecord) :
    (meetNote n r).cred = r.cred ∧ (meetNote n r).number = r.number := by
  simp only [meetNote]
  split <;> exact ⟨rfl, rfl⟩

theorem seenRule_noteInspection {t : SeenTable} (h : seenRule t) (c : Cred) (v : Verdict) (ctx : ContextAnswer) :
    seenRule (noteInspection c v ctx t) := by
  simp only [noteInspection]
  split
  · exact seenRule_insertSeen h ‹_› (paired_freshRecord c v ctx)
  · obtain ⟨hm, -⟩ := mem_of_findSeen ‹_›
    exact seenRule_replaceSeen h hm rfl rfl (paired_meetAgain (seenRule_paired h hm) _)

theorem seenRule_applyUpdate {t : SeenTable} (h : seenRule t) (u : SeenUpdate) : seenRule (applyUpdate u t).1 := by
  simp only [applyUpdate]
  split
  · refine seenRule_insertSeen h ?_ (paired_applyOutcome (paired_freshRecord ..) _)
    rw [(applyOutcome_keeps _ _).1]
    exact ‹_›
  · obtain ⟨hm, -⟩ := mem_of_findSeen ‹_›
    exact seenRule_replaceSeen h hm (by simp [meetAgain]) (by simp [meetAgain])
      (paired_applyOutcome (paired_meetAgain (seenRule_paired h hm) _) _)

theorem seenRule_resolve {t t' : SeenTable} {c : Cred} {stamp : StampStanding} {ctx : ContextAnswer}
    {jobs : List JournalJob} (h : seenRule t) (hr : resolve c stamp ctx t = some (t', jobs)) : seenRule t' := by
  simp only [resolve] at hr
  split at hr
  · cases hr
  · split at hr
    · cases hr
      obtain ⟨hm, -⟩ := mem_of_findSeen ‹_›
      exact seenRule_replaceSeen h hm (by simp) (by simp) (paired_resolvedRecord _ _)
    · cases hr

theorem seenRule_consult {t : SeenTable} (h : seenRule t) (q : Inspection) (ctx : ContextAnswer) :
    seenRule (consult q ctx t).1 := by
  simp only [consult]
  split
  · exact h
  · split at *
    · exact seenRule_resolve h ‹_›
    · simp_all

theorem seenRule_emptySeen (t : SeenTable) : seenRule (emptySeen t) := by simp [emptySeen, seenRule]

theorem seenRule_noteRuling {t : SeenTable} (h : seenRule t) (a : Asking) (ctx : ContextAnswer) (r : Ruling) :
    seenRule (noteRuling a ctx r t) := by
  simp only [noteRuling]
  split
  · exact seenRule_noteInspection h _ _ _
  · exact seenRule_congr rfl rfl h
  · exact h

theorem seenRule_mergeNote {m : Merge} (h : seenRule m.table) (c : RunningContext) (n : PeerNote) :
    seenRule (mergeNote c n m).table := by
  simp only [mergeNote]
  split
  · exact h
  · split
    · split
      · exact h
      · exact seenRule_insertSeen h ‹_› (paired_peerRecord n)
    · obtain ⟨hm, -⟩ := mem_of_findSeen ‹_›
      have hnote := seenRule_replaceSeen (r' := meetNote n _) h hm (by simp) (by simp)
        (paired_meetNote (seenRule_paired h hm) n)
      split <;> exact hnote

theorem seenRule_mergeNotes {t : SeenTable} (h : seenRule t) (c : RunningContext) (notes : List PeerNote) :
    seenRule (mergeNotes c notes t).table := by
  induction notes using List.reverseRecOn with
  | nil => exact h
  | append_singleton notes n ih =>
    rw [show mergeNotes c (notes ++ [n]) t = mergeNote c n (mergeNotes c notes t) by simp [mergeNotes]]
    exact seenRule_mergeNote ih c n

/-! ### Deliveries and decision points -/

theorem seenRule_deliverUpdate {s : State} (h : seenRule s.snt) : seenRule (deliverUpdate s).snt := by
  simp only [deliverUpdate]
  split
  · exact h
  case h_2 u rest _ =>
    simp only [arrive_keeps]
    exact seenRule_congr rfl rfl (seenRule_applyUpdate h u)

theorem seenRule_deliverSome {s : State} (h : seenRule s.snt) (n : Nat) : seenRule (deliverSome n s).snt := by
  induction n generalizing s with
  | zero => exact h
  | succ n ih => exact ih (seenRule_deliverUpdate h)

theorem seenRule_deliverUpdates {s : State} (h : seenRule s.snt) : seenRule (deliverUpdates s).snt :=
  seenRule_deliverSome h _

theorem askContext_state (yes : Bool) (x : Asked) : (askContext yes x).state = x.state := by
  simp only [askContext]
  split <;> rfl

theorem askDenyList_snt (yes : Bool) (x : Asked) : (askDenyList yes x).state.snt = x.state.snt := by
  simp only [askDenyList]
  split <;> rfl

theorem seenRule_askSeenTable {x : Asked} (h : seenRule x.state.snt) (yes : Bool) :
    seenRule (askSeenTable yes x).state.snt := by
  simp only [askSeenTable]
  split
  · exact seenRule_consult (seenRule_deliverUpdates h) _ _
  · exact h

theorem seenRule_askBlocks {s : State} (h : seenRule s.snt) (w : Asks) (a : Asking) :
    seenRule (askBlocks w a s).state.snt := by
  refine seenRule_askSeenTable ?_ _
  rw [askDenyList_snt, askContext_state]
  exact h

theorem seenRule_conclude {s : State} (h : seenRule s.snt) (a : Asking) (r : Replies) (l : List JournalJob) :
    seenRule (conclude a r l s).1.snt := by
  simpa [conclude] using seenRule_noteRuling h _ _ _

/-! ### The operations that only send updates -/

@[simp] theorem settleStamp_seen (t : HeldTask) (d : Draft) (p : RidePlan) (o : StampOutcome) (s : State) :
    (settleStamp t d p o s).snt.records = s.snt.records ∧
    (settleStamp t d p o s).snt.counter = s.snt.counter := by
  simp only [settleStamp]
  repeat' split
  all_goals simp

@[simp] theorem fieldFailed_seen (t : HeldTask) (s : State) :
    (fieldFailed t s).snt.records = s.snt.records ∧ (fieldFailed t s).snt.counter = s.snt.counter := by
  simp only [fieldFailed]
  repeat' split
  all_goals simp

@[simp] theorem forceOff_seen (s : State) :
    (forceOff s).snt.records = s.snt.records ∧ (forceOff s).snt.counter = s.snt.counter := by
  simp only [forceOff]
  repeat' split
  all_goals simp

@[simp] theorem shutDown_seen (s : State) :
    (shutDown s).snt.records = s.snt.records ∧ (shutDown s).snt.counter = s.snt.counter := by
  simp only [shutDown]
  simp

@[simp] theorem dieMoves_seen (d : Int) (s : State) :
    (dieMoves d s).snt.records = s.snt.records ∧ (dieMoves d s).snt.counter = s.snt.counter := by
  simp only [dieMoves]
  repeat' split
  all_goals simp

@[simp] theorem haltHead_seen (s : State) :
    (haltHead s).snt.records = s.snt.records ∧ (haltHead s).snt.counter = s.snt.counter := by
  simp only [haltHead]
  repeat' split
  all_goals simp

@[simp] theorem enterHalting_seen (s : State) :
    (enterHalting s).snt.records = s.snt.records ∧ (enterHalting s).snt.counter = s.snt.counter := by
  simp only [enterHalting]
  simp

@[simp] theorem sweepFrom_seen (i : Nat) (s : State) :
    (sweepFrom i s).snt.records = s.snt.records ∧ (sweepFrom i s).snt.counter = s.snt.counter := by
  simp only [sweepFrom]
  repeat' split
  all_goals simp

@[simp] theorem antennaLost_seen (s : State) :
    (antennaLost s).snt.records = s.snt.records ∧ (antennaLost s).snt.counter = s.snt.counter := by
  simp only [antennaLost]
  repeat' split
  all_goals simp

@[simp] theorem overcurrent_seen (s : State) :
    (overcurrent s).snt.records = s.snt.records ∧ (overcurrent s).snt.counter = s.snt.counter := by
  simp only [overcurrent]
  simp

@[simp] theorem exhausted_seen (t : HeldTask) (s : State) :
    (exhausted t s).snt.records = s.snt.records ∧ (exhausted t s).snt.counter = s.snt.counter := by
  simp only [exhausted]
  repeat' split
  all_goals simp

@[simp] theorem tryFails_seen (t : HeldTask) (s : State) :
    (tryFails t s).snt.records = s.snt.records ∧ (tryFails t s).snt.counter = s.snt.counter := by
  simp only [tryFails]
  repeat' split
  all_goals simp

@[simp] theorem replyFails_seen (s : State) :
    (replyFails s).snt.records = s.snt.records ∧ (replyFails s).snt.counter = s.snt.counter := by
  simp only [replyFails]
  repeat' split
  all_goals simp

@[simp] theorem refuseRide_seen (t : HeldTask) (d : Draft) (p : RidePlan) (w : VerdictReason) (o : Owed) (s : State) :
    (refuseRide t d p w o s).snt.records = s.snt.records ∧
    (refuseRide t d p w o s).snt.counter = s.snt.counter := by
  simp only [refuseRide]
  simp

@[simp] theorem seekReservation_seen (t : HeldTask) (x : Decided) (d : Draft) (p : RidePlan) (s : State) :
    (seekReservation t x d p s).snt.records = s.snt.records ∧
    (seekReservation t x d p s).snt.counter = s.snt.counter := by
  simp only [seekReservation]
  repeat' split
  all_goals simp

@[simp] theorem checkTaken_seen (t : HeldTask) (d : Draft) (p : RidePlan) (r : StampStanding) (s : State) :
    (checkTaken t d p r s).snt.records = s.snt.records ∧
    (checkTaken t d p r s).snt.counter = s.snt.counter := by
  simp only [checkTaken]
  repeat' split
  all_goals simp

@[simp] theorem reservationRefused_seen (s : State) :
    (reservationRefused s).snt.records = s.snt.records ∧
    (reservationRefused s).snt.counter = s.snt.counter := by
  simp only [reservationRefused]
  repeat' split
  all_goals simp

@[simp] theorem tokenEntryServed_seen (n : Option Word) (s : State) :
    (tokenEntryServed n s).snt.records = s.snt.records ∧
    (tokenEntryServed n s).snt.counter = s.snt.counter := by
  simp only [tokenEntryServed]
  repeat' split
  all_goals simp

@[simp] theorem entryServed_seen (k : EntryKind) (w : ClaimFor) (n : Option Word) (s : State) :
    (entryServed k w n s).snt.records = s.snt.records ∧ (entryServed k w n s).snt.counter = s.snt.counter := by
  simp only [entryServed]
  repeat' split
  all_goals simp

@[simp] theorem refuseClaim_seen (j : JournalJob) (s : State) :
    (refuseClaim j s).snt.records = s.snt.records ∧ (refuseClaim j s).snt.counter = s.snt.counter := by
  simp only [refuseClaim]
  repeat' split
  all_goals simp

@[simp] theorem serveClaim_seen (j : JournalJob) (m : Byte) (r : Ring) (s : State) :
    (serveClaim j m r s).snt.records = s.snt.records ∧ (serveClaim j m r s).snt.counter = s.snt.counter := by
  simp only [serveClaim]
  repeat' split
  all_goals simp

@[simp] theorem entryWritten_seen (j : JournalJob) (n : Word) (s : State) :
    (entryWritten j n s).snt.records = s.snt.records ∧ (entryWritten j n s).snt.counter = s.snt.counter := by
  simp only [entryWritten]
  repeat' split
  all_goals simp

@[simp] theorem journalGoesOn_seen (b : List Byte) (s : State) :
    (journalGoesOn b s).snt.records = s.snt.records ∧ (journalGoesOn b s).snt.counter = s.snt.counter := by
  simp only [journalGoesOn]
  repeat' split
  all_goals simp

@[simp] theorem checkSetup_seen (b : List Byte) (s : State) :
    (checkSetup b s).snt.records = s.snt.records ∧ (checkSetup b s).snt.counter = s.snt.counter := by
  simp only [checkSetup]
  repeat' split
  all_goals simp

@[simp] theorem startUpGoesOn_seen (p : StartPhase) (b : List Byte) (s : State) :
    (startUpGoesOn p b s).snt.records = s.snt.records ∧ (startUpGoesOn p b s).snt.counter = s.snt.counter := by
  simp only [startUpGoesOn]
  repeat' split
  all_goals simp

@[simp] theorem haltRunning_seen (s : State) :
    (haltRunning s).snt.records = s.snt.records ∧ (haltRunning s).snt.counter = s.snt.counter := by
  simp only [haltRunning]
  repeat' split
  all_goals simp


/-! ### The operations that ask the table -/

theorem seenRule_of_sent {s u : State} (h : seenRule s.snt)
    (hs : u.snt.records = s.snt.records ∧ u.snt.counter = s.snt.counter) : seenRule u.snt :=
  seenRule_congr hs.1 hs.2 h

theorem seenRule_decideCard {s : State} (h : seenRule s.snt) (t : HeldTask) (a : Asking) (r : Replies)
    (l : List JournalJob) : seenRule (decideCard t a r l s).snt := by
  have hc := seenRule_conclude h a r l
  simp only [decideCard]
  split
  · simpa using hc
  · exact seenRule_of_sent hc (by simp)

theorem seenRule_askCard {s : State} (h : seenRule s.snt) (t : HeldTask) (w : Asks) (a : Asking) :
    seenRule (askCard t w a s).snt := by
  have hb := seenRule_askBlocks h w a
  simp only [askCard]
  split
  · simpa using hb
  · exact seenRule_decideCard hb _ _ _ _

theorem seenRule_decideToken {s : State} (h : seenRule s.snt) (sc : Scan) (t : Task) (a : Asking) (r : Replies)
    (l : List JournalJob) : seenRule (decideToken sc t a r l s).snt := by
  have hc := seenRule_conclude h a r l
  simp only [decideToken]
  repeat' split
  all_goals simpa using hc

theorem seenRule_askToken {s : State} (h : seenRule s.snt) (sc : Scan) (t : Task) (w : Asks) (a : Asking) :
    seenRule (askToken sc t w a s).snt := by
  have hb := seenRule_askBlocks h w a
  simp only [askToken]
  split
  · simpa using hb
  · exact seenRule_decideToken hb _ _ _ _ _

theorem seenRule_notesDue {s : State} (h : seenRule s.snt) (sc : Scan) (t : Task) (notes : List PeerNote) :
    seenRule (notesDue sc t notes s).snt := by
  simp only [notesDue, notesMerged]
  repeat' split
  · exact h
  all_goals simpa using seenRule_mergeNotes h s.rcx notes

theorem seenRule_routeServed {s : State} (h : seenRule s.snt) (sc : Scan) (t : Task) (r : RouteRequest)
    (data : List Byte) : seenRule (routeServed sc t r data s).snt := by
  simp only [routeServed]
  split
  · exact h
  · simpa using seenRule_emptySeen s.snt
  · exact h

theorem seenRule_notesServed {s : State} (h : seenRule s.snt) (sc : Scan) (t : Task) (n : Nat) (data : List Byte) :
    seenRule (notesServed sc t n data s).snt := by
  simp only [notesServed]
  split
  · exact h
  · exact seenRule_notesDue h _ _ _

theorem seenRule_servingGoesOn {s : State} (h : seenRule s.snt) (sc : Scan) (t : Task) (g : ServeStage)
    (data : List Byte) : seenRule (servingGoesOn sc t g data s).snt := by
  simp only [servingGoesOn]
  split
  case h_2 => exact seenRule_routeServed h _ _ _ _
  case h_5 => exact seenRule_notesServed h _ _ _ _
  all_goals simpa using h

theorem seenRule_resume {s : State} (h : seenRule s.snt) (c : Client) (data : List Byte) :
    seenRule (resume c data s).snt := by
  simp only [resume]
  split
  case h_3 sc _ =>
    simp only [scanGoesOn]
    split
    case h_6 => exact seenRule_servingGoesOn h _ _ _ _
    all_goals simpa using h
  all_goals exact seenRule_of_sent h (by simp)

theorem seenRule_direct {s t : State} (h : seenRule s.snt) (hd : Direct s t) : seenRule t.snt := by
  cases hd
  case reset d =>
    rw [show (resetPart d s).snt = emptySeen {} by simp [resetPart, State.reset, emptySeen]]
    exact seenRule_emptySeen {}
  case fault => simpa [memoryFaultHalts] using seenRule_deliverUpdates h
  all_goals simpa using h

theorem seenRule_settles {s u : State} (h : seenRule s.snt) (hu : Settles s u) : seenRule (arbitrate u).snt := by
  rw [(arbitrate_keeps u).2.2.2.2.1]
  cases hu
  case answered a data _ _ => exact seenRule_resume (s := { s with mpt := freeBus s }) h a.client data
  case area t _ id records stamp w _ _ => exact seenRule_askCard (s := sendTry 0 s) h t w _
  case asking t _ a w _ _ => exact seenRule_askCard h t w a
  case tokenAsk sc t a w _ => exact seenRule_askToken h sc t w a
  case notesWait sc t notes _ => exact seenRule_notesDue h sc t notes
  case seenUpdate => exact seenRule_deliverUpdate h
  all_goals exact seenRule_of_sent h (by simp)

/-- Settles O56: every event of the table inserts, replaces or takes out records as the rule allows, and the other commands
leave records and counter alone. -/
theorem seenTableStaysInOrder : Obligations.SeenTableStaysInOrder := by
  unfold Obligations.SeenTableStaysInOrder
  exact fun s t h hs => step_keeps (P := fun s => seenRule s.snt) hs h (fun _ h => h)
    (fun _ _ h hd => seenRule_direct h hd) (fun _ _ h hu => seenRule_settles h hu)

end Sys2Proof.Proofs.SeenRule
end

section
/-! SUPPORT. The fields that an operation leaves alone in a block it otherwise changes: the second half of the frames, one
lemma for each operation, in the order of the model. -/

namespace Sys2Proof.Proofs.Fields

open Sys2Proof Sys2Proof.Machine

@[simp] theorem queueAsked_fields (s : State) : (queueAsked s).mpt.runState = s.mpt.runState := rfl

@[simp] theorem launch_fields (s : State) : (launch s).mpt.runState = s.mpt.runState := by
  simp only [launch]
  repeat' split
  all_goals simp

@[simp] theorem arbitrate_fields (s : State) : (arbitrate s).mpt.runState = s.mpt.runState := by
  simp only [arbitrate]
  simp

@[simp] theorem reportLatch_fields (w : Bool) (r : Report) (s : State) :
    (reportLatch w r s).pev.power = s.pev.power ∧ (reportLatch w r s).pev.settling = s.pev.settling ∧
    (reportLatch w r s).pev.dozeJob = s.pev.dozeJob := by
  simp only [reportLatch]
  repeat' split
  all_goals simp

@[simp] theorem latchOpen_fields (s : State) :
    (latchOpen s).fmn.shutdownBlock = s.fmn.shutdownBlock ∧ (latchOpen s).fmn.reducedDuty = s.fmn.reducedDuty ∧
    (latchOpen s).fmn.dieTemp = s.fmn.dieTemp ∧ (latchOpen s).pev.power = s.pev.power ∧
    (latchOpen s).pev.settling = s.pev.settling ∧ (latchOpen s).pev.dozeJob = s.pev.dozeJob := by
  simp only [latchOpen]
  simp

@[simp] theorem latchOvercurrent_fields (s : State) :
    (latchOvercurrent s).fmn.shutdownBlock = s.fmn.shutdownBlock ∧
    (latchOvercurrent s).fmn.reducedDuty = s.fmn.reducedDuty ∧
    (latchOvercurrent s).fmn.dieTemp = s.fmn.dieTemp ∧ (latchOvercurrent s).pev.power = s.pev.power ∧
    (latchOvercurrent s).pev.settling = s.pev.settling ∧ (latchOvercurrent s).pev.dozeJob = s.pev.dozeJob := by
  simp only [latchOvercurrent]
  simp

@[simp] theorem latchWarning_fields (s : State) :
    (latchWarning s).fmn.shutdownBlock = s.fmn.shutdownBlock ∧
    (latchWarning s).fmn.reducedDuty = s.fmn.reducedDuty ∧ (latchWarning s).fmn.dieTemp = s.fmn.dieTemp ∧
    (latchWarning s).pev.power = s.pev.power ∧ (latchWarning s).pev.settling = s.pev.settling ∧
    (latchWarning s).pev.dozeJob = s.pev.dozeJob := by
  simp only [latchWarning]
  simp

@[simp] theorem latchShutdown_fields (s : State) :
    (latchShutdown s).fmn.shutdownBlock = s.fmn.shutdownBlock ∧
    (latchShutdown s).fmn.reducedDuty = s.fmn.reducedDuty ∧ (latchShutdown s).fmn.dieTemp = s.fmn.dieTemp ∧
    (latchShutdown s).pev.power = s.pev.power ∧ (latchShutdown s).pev.settling = s.pev.settling ∧
    (latchShutdown s).pev.dozeJob = s.pev.dozeJob := by
  simp only [latchShutdown]
  simp

@[simp] theorem enterHalted_fields (c : HaltCause) (s : State) :
    (enterHalted c s).ssc.sheet = s.ssc.sheet ∧ (enterHalted c s).ssc.pollInterval = s.ssc.pollInterval ∧
    (enterHalted c s).ssc.scan = s.ssc.scan ∧ (enterHalted c s).pev.power = s.pev.power ∧
    (enterHalted c s).pev.settling = s.pev.settling ∧ (enterHalted c s).pev.dozeJob = s.pev.dozeJob := by
  simp only [enterHalted]
  simp

@[simp] theorem serveNext_fields (s : State) :
    (serveNext s).mpt.runState = s.mpt.runState ∧ (serveNext s).jnw.ring = s.jnw.ring ∧
    (serveNext s).jnw.cursor = s.jnw.cursor := by
  simp only [serveNext]
  repeat' split
  all_goals simp

@[simp] theorem arrive_fields (l : List JournalJob) (s : State) :
    (arrive l s).mpt.runState = s.mpt.runState ∧ (arrive l s).jnw.ring = s.jnw.ring ∧
    (arrive l s).jnw.cursor = s.jnw.cursor := by
  simp only [arrive]
  simp

@[simp] theorem popJob_fields (s : State) :
    (popJob s).mpt.runState = s.mpt.runState ∧ (popJob s).jnw.ring = s.jnw.ring ∧
    (popJob s).jnw.cursor = s.jnw.cursor := by
  simp only [popJob]
  simp

@[simp] theorem countMissed_fields (k : EntryKind) (s : State) :
    (countMissed k s).jnw.ring = s.jnw.ring ∧ (countMissed k s).jnw.cursor = s.jnw.cursor := by
  simp only [countMissed]
  repeat' split
  all_goals simp

@[simp] theorem afterScan_fields (s : State) :
    (afterScan s).ssc.sheet = s.ssc.sheet ∧ (afterScan s).ssc.pollInterval = s.ssc.pollInterval ∧
    (afterScan s).ssc.startUp = s.ssc.startUp ∧ (afterScan s).ssc.scan = s.ssc.scan ∧
    (afterScan s).pev.power = s.pev.power ∧ (afterScan s).pev.settling = s.pev.settling := by
  simp only [afterScan]
  repeat' split
  all_goals simp

@[simp] theorem beginScan_fields (s : State) :
    (beginScan s).mpt.runState = s.mpt.runState ∧ (beginScan s).ssc.sheet = s.ssc.sheet ∧
    (beginScan s).ssc.pollInterval = s.ssc.pollInterval ∧ (beginScan s).ssc.startUp = s.ssc.startUp ∧
    (beginScan s).pev.power = s.pev.power ∧ (beginScan s).pev.settling = s.pev.settling := by
  simp only [beginScan]
  repeat' split
  all_goals simp

@[simp] theorem endScan_fields (sc : Scan) (s : State) :
    (endScan sc s).mpt.runState = s.mpt.runState ∧ (endScan sc s).ssc.sheet = s.ssc.sheet ∧
    (endScan sc s).ssc.pollInterval = s.ssc.pollInterval ∧ (endScan sc s).ssc.startUp = s.ssc.startUp ∧
    (endScan sc s).pev.power = s.pev.power ∧ (endScan sc s).pev.settling = s.pev.settling := by
  simp only [endScan]
  repeat' split
  all_goals simp

@[simp] theorem goOn_fields (sc : Scan) (s : State) :
    (goOn sc s).mpt.runState = s.mpt.runState ∧ (goOn sc s).ssc.sheet = s.ssc.sheet ∧
    (goOn sc s).ssc.pollInterval = s.ssc.pollInterval ∧ (goOn sc s).ssc.startUp = s.ssc.startUp ∧
    (goOn sc s).pev.power = s.pev.power ∧ (goOn sc s).pev.settling = s.pev.settling := by
  simp only [goOn]
  repeat' split
  all_goals simp

@[simp] theorem takeSlot_fields (sc : Scan) (g : Half) (p : Parsed) (s : State) :
    (takeSlot sc g p s).mpt.runState = s.mpt.runState ∧ (takeSlot sc g p s).ssc.sheet = s.ssc.sheet ∧
    (takeSlot sc g p s).ssc.pollInterval = s.ssc.pollInterval ∧
    (takeSlot sc g p s).ssc.startUp = s.ssc.startUp ∧ (takeSlot sc g p s).pev.settling = s.pev.settling := by
  simp only [takeSlot]
  repeat' split
  all_goals simp

@[simp] theorem finishFieldTest_fields (r : FieldTestResult) (s : State) :
    (finishFieldTest r s).mpt.runState = s.mpt.runState ∧ (finishFieldTest r s).ssc.sheet = s.ssc.sheet ∧
    (finishFieldTest r s).ssc.pollInterval = s.ssc.pollInterval ∧
    (finishFieldTest r s).ssc.startUp = s.ssc.startUp := by
  simp only [finishFieldTest]
  repeat' split
  all_goals simp

@[simp] theorem scanAfterCheck_fields (s : State) :
    (scanAfterCheck s).mpt.runState = s.mpt.runState ∧ (scanAfterCheck s).ssc.sheet = s.ssc.sheet ∧
    (scanAfterCheck s).ssc.pollInterval = s.ssc.pollInterval ∧ (scanAfterCheck s).ssc.startUp = s.ssc.startUp ∧
    (scanAfterCheck s).pev.power = s.pev.power ∧ (scanAfterCheck s).pev.settling = s.pev.settling := by
  simp only [scanAfterCheck]
  repeat' split
  all_goals simp

@[simp] theorem abandonPassive_fields (r : FieldTestResult) (s : State) :
    (abandonPassive r s).mpt.runState = s.mpt.runState ∧ (abandonPassive r s).ssc.sheet = s.ssc.sheet ∧
    (abandonPassive r s).ssc.pollInterval = s.ssc.pollInterval ∧
    (abandonPassive r s).ssc.startUp = s.ssc.startUp ∧
    (abandonPassive r s).fmn.shutdownBlock = s.fmn.shutdownBlock ∧
    (abandonPassive r s).fmn.reducedDuty = s.fmn.reducedDuty ∧
    (abandonPassive r s).fmn.dieTemp = s.fmn.dieTemp ∧ (abandonPassive r s).pev.power = s.pev.power ∧
    (abandonPassive r s).pev.settling = s.pev.settling := by
  simp only [abandonPassive]
  repeat' split
  all_goals simp

@[simp] theorem beginDozeCheck_fields (n : Nat) (s : State) :
    (beginDozeCheck n s).mpt.runState = s.mpt.runState ∧ (beginDozeCheck n s).ssc.sheet = s.ssc.sheet ∧
    (beginDozeCheck n s).ssc.pollInterval = s.ssc.pollInterval ∧
    (beginDozeCheck n s).ssc.startUp = s.ssc.startUp ∧
    (beginDozeCheck n s).fmn.shutdownBlock = s.fmn.shutdownBlock ∧
    (beginDozeCheck n s).fmn.reducedDuty = s.fmn.reducedDuty ∧
    (beginDozeCheck n s).fmn.dieTemp = s.fmn.dieTemp ∧ (beginDozeCheck n s).pev.power = s.pev.power ∧
    (beginDozeCheck n s).pev.settling = s.pev.settling := by
  simp only [beginDozeCheck]
  repeat' split
  all_goals simp

@[simp] theorem turnOn_fields (h : FieldHolder) (s : State) :
    (turnOn h s).mpt.runState = s.mpt.runState ∧ (turnOn h s).ssc.sheet = s.ssc.sheet ∧
    (turnOn h s).ssc.pollInterval = s.ssc.pollInterval ∧ (turnOn h s).ssc.startUp = s.ssc.startUp ∧
    (turnOn h s).clk.hold = s.clk.hold ∧ (turnOn h s).fmn.shutdownBlock = s.fmn.shutdownBlock ∧
    (turnOn h s).fmn.reducedDuty = s.fmn.reducedDuty ∧ (turnOn h s).fmn.dieTemp = s.fmn.dieTemp ∧
    (turnOn h s).pev.power = s.pev.power ∧ (turnOn h s).pev.settling = s.pev.settling := by
  simp only [turnOn]
  simp

@[simp] theorem handOver_fields (t : HeldTask) (e : SessionEnd) (s : State) :
    (handOver t e s).mpt.runState = s.mpt.runState := by
  simp only [handOver]
  simp

@[simp] theorem releaseHead_fields (s : State) :
    (releaseHead s).clk.hold = s.clk.hold ∧ (releaseHead s).fmn.shutdownBlock = s.fmn.shutdownBlock ∧
    (releaseHead s).fmn.reducedDuty = s.fmn.reducedDuty ∧ (releaseHead s).fmn.dieTemp = s.fmn.dieTemp := by
  simp only [releaseHead]
  repeat' split
  all_goals simp

@[simp] theorem closeHead_fields (t : HeldTask) (e : SessionEnd) (o : Owed) (s : State) :
    (closeHead t e o s).mpt.runState = s.mpt.runState ∧
    (closeHead t e o s).fmn.shutdownBlock = s.fmn.shutdownBlock ∧
    (closeHead t e o s).fmn.reducedDuty = s.fmn.reducedDuty ∧
    (closeHead t e o s).fmn.dieTemp = s.fmn.dieTemp := by
  simp only [closeHead]
  repeat' split
  all_goals simp

@[simp] theorem grantHead_fields (t : HeldTask) (s : State) :
    (grantHead t s).mpt.runState = s.mpt.runState ∧ (grantHead t s).ssc.sheet = s.ssc.sheet ∧
    (grantHead t s).ssc.pollInterval = s.ssc.pollInterval ∧ (grantHead t s).ssc.startUp = s.ssc.startUp ∧
    (grantHead t s).fmn.shutdownBlock = s.fmn.shutdownBlock ∧
    (grantHead t s).fmn.reducedDuty = s.fmn.reducedDuty ∧ (grantHead t s).fmn.dieTemp = s.fmn.dieTemp ∧
    (grantHead t s).pev.power = s.pev.power ∧ (grantHead t s).pev.settling = s.pev.settling := by
  simp only [grantHead]
  simp

@[simp] theorem beginSession_fields (t : HeldTask) (s : State) :
    (beginSession t s).mpt.runState = s.mpt.runState ∧ (beginSession t s).ssc.sheet = s.ssc.sheet ∧
    (beginSession t s).ssc.pollInterval = s.ssc.pollInterval ∧ (beginSession t s).ssc.startUp = s.ssc.startUp ∧
    (beginSession t s).fmn.shutdownBlock = s.fmn.shutdownBlock ∧
    (beginSession t s).fmn.reducedDuty = s.fmn.reducedDuty ∧ (beginSession t s).fmn.dieTemp = s.fmn.dieTemp ∧
    (beginSession t s).pev.power = s.pev.power ∧ (beginSession t s).pev.settling = s.pev.settling := by
  simp only [beginSession]
  repeat' split
  all_goals simp

@[simp] theorem beginHead_fields (s : State) :
    (beginHead s).mpt.runState = s.mpt.runState ∧ (beginHead s).ssc.sheet = s.ssc.sheet ∧
    (beginHead s).ssc.pollInterval = s.ssc.pollInterval ∧ (beginHead s).ssc.startUp = s.ssc.startUp ∧
    (beginHead s).fmn.shutdownBlock = s.fmn.shutdownBlock ∧ (beginHead s).fmn.reducedDuty = s.fmn.reducedDuty ∧
    (beginHead s).fmn.dieTemp = s.fmn.dieTemp ∧ (beginHead s).pev.power = s.pev.power ∧
    (beginHead s).pev.settling = s.pev.settling := by
  simp only [beginHead]
  repeat' split
  all_goals simp

@[simp] theorem leaveHold_fields (i : Nat) (s : State) :
    (leaveHold i s).mpt.runState = s.mpt.runState ∧ (leaveHold i s).ssc.sheet = s.ssc.sheet ∧
    (leaveHold i s).ssc.pollInterval = s.ssc.pollInterval ∧ (leaveHold i s).ssc.startUp = s.ssc.startUp ∧
    (leaveHold i s).fmn.shutdownBlock = s.fmn.shutdownBlock ∧
    (leaveHold i s).fmn.reducedDuty = s.fmn.reducedDuty ∧ (leaveHold i s).fmn.dieTemp = s.fmn.dieTemp ∧
    (leaveHold i s).pev.power = s.pev.power ∧ (leaveHold i s).pev.settling = s.pev.settling := by
  simp only [leaveHold]
  repeat' split
  all_goals simp

@[simp] theorem endAsking_fields (t : HeldTask) (c : Completion) (s : State) :
    (endAsking t c s).mpt.runState = s.mpt.runState ∧
    (endAsking t c s).fmn.shutdownBlock = s.fmn.shutdownBlock ∧
    (endAsking t c s).fmn.reducedDuty = s.fmn.reducedDuty ∧ (endAsking t c s).fmn.dieTemp = s.fmn.dieTemp ∧
    (endAsking t c s).jnw.ring = s.jnw.ring ∧ (endAsking t c s).jnw.cursor = s.jnw.cursor := by
  simp only [endAsking]
  simp

@[simp] theorem endDeciding_fields (t : HeldTask) (p : RidePlan) (c : Completion) (v : VoidCause) (s : State) :
    (endDeciding t p c v s).mpt.runState = s.mpt.runState ∧
    (endDeciding t p c v s).fmn.shutdownBlock = s.fmn.shutdownBlock ∧
    (endDeciding t p c v s).fmn.reducedDuty = s.fmn.reducedDuty ∧
    (endDeciding t p c v s).fmn.dieTemp = s.fmn.dieTemp ∧ (endDeciding t p c v s).jnw.ring = s.jnw.ring ∧
    (endDeciding t p c v s).jnw.cursor = s.jnw.cursor := by
  simp only [endDeciding]
  simp

@[simp] theorem settleStamp_fields (t : HeldTask) (d : Draft) (p : RidePlan) (o : StampOutcome) (s : State) :
    (settleStamp t d p o s).mpt.runState = s.mpt.runState ∧
    (settleStamp t d p o s).fmn.shutdownBlock = s.fmn.shutdownBlock ∧
    (settleStamp t d p o s).fmn.reducedDuty = s.fmn.reducedDuty ∧
    (settleStamp t d p o s).fmn.dieTemp = s.fmn.dieTemp ∧ (settleStamp t d p o s).jnw.ring = s.jnw.ring ∧
    (settleStamp t d p o s).jnw.cursor = s.jnw.cursor := by
  simp only [settleStamp]
  repeat' split
  all_goals simp

@[simp] theorem afterPulse_fields (s : State) :
    (afterPulse s).mpt.runState = s.mpt.runState ∧ (afterPulse s).ssc.sheet = s.ssc.sheet ∧
    (afterPulse s).ssc.pollInterval = s.ssc.pollInterval ∧ (afterPulse s).ssc.startUp = s.ssc.startUp ∧
    (afterPulse s).fmn.shutdownBlock = s.fmn.shutdownBlock ∧
    (afterPulse s).fmn.reducedDuty = s.fmn.reducedDuty ∧ (afterPulse s).fmn.dieTemp = s.fmn.dieTemp ∧
    (afterPulse s).pev.power = s.pev.power ∧ (afterPulse s).pev.settling = s.pev.settling := by
  simp only [afterPulse]
  repeat' split
  all_goals simp

@[simp] theorem fieldFailed_fields (t : HeldTask) (s : State) :
    (fieldFailed t s).mpt.runState = s.mpt.runState ∧
    (fieldFailed t s).fmn.shutdownBlock = s.fmn.shutdownBlock ∧
    (fieldFailed t s).fmn.reducedDuty = s.fmn.reducedDuty ∧ (fieldFailed t s).fmn.dieTemp = s.fmn.dieTemp ∧
    (fieldFailed t s).jnw.ring = s.jnw.ring ∧ (fieldFailed t s).jnw.cursor = s.jnw.cursor := by
  simp only [fieldFailed]
  repeat' split
  all_goals simp

@[simp] theorem forceOff_fields (s : State) :
    (forceOff s).mpt.runState = s.mpt.runState ∧ (forceOff s).ssc.sheet = s.ssc.sheet ∧
    (forceOff s).ssc.pollInterval = s.ssc.pollInterval ∧ (forceOff s).ssc.startUp = s.ssc.startUp ∧
    (forceOff s).fmn.shutdownBlock = s.fmn.shutdownBlock ∧ (forceOff s).fmn.reducedDuty = s.fmn.reducedDuty ∧
    (forceOff s).fmn.dieTemp = s.fmn.dieTemp ∧ (forceOff s).jnw.ring = s.jnw.ring ∧
    (forceOff s).jnw.cursor = s.jnw.cursor ∧ (forceOff s).pev.power = s.pev.power ∧
    (forceOff s).pev.settling = s.pev.settling := by
  simp only [forceOff]
  repeat' split
  all_goals simp

@[simp] theorem warm_fields (s : State) :
    (warm s).fmn.shutdownBlock = s.fmn.shutdownBlock ∧ (warm s).fmn.dieTemp = s.fmn.dieTemp ∧
    (warm s).pev.power = s.pev.power ∧ (warm s).pev.settling = s.pev.settling ∧
    (warm s).pev.dozeJob = s.pev.dozeJob := by
  simp only [warm]
  simp

@[simp] theorem shutDown_fields (s : State) :
    (shutDown s).mpt.runState = s.mpt.runState ∧ (shutDown s).ssc.sheet = s.ssc.sheet ∧
    (shutDown s).ssc.pollInterval = s.ssc.pollInterval ∧ (shutDown s).ssc.startUp = s.ssc.startUp ∧
    (shutDown s).fmn.reducedDuty = s.fmn.reducedDuty ∧ (shutDown s).fmn.dieTemp = s.fmn.dieTemp ∧
    (shutDown s).jnw.ring = s.jnw.ring ∧ (shutDown s).jnw.cursor = s.jnw.cursor ∧
    (shutDown s).pev.power = s.pev.power ∧ (shutDown s).pev.settling = s.pev.settling := by
  simp only [shutDown]
  simp

@[simp] theorem blockLifted_fields (s : State) :
    (blockLifted s).pev.power = s.pev.power ∧ (blockLifted s).pev.settling = s.pev.settling ∧
    (blockLifted s).pev.dozeJob = s.pev.dozeJob := by
  simp only [blockLifted]
  repeat' split
  all_goals simp

@[simp] theorem liftShutdown_fields (s : State) :
    (liftShutdown s).fmn.reducedDuty = s.fmn.reducedDuty ∧ (liftShutdown s).fmn.dieTemp = s.fmn.dieTemp ∧
    (liftShutdown s).pev.power = s.pev.power ∧ (liftShutdown s).pev.settling = s.pev.settling ∧
    (liftShutdown s).pev.dozeJob = s.pev.dozeJob := by
  simp only [liftShutdown]
  repeat' split
  all_goals simp

@[simp] theorem dieMoves_fields (d : Int) (s : State) :
    (dieMoves d s).mpt.runState = s.mpt.runState ∧ (dieMoves d s).ssc.sheet = s.ssc.sheet ∧
    (dieMoves d s).ssc.pollInterval = s.ssc.pollInterval ∧ (dieMoves d s).ssc.startUp = s.ssc.startUp ∧
    (dieMoves d s).jnw.ring = s.jnw.ring ∧ (dieMoves d s).jnw.cursor = s.jnw.cursor ∧
    (dieMoves d s).pev.power = s.pev.power ∧ (dieMoves d s).pev.settling = s.pev.settling := by
  simp only [dieMoves]
  repeat' split
  all_goals simp

@[simp] theorem deliverUpdate_fields (s : State) :
    (deliverUpdate s).mpt.runState = s.mpt.runState ∧ (deliverUpdate s).jnw.ring = s.jnw.ring ∧
    (deliverUpdate s).jnw.cursor = s.jnw.cursor := by
  simp only [deliverUpdate]
  repeat' split
  all_goals simp

@[simp] theorem deliverSome_fields (n : Nat) (s : State) :
    (deliverSome n s).mpt.runState = s.mpt.runState ∧ (deliverSome n s).jnw.ring = s.jnw.ring ∧
    (deliverSome n s).jnw.cursor = s.jnw.cursor := by
  induction n generalizing s with
  | zero => simp [deliverSome]
  | succ n ih => simp [deliverSome, ih]

@[simp] theorem deliverUpdates_fields (s : State) :
    (deliverUpdates s).mpt.runState = s.mpt.runState ∧ (deliverUpdates s).jnw.ring = s.jnw.ring ∧
    (deliverUpdates s).jnw.cursor = s.jnw.cursor := by
  simp [deliverUpdates]

@[simp] theorem askBlocks_fields (w : Asks) (a : Asking) (s : State) :
    (askBlocks w a s).state.mpt.runState = s.mpt.runState ∧ (askBlocks w a s).state.jnw.ring = s.jnw.ring ∧
    (askBlocks w a s).state.jnw.cursor = s.jnw.cursor := by
  simp only [askBlocks, askSeenTable, askDenyList, askContext]
  repeat' split
  all_goals simp

@[simp] theorem haltHead_fields (s : State) :
    (haltHead s).mpt.runState = s.mpt.runState ∧ (haltHead s).fmn.shutdownBlock = s.fmn.shutdownBlock ∧
    (haltHead s).fmn.reducedDuty = s.fmn.reducedDuty ∧ (haltHead s).fmn.dieTemp = s.fmn.dieTemp ∧
    (haltHead s).jnw.ring = s.jnw.ring ∧ (haltHead s).jnw.cursor = s.jnw.cursor := by
  simp only [haltHead]
  repeat' split
  all_goals simp

@[simp] theorem haltSecond_fields (s : State) : (haltSecond s).mpt.runState = s.mpt.runState := by
  simp only [haltSecond]
  repeat' split
  all_goals simp

@[simp] theorem enterHalting_fields (s : State) :
    (enterHalting s).ssc.sheet = s.ssc.sheet ∧ (enterHalting s).ssc.pollInterval = s.ssc.pollInterval ∧
    (enterHalting s).ssc.scan = s.ssc.scan ∧ (enterHalting s).fmn.shutdownBlock = s.fmn.shutdownBlock ∧
    (enterHalting s).fmn.reducedDuty = s.fmn.reducedDuty ∧ (enterHalting s).fmn.dieTemp = s.fmn.dieTemp ∧
    (enterHalting s).jnw.ring = s.jnw.ring ∧ (enterHalting s).jnw.cursor = s.jnw.cursor := by
  simp only [enterHalting]
  simp

@[simp] theorem enterRunning_fields (s : State) :
    (enterRunning s).ssc.sheet = s.ssc.sheet ∧ (enterRunning s).ssc.pollInterval = s.ssc.pollInterval ∧
    (enterRunning s).pev.power = s.pev.power ∧ (enterRunning s).pev.settling = s.pev.settling := by
  simp only [enterRunning]
  simp

@[simp] theorem sweepFrom_fields (i : Nat) (s : State) :
    (sweepFrom i s).ssc.sheet = s.ssc.sheet ∧ (sweepFrom i s).ssc.pollInterval = s.ssc.pollInterval ∧
    (sweepFrom i s).fmn.shutdownBlock = s.fmn.shutdownBlock ∧
    (sweepFrom i s).fmn.reducedDuty = s.fmn.reducedDuty ∧ (sweepFrom i s).fmn.dieTemp = s.fmn.dieTemp ∧
    (sweepFrom i s).jnw.ring = s.jnw.ring ∧ (sweepFrom i s).jnw.cursor = s.jnw.cursor ∧
    (sweepFrom i s).pev.power = s.pev.power ∧ (sweepFrom i s).pev.settling = s.pev.settling := by
  simp only [sweepFrom]
  repeat' split
  all_goals simp

@[simp] theorem conclude_fields (a : Asking) (r : Replies) (l : List JournalJob) (s : State) :
    (conclude a r l s).1.mpt.runState = s.mpt.runState ∧ (conclude a r l s).1.jnw.ring = s.jnw.ring ∧
    (conclude a r l s).1.jnw.cursor = s.jnw.cursor := by
  simp only [conclude]
  simp

@[simp] theorem latchHotDie_fields (s : State) :
    (latchHotDie s).fmn.dieTemp = s.fmn.dieTemp ∧ (latchHotDie s).pev.power = s.pev.power ∧
    (latchHotDie s).pev.settling = s.pev.settling ∧ (latchHotDie s).pev.dozeJob = s.pev.dozeJob := by
  simp only [latchHotDie]
  repeat' split
  all_goals simp

@[simp] theorem antennaLost_fields (s : State) :
    (antennaLost s).mpt.runState = s.mpt.runState ∧ (antennaLost s).ssc.sheet = s.ssc.sheet ∧
    (antennaLost s).ssc.pollInterval = s.ssc.pollInterval ∧ (antennaLost s).ssc.startUp = s.ssc.startUp ∧
    (antennaLost s).fmn.shutdownBlock = s.fmn.shutdownBlock ∧
    (antennaLost s).fmn.reducedDuty = s.fmn.reducedDuty ∧ (antennaLost s).fmn.dieTemp = s.fmn.dieTemp ∧
    (antennaLost s).jnw.ring = s.jnw.ring ∧ (antennaLost s).jnw.cursor = s.jnw.cursor ∧
    (antennaLost s).pev.power = s.pev.power ∧ (antennaLost s).pev.settling = s.pev.settling := by
  simp only [antennaLost]
  repeat' split
  all_goals simp

@[simp] theorem overcurrent_fields (s : State) :
    (overcurrent s).mpt.runState = s.mpt.runState ∧ (overcurrent s).ssc.sheet = s.ssc.sheet ∧
    (overcurrent s).ssc.pollInterval = s.ssc.pollInterval ∧ (overcurrent s).ssc.startUp = s.ssc.startUp ∧
    (overcurrent s).fmn.shutdownBlock = s.fmn.shutdownBlock ∧
    (overcurrent s).fmn.reducedDuty = s.fmn.reducedDuty ∧ (overcurrent s).fmn.dieTemp = s.fmn.dieTemp ∧
    (overcurrent s).jnw.ring = s.jnw.ring ∧ (overcurrent s).jnw.cursor = s.jnw.cursor ∧
    (overcurrent s).pev.power = s.pev.power ∧ (overcurrent s).pev.settling = s.pev.settling := by
  simp only [overcurrent]
  simp

@[simp] theorem passiveFinding_fields (b : Bool) (s : State) :
    (passiveFinding b s).fmn.shutdownBlock = s.fmn.shutdownBlock ∧
    (passiveFinding b s).fmn.reducedDuty = s.fmn.reducedDuty ∧
    (passiveFinding b s).fmn.dieTemp = s.fmn.dieTemp ∧ (passiveFinding b s).pev.power = s.pev.power ∧
    (passiveFinding b s).pev.settling = s.pev.settling ∧ (passiveFinding b s).pev.dozeJob = s.pev.dozeJob := by
  simp only [passiveFinding]
  repeat' split
  all_goals simp

@[simp] theorem passiveEnds_fields (u : PassiveUse) (b : Bool) (s : State) :
    (passiveEnds u b s).mpt.runState = s.mpt.runState ∧ (passiveEnds u b s).ssc.sheet = s.ssc.sheet ∧
    (passiveEnds u b s).ssc.pollInterval = s.ssc.pollInterval ∧
    (passiveEnds u b s).ssc.startUp = s.ssc.startUp ∧
    (passiveEnds u b s).fmn.shutdownBlock = s.fmn.shutdownBlock ∧
    (passiveEnds u b s).fmn.reducedDuty = s.fmn.reducedDuty ∧ (passiveEnds u b s).fmn.dieTemp = s.fmn.dieTemp ∧
    (passiveEnds u b s).pev.power = s.pev.power ∧ (passiveEnds u b s).pev.settling = s.pev.settling := by
  simp only [passiveEnds]
  repeat' split
  all_goals simp

@[simp] theorem exhausted_fields (t : HeldTask) (s : State) :
    (exhausted t s).mpt.runState = s.mpt.runState ∧ (exhausted t s).fmn.shutdownBlock = s.fmn.shutdownBlock ∧
    (exhausted t s).fmn.reducedDuty = s.fmn.reducedDuty ∧ (exhausted t s).fmn.dieTemp = s.fmn.dieTemp ∧
    (exhausted t s).jnw.ring = s.jnw.ring ∧ (exhausted t s).jnw.cursor = s.jnw.cursor := by
  simp only [exhausted]
  repeat' split
  all_goals simp

@[simp] theorem tryFails_fields (t : HeldTask) (s : State) :
    (tryFails t s).mpt.runState = s.mpt.runState ∧ (tryFails t s).fmn.shutdownBlock = s.fmn.shutdownBlock ∧
    (tryFails t s).fmn.reducedDuty = s.fmn.reducedDuty ∧ (tryFails t s).fmn.dieTemp = s.fmn.dieTemp ∧
    (tryFails t s).jnw.ring = s.jnw.ring ∧ (tryFails t s).jnw.cursor = s.jnw.cursor := by
  simp only [tryFails]
  repeat' split
  all_goals simp

@[simp] theorem replyFails_fields (s : State) :
    (replyFails s).mpt.runState = s.mpt.runState ∧ (replyFails s).fmn.shutdownBlock = s.fmn.shutdownBlock ∧
    (replyFails s).fmn.reducedDuty = s.fmn.reducedDuty ∧ (replyFails s).fmn.dieTemp = s.fmn.dieTemp ∧
    (replyFails s).jnw.ring = s.jnw.ring ∧ (replyFails s).jnw.cursor = s.jnw.cursor := by
  simp only [replyFails]
  repeat' split
  all_goals simp

@[simp] theorem refuseRide_fields (t : HeldTask) (d : Draft) (p : RidePlan) (w : VerdictReason) (o : Owed)
    (s : State) :
    (refuseRide t d p w o s).mpt.runState = s.mpt.runState ∧
    (refuseRide t d p w o s).fmn.shutdownBlock = s.fmn.shutdownBlock ∧
    (refuseRide t d p w o s).fmn.reducedDuty = s.fmn.reducedDuty ∧
    (refuseRide t d p w o s).fmn.dieTemp = s.fmn.dieTemp := by
  simp only [refuseRide]
  simp

@[simp] theorem seekReservation_fields (t : HeldTask) (x : Decided) (d : Draft) (p : RidePlan) (s : State) :
    (seekReservation t x d p s).mpt.runState = s.mpt.runState ∧
    (seekReservation t x d p s).fmn.shutdownBlock = s.fmn.shutdownBlock ∧
    (seekReservation t x d p s).fmn.reducedDuty = s.fmn.reducedDuty ∧
    (seekReservation t x d p s).fmn.dieTemp = s.fmn.dieTemp ∧
    (seekReservation t x d p s).jnw.ring = s.jnw.ring ∧
    (seekReservation t x d p s).jnw.cursor = s.jnw.cursor := by
  simp only [seekReservation]
  repeat' split
  all_goals simp

@[simp] theorem decideCard_fields (t : HeldTask) (a : Asking) (r : Replies) (l : List JournalJob) (s : State) :
    (decideCard t a r l s).mpt.runState = s.mpt.runState ∧
    (decideCard t a r l s).fmn.shutdownBlock = s.fmn.shutdownBlock ∧
    (decideCard t a r l s).fmn.reducedDuty = s.fmn.reducedDuty ∧
    (decideCard t a r l s).fmn.dieTemp = s.fmn.dieTemp ∧ (decideCard t a r l s).jnw.ring = s.jnw.ring ∧
    (decideCard t a r l s).jnw.cursor = s.jnw.cursor := by
  simp only [decideCard]
  repeat' split
  all_goals simp

@[simp] theorem askCard_fields (t : HeldTask) (w : Asks) (a : Asking) (s : State) :
    (askCard t w a s).mpt.runState = s.mpt.runState ∧ (askCard t w a s).jnw.ring = s.jnw.ring ∧
    (askCard t w a s).jnw.cursor = s.jnw.cursor := by
  simp only [askCard]
  repeat' split
  all_goals simp

@[simp] theorem checkTaken_fields (t : HeldTask) (d : Draft) (p : RidePlan) (r : StampStanding) (s : State) :
    (checkTaken t d p r s).mpt.runState = s.mpt.runState ∧
    (checkTaken t d p r s).fmn.shutdownBlock = s.fmn.shutdownBlock ∧
    (checkTaken t d p r s).fmn.reducedDuty = s.fmn.reducedDuty ∧
    (checkTaken t d p r s).fmn.dieTemp = s.fmn.dieTemp ∧ (checkTaken t d p r s).jnw.ring = s.jnw.ring ∧
    (checkTaken t d p r s).jnw.cursor = s.jnw.cursor := by
  simp only [checkTaken]
  repeat' split
  all_goals simp

@[simp] theorem helloTaken_fields (t : HeldTask) (l : LinkStatus) (c : Cred) (f : Byte) (b : Bool) (s : State) :
    (helloTaken t l c f b s).mpt.runState = s.mpt.runState ∧
    (helloTaken t l c f b s).fmn.shutdownBlock = s.fmn.shutdownBlock ∧
    (helloTaken t l c f b s).fmn.reducedDuty = s.fmn.reducedDuty ∧
    (helloTaken t l c f b s).fmn.dieTemp = s.fmn.dieTemp := by
  simp only [helloTaken]
  repeat' split
  all_goals simp

@[simp] theorem enterHold_fields (i : Nat) (g : Half) (r : CardRequest) (s : State) :
    (enterHold i g r s).mpt.runState = s.mpt.runState ∧ (enterHold i g r s).ssc.sheet = s.ssc.sheet ∧
    (enterHold i g r s).ssc.pollInterval = s.ssc.pollInterval ∧
    (enterHold i g r s).ssc.startUp = s.ssc.startUp ∧
    (enterHold i g r s).fmn.shutdownBlock = s.fmn.shutdownBlock ∧
    (enterHold i g r s).fmn.reducedDuty = s.fmn.reducedDuty ∧ (enterHold i g r s).fmn.dieTemp = s.fmn.dieTemp ∧
    (enterHold i g r s).pev.power = s.pev.power ∧ (enterHold i g r s).pev.settling = s.pev.settling := by
  simp only [enterHold]
  repeat' split
  all_goals simp

@[simp] theorem decideToken_fields (sc : Scan) (t : Task) (a : Asking) (r : Replies) (l : List JournalJob)
    (s : State) :
    (decideToken sc t a r l s).mpt.runState = s.mpt.runState ∧
    (decideToken sc t a r l s).ssc.sheet = s.ssc.sheet ∧
    (decideToken sc t a r l s).ssc.pollInterval = s.ssc.pollInterval ∧
    (decideToken sc t a r l s).ssc.startUp = s.ssc.startUp ∧ (decideToken sc t a r l s).jnw.ring = s.jnw.ring ∧
    (decideToken sc t a r l s).jnw.cursor = s.jnw.cursor := by
  simp only [decideToken]
  repeat' split
  all_goals simp

@[simp] theorem askToken_fields (sc : Scan) (t : Task) (w : Asks) (a : Asking) (s : State) :
    (askToken sc t w a s).mpt.runState = s.mpt.runState ∧ (askToken sc t w a s).ssc.sheet = s.ssc.sheet ∧
    (askToken sc t w a s).ssc.pollInterval = s.ssc.pollInterval ∧
    (askToken sc t w a s).ssc.startUp = s.ssc.startUp ∧
    (askToken sc t w a s).jnw.ring = s.jnw.ring ∧ (askToken sc t w a s).jnw.cursor = s.jnw.cursor := by
  simp only [askToken]
  repeat' split
  all_goals simp

@[simp] theorem routeTaken_fields (sc : Scan) (t : Task) (r : RouteRequest) (s : State) :
    (routeTaken sc t r s).mpt.runState = s.mpt.runState ∧ (routeTaken sc t r s).ssc.sheet = s.ssc.sheet ∧
    (routeTaken sc t r s).ssc.pollInterval = s.ssc.pollInterval ∧
    (routeTaken sc t r s).ssc.startUp = s.ssc.startUp := by
  simp only [routeTaken]
  repeat' split
  all_goals simp

@[simp] theorem routeInstalled_fields (sc : Scan) (t : Task) (r : RouteRequest) (l : List Stop) (s : State) :
    (routeInstalled sc t r l s).mpt.runState = s.mpt.runState ∧
    (routeInstalled sc t r l s).ssc.sheet = s.ssc.sheet ∧
    (routeInstalled sc t r l s).ssc.pollInterval = s.ssc.pollInterval ∧
    (routeInstalled sc t r l s).ssc.startUp = s.ssc.startUp := by
  simp only [routeInstalled]
  simp

@[simp] theorem replaceServed_fields (sc : Scan) (g : Half) (r : ReplaceRequest) (b : List Byte) (s : State) :
    (replaceServed sc g r b s).mpt.runState = s.mpt.runState ∧
    (replaceServed sc g r b s).ssc.sheet = s.ssc.sheet ∧
    (replaceServed sc g r b s).ssc.pollInterval = s.ssc.pollInterval ∧
    (replaceServed sc g r b s).ssc.startUp = s.ssc.startUp := by
  simp only [replaceServed]
  simp

@[simp] theorem deltaServed_fields (sc : Scan) (g : Half) (r : DeltaRequest) (b : List Byte) (s : State) :
    (deltaServed sc g r b s).mpt.runState = s.mpt.runState ∧ (deltaServed sc g r b s).ssc.sheet = s.ssc.sheet ∧
    (deltaServed sc g r b s).ssc.pollInterval = s.ssc.pollInterval ∧
    (deltaServed sc g r b s).ssc.startUp = s.ssc.startUp := by
  simp only [deltaServed]
  simp

@[simp] theorem notesMerged_fields (sc : Scan) (t : Task) (l : List PeerNote) (s : State) :
    (notesMerged sc t l s).mpt.runState = s.mpt.runState ∧ (notesMerged sc t l s).ssc.sheet = s.ssc.sheet ∧
    (notesMerged sc t l s).ssc.pollInterval = s.ssc.pollInterval ∧
    (notesMerged sc t l s).ssc.startUp = s.ssc.startUp ∧ (notesMerged sc t l s).jnw.ring = s.jnw.ring ∧
    (notesMerged sc t l s).jnw.cursor = s.jnw.cursor := by
  simp only [notesMerged]
  repeat' split
  all_goals simp

@[simp] theorem notesDue_fields (sc : Scan) (t : Task) (l : List PeerNote) (s : State) :
    (notesDue sc t l s).mpt.runState = s.mpt.runState ∧ (notesDue sc t l s).ssc.sheet = s.ssc.sheet ∧
    (notesDue sc t l s).ssc.pollInterval = s.ssc.pollInterval ∧
    (notesDue sc t l s).ssc.startUp = s.ssc.startUp ∧ (notesDue sc t l s).jnw.ring = s.jnw.ring ∧
    (notesDue sc t l s).jnw.cursor = s.jnw.cursor := by
  simp only [notesDue]
  repeat' split
  all_goals simp

@[simp] theorem exportNext_fields (sc : Scan) (t : Task) (a : Word) (l : List SeenRecord) (n : Nat)
    (b : AnswerBody) (s : State) :
    (exportNext sc t a l n b s).mpt.runState = s.mpt.runState ∧
    (exportNext sc t a l n b s).ssc.sheet = s.ssc.sheet ∧
    (exportNext sc t a l n b s).ssc.pollInterval = s.ssc.pollInterval ∧
    (exportNext sc t a l n b s).ssc.startUp = s.ssc.startUp := by
  simp only [exportNext]
  repeat' split
  all_goals simp

@[simp] theorem fieldTested_fields (sc : Scan) (g : Half) (s : State) :
    (fieldTested sc g s).mpt.runState = s.mpt.runState ∧ (fieldTested sc g s).ssc.sheet = s.ssc.sheet ∧
    (fieldTested sc g s).ssc.pollInterval = s.ssc.pollInterval ∧
    (fieldTested sc g s).ssc.startUp = s.ssc.startUp ∧
    (fieldTested sc g s).fmn.shutdownBlock = s.fmn.shutdownBlock ∧
    (fieldTested sc g s).fmn.reducedDuty = s.fmn.reducedDuty ∧
    (fieldTested sc g s).fmn.dieTemp = s.fmn.dieTemp := by
  simp only [fieldTested]
  repeat' split
  all_goals simp

@[simp] theorem cancelHeld_fields (t : HeldTask) (s : State) :
    (cancelHeld t s).mpt.runState = s.mpt.runState ∧ (cancelHeld t s).fmn.shutdownBlock = s.fmn.shutdownBlock ∧
    (cancelHeld t s).fmn.reducedDuty = s.fmn.reducedDuty ∧ (cancelHeld t s).fmn.dieTemp = s.fmn.dieTemp ∧
    (cancelHeld t s).jnw.ring = s.jnw.ring ∧ (cancelHeld t s).jnw.cursor = s.jnw.cursor := by
  simp only [cancelHeld]
  repeat' split
  all_goals simp

@[simp] theorem cancelOfHeld_fields (sc : Scan) (g : Half) (n : Nat) (t : HeldTask) (s : State) :
    (cancelOfHeld sc g n t s).mpt.runState = s.mpt.runState ∧
    (cancelOfHeld sc g n t s).ssc.sheet = s.ssc.sheet ∧
    (cancelOfHeld sc g n t s).ssc.pollInterval = s.ssc.pollInterval ∧
    (cancelOfHeld sc g n t s).ssc.startUp = s.ssc.startUp ∧
    (cancelOfHeld sc g n t s).fmn.shutdownBlock = s.fmn.shutdownBlock ∧
    (cancelOfHeld sc g n t s).fmn.reducedDuty = s.fmn.reducedDuty ∧
    (cancelOfHeld sc g n t s).fmn.dieTemp = s.fmn.dieTemp ∧ (cancelOfHeld sc g n t s).jnw.ring = s.jnw.ring ∧
    (cancelOfHeld sc g n t s).jnw.cursor = s.jnw.cursor := by
  simp only [cancelOfHeld]
  repeat' split
  all_goals simp

@[simp] theorem cancelOfSlot_fields (sc : Scan) (g : Half) (n : Nat) (x : Byte) (k : Byte) (s : State) :
    (cancelOfSlot sc g n x k s).mpt.runState = s.mpt.runState ∧
    (cancelOfSlot sc g n x k s).ssc.sheet = s.ssc.sheet ∧
    (cancelOfSlot sc g n x k s).ssc.pollInterval = s.ssc.pollInterval ∧
    (cancelOfSlot sc g n x k s).ssc.startUp = s.ssc.startUp := by
  simp only [cancelOfSlot]
  repeat' split
  all_goals simp

@[simp] theorem cancelTaken_fields (sc : Scan) (g : Half) (n : Nat) (x : Byte) (k : Byte) (s : State) :
    (cancelTaken sc g n x k s).mpt.runState = s.mpt.runState ∧
    (cancelTaken sc g n x k s).ssc.sheet = s.ssc.sheet ∧
    (cancelTaken sc g n x k s).ssc.pollInterval = s.ssc.pollInterval ∧
    (cancelTaken sc g n x k s).ssc.startUp = s.ssc.startUp ∧
    (cancelTaken sc g n x k s).fmn.shutdownBlock = s.fmn.shutdownBlock ∧
    (cancelTaken sc g n x k s).fmn.reducedDuty = s.fmn.reducedDuty ∧
    (cancelTaken sc g n x k s).fmn.dieTemp = s.fmn.dieTemp ∧ (cancelTaken sc g n x k s).jnw.ring = s.jnw.ring ∧
    (cancelTaken sc g n x k s).jnw.cursor = s.jnw.cursor := by
  simp only [cancelTaken]
  repeat' split
  all_goals simp

@[simp] theorem keyServed_fields (sc : Scan) (g : Half) (n : Nat) (b : Bool) (l : List Byte) (s : State) :
    (keyServed sc g n b l s).mpt.runState = s.mpt.runState ∧ (keyServed sc g n b l s).ssc.sheet = s.ssc.sheet ∧
    (keyServed sc g n b l s).ssc.pollInterval = s.ssc.pollInterval ∧
    (keyServed sc g n b l s).ssc.startUp = s.ssc.startUp := by
  simp only [keyServed]
  repeat' split
  all_goals simp

@[simp] theorem statusAsked_fields (sc : Scan) (t : Task) (a : Word) (d : Int) (o : Bool)
    (l : List StatusBlock) (m : List StatusBlock) (r : StatusRecord) (s : State) :
    (statusAsked sc t a d o l m r s).mpt.runState = s.mpt.runState ∧
    (statusAsked sc t a d o l m r s).ssc.sheet = s.ssc.sheet ∧
    (statusAsked sc t a d o l m r s).ssc.pollInterval = s.ssc.pollInterval ∧
    (statusAsked sc t a d o l m r s).ssc.startUp = s.ssc.startUp := by
  simp only [statusAsked]
  repeat' split
  all_goals simp

@[simp] theorem closeIfReady_fields (t : HeldTask) (e : SessionEnd) (o : Owed) (s : State) :
    (closeIfReady t e o s).mpt.runState = s.mpt.runState := by
  simp only [closeIfReady]
  repeat' split
  all_goals simp

@[simp] theorem cardEntryServed_fields (k : EntryKind) (n : Option Word) (s : State) :
    (cardEntryServed k n s).mpt.runState = s.mpt.runState ∧ (cardEntryServed k n s).jnw.ring = s.jnw.ring ∧
    (cardEntryServed k n s).jnw.cursor = s.jnw.cursor := by
  simp only [cardEntryServed]
  repeat' split
  all_goals simp

@[simp] theorem reservationRefused_fields (s : State) :
    (reservationRefused s).mpt.runState = s.mpt.runState ∧
    (reservationRefused s).fmn.shutdownBlock = s.fmn.shutdownBlock ∧
    (reservationRefused s).fmn.reducedDuty = s.fmn.reducedDuty ∧
    (reservationRefused s).fmn.dieTemp = s.fmn.dieTemp := by
  simp only [reservationRefused]
  repeat' split
  all_goals simp

@[simp] theorem fillServed_fields (s : State) : (fillServed s).mpt.runState = s.mpt.runState := by
  simp only [fillServed]
  repeat' split
  all_goals simp

@[simp] theorem tokenEntryServed_fields (n : Option Word) (s : State) :
    (tokenEntryServed n s).mpt.runState = s.mpt.runState ∧ (tokenEntryServed n s).ssc.sheet = s.ssc.sheet ∧
    (tokenEntryServed n s).ssc.pollInterval = s.ssc.pollInterval ∧
    (tokenEntryServed n s).ssc.startUp = s.ssc.startUp := by
  simp only [tokenEntryServed]
  repeat' split
  all_goals simp

@[simp] theorem noteEntryServed_fields (n : Option Word) (s : State) :
    (noteEntryServed n s).mpt.runState = s.mpt.runState ∧ (noteEntryServed n s).ssc.sheet = s.ssc.sheet ∧
    (noteEntryServed n s).ssc.pollInterval = s.ssc.pollInterval ∧
    (noteEntryServed n s).ssc.startUp = s.ssc.startUp := by
  simp only [noteEntryServed]
  repeat' split
  all_goals simp

@[simp] theorem entryServed_fields (k : EntryKind) (w : ClaimFor) (n : Option Word) (s : State) :
    (entryServed k w n s).mpt.runState = s.mpt.runState ∧ (entryServed k w n s).ssc.sheet = s.ssc.sheet ∧
    (entryServed k w n s).ssc.pollInterval = s.ssc.pollInterval ∧
    (entryServed k w n s).ssc.startUp = s.ssc.startUp ∧ (entryServed k w n s).jnw.ring = s.jnw.ring ∧
    (entryServed k w n s).jnw.cursor = s.jnw.cursor := by
  simp only [entryServed]
  repeat' split
  all_goals simp

@[simp] theorem writeFields_fields (r : Ring) (i : Nat) (n : Word) (e : EntryContents) (s : State) :
    (writeFields r i n e s).mpt.runState = s.mpt.runState ∧ (writeFields r i n e s).jnw.ring = s.jnw.ring ∧
    (writeFields r i n e s).jnw.cursor = s.jnw.cursor := by
  simp only [writeFields]
  simp

@[simp] theorem writeHost_fields (r : Ring) (i : Nat) (n : Word) (s : State) :
    (writeHost r i n s).mpt.runState = s.mpt.runState ∧ (writeHost r i n s).jnw.ring = s.jnw.ring ∧
    (writeHost r i n s).jnw.cursor = s.jnw.cursor := by
  simp only [writeHost]
  simp

@[simp] theorem grantClaim_fields (j : JournalJob) (r : Ring) (s : State) :
    (grantClaim j r s).mpt.runState = s.mpt.runState ∧ (grantClaim j r s).jnw.ring = s.jnw.ring := by
  simp only [grantClaim]
  repeat' split
  all_goals simp

@[simp] theorem refuseClaim_fields (j : JournalJob) (s : State) :
    (refuseClaim j s).mpt.runState = s.mpt.runState ∧ (refuseClaim j s).ssc.sheet = s.ssc.sheet ∧
    (refuseClaim j s).ssc.pollInterval = s.ssc.pollInterval ∧ (refuseClaim j s).ssc.startUp = s.ssc.startUp ∧
    (refuseClaim j s).fmn.shutdownBlock = s.fmn.shutdownBlock ∧
    (refuseClaim j s).fmn.reducedDuty = s.fmn.reducedDuty ∧ (refuseClaim j s).fmn.dieTemp = s.fmn.dieTemp ∧
    (refuseClaim j s).jnw.ring = s.jnw.ring ∧ (refuseClaim j s).jnw.cursor = s.jnw.cursor ∧
    (refuseClaim j s).pev.power = s.pev.power ∧ (refuseClaim j s).pev.settling = s.pev.settling ∧
    (refuseClaim j s).pev.dozeJob = s.pev.dozeJob := by
  simp only [refuseClaim]
  repeat' split
  all_goals simp

@[simp] theorem serveClaim_fields (j : JournalJob) (m : Byte) (r : Ring) (s : State) :
    (serveClaim j m r s).mpt.runState = s.mpt.runState ∧ (serveClaim j m r s).ssc.sheet = s.ssc.sheet ∧
    (serveClaim j m r s).ssc.pollInterval = s.ssc.pollInterval ∧
    (serveClaim j m r s).ssc.startUp = s.ssc.startUp ∧
    (serveClaim j m r s).fmn.shutdownBlock = s.fmn.shutdownBlock ∧
    (serveClaim j m r s).fmn.reducedDuty = s.fmn.reducedDuty ∧
    (serveClaim j m r s).fmn.dieTemp = s.fmn.dieTemp ∧ (serveClaim j m r s).jnw.ring = s.jnw.ring ∧
    (serveClaim j m r s).pev.power = s.pev.power ∧ (serveClaim j m r s).pev.settling = s.pev.settling ∧
    (serveClaim j m r s).pev.dozeJob = s.pev.dozeJob := by
  simp only [serveClaim]
  repeat' split
  all_goals simp

@[simp] theorem entryWritten_fields (j : JournalJob) (n : Word) (s : State) :
    (entryWritten j n s).mpt.runState = s.mpt.runState ∧ (entryWritten j n s).ssc.sheet = s.ssc.sheet ∧
    (entryWritten j n s).ssc.pollInterval = s.ssc.pollInterval ∧
    (entryWritten j n s).ssc.startUp = s.ssc.startUp ∧ (entryWritten j n s).jnw.ring = s.jnw.ring ∧
    (entryWritten j n s).jnw.cursor = s.jnw.cursor ∧ (entryWritten j n s).pev.power = s.pev.power ∧
    (entryWritten j n s).pev.settling = s.pev.settling ∧ (entryWritten j n s).pev.dozeJob = s.pev.dozeJob := by
  simp only [entryWritten]
  repeat' split
  all_goals simp

@[simp] theorem journalGoesOn_fields (b : List Byte) (s : State) :
    (journalGoesOn b s).mpt.runState = s.mpt.runState ∧ (journalGoesOn b s).ssc.sheet = s.ssc.sheet ∧
    (journalGoesOn b s).ssc.pollInterval = s.ssc.pollInterval ∧
    (journalGoesOn b s).ssc.startUp = s.ssc.startUp ∧ (journalGoesOn b s).jnw.ring = s.jnw.ring ∧
    (journalGoesOn b s).jnw.cursor = s.jnw.cursor ∧ (journalGoesOn b s).pev.power = s.pev.power ∧
    (journalGoesOn b s).pev.settling = s.pev.settling ∧ (journalGoesOn b s).pev.dozeJob = s.pev.dozeJob := by
  simp only [journalGoesOn]
  repeat' split
  all_goals simp

@[simp] theorem checkSetup_fields (b : List Byte) (s : State) :
    (checkSetup b s).fmn.shutdownBlock = s.fmn.shutdownBlock ∧
    (checkSetup b s).fmn.reducedDuty = s.fmn.reducedDuty ∧ (checkSetup b s).fmn.dieTemp = s.fmn.dieTemp ∧
    (checkSetup b s).pev.power = s.pev.power ∧ (checkSetup b s).pev.settling = s.pev.settling := by
  simp only [checkSetup]
  repeat' split
  all_goals simp

@[simp] theorem startUpGoesOn_fields (p : StartPhase) (b : List Byte) (s : State) :
    (startUpGoesOn p b s).fmn.shutdownBlock = s.fmn.shutdownBlock ∧
    (startUpGoesOn p b s).fmn.reducedDuty = s.fmn.reducedDuty ∧
    (startUpGoesOn p b s).fmn.dieTemp = s.fmn.dieTemp ∧ (startUpGoesOn p b s).pev.power = s.pev.power ∧
    (startUpGoesOn p b s).pev.settling = s.pev.settling := by
  simp only [startUpGoesOn]
  repeat' split
  all_goals simp

@[simp] theorem startPart_fields (s : State) :
    (startPart s).ssc.sheet = s.ssc.sheet ∧ (startPart s).ssc.pollInterval = s.ssc.pollInterval ∧
    (startPart s).ssc.scan = s.ssc.scan ∧ (startPart s).pev.power = s.pev.power ∧
    (startPart s).pev.settling = s.pev.settling ∧ (startPart s).pev.dozeJob = s.pev.dozeJob := by
  simp only [startPart]
  repeat' split
  all_goals simp

@[simp] theorem nudgeAwake_fields (s : State) :
    (nudgeAwake s).mpt.runState = s.mpt.runState ∧ (nudgeAwake s).ssc.sheet = s.ssc.sheet ∧
    (nudgeAwake s).ssc.pollInterval = s.ssc.pollInterval ∧ (nudgeAwake s).ssc.startUp = s.ssc.startUp ∧
    (nudgeAwake s).pev.power = s.pev.power ∧ (nudgeAwake s).pev.settling = s.pev.settling := by
  simp only [nudgeAwake]
  repeat' split
  all_goals simp

@[simp] theorem nudgeAsleep_fields (s : State) :
    (nudgeAsleep s).pev.power = s.pev.power ∧ (nudgeAsleep s).pev.dozeJob = s.pev.dozeJob := by
  simp only [nudgeAsleep]
  repeat' split
  all_goals simp

@[simp] theorem nudge_fields (s : State) :
    (nudge s).mpt.runState = s.mpt.runState ∧ (nudge s).ssc.sheet = s.ssc.sheet ∧
    (nudge s).ssc.pollInterval = s.ssc.pollInterval ∧ (nudge s).ssc.startUp = s.ssc.startUp := by
  simp only [nudge]
  repeat' split
  all_goals simp

@[simp] theorem endPulse_fields (s : State) :
    (endPulse s).clk.hold = s.clk.hold ∧ (endPulse s).fmn.shutdownBlock = s.fmn.shutdownBlock ∧
    (endPulse s).fmn.reducedDuty = s.fmn.reducedDuty ∧ (endPulse s).fmn.dieTemp = s.fmn.dieTemp := by
  simp only [endPulse]
  repeat' split
  all_goals simp

@[simp] theorem haltRunning_fields (s : State) :
    (haltRunning s).ssc.sheet = s.ssc.sheet ∧ (haltRunning s).ssc.pollInterval = s.ssc.pollInterval ∧
    (haltRunning s).ssc.scan = s.ssc.scan ∧ (haltRunning s).fmn.shutdownBlock = s.fmn.shutdownBlock ∧
    (haltRunning s).fmn.reducedDuty = s.fmn.reducedDuty ∧ (haltRunning s).fmn.dieTemp = s.fmn.dieTemp ∧
    (haltRunning s).jnw.ring = s.jnw.ring ∧ (haltRunning s).jnw.cursor = s.jnw.cursor := by
  simp only [haltRunning]
  repeat' split
  all_goals simp

@[simp] theorem wakeExpires_fields (n : Nat) (s : State) :
    (wakeExpires n s).mpt.runState = s.mpt.runState ∧ (wakeExpires n s).ssc.sheet = s.ssc.sheet ∧
    (wakeExpires n s).ssc.pollInterval = s.ssc.pollInterval ∧ (wakeExpires n s).ssc.startUp = s.ssc.startUp ∧
    (wakeExpires n s).fmn.shutdownBlock = s.fmn.shutdownBlock ∧
    (wakeExpires n s).fmn.reducedDuty = s.fmn.reducedDuty ∧ (wakeExpires n s).fmn.dieTemp = s.fmn.dieTemp ∧
    (wakeExpires n s).pev.power = s.pev.power ∧ (wakeExpires n s).pev.settling = s.pev.settling := by
  simp only [wakeExpires]
  repeat' split
  all_goals simp

@[simp] theorem wakeByCard_fields (s : State) :
    (wakeByCard s).ssc.sheet = s.ssc.sheet ∧ (wakeByCard s).ssc.pollInterval = s.ssc.pollInterval ∧
    (wakeByCard s).ssc.startUp = s.ssc.startUp ∧ (wakeByCard s).ssc.scan = s.ssc.scan ∧
    (wakeByCard s).pev.settling = s.pev.settling := by
  simp only [wakeByCard]
  repeat' split
  all_goals simp

@[simp] theorem senseMeasured_fields (m : Nat) (s : State) :
    (senseMeasured m s).ssc.sheet = s.ssc.sheet ∧ (senseMeasured m s).ssc.pollInterval = s.ssc.pollInterval ∧
    (senseMeasured m s).ssc.startUp = s.ssc.startUp ∧ (senseMeasured m s).ssc.scan = s.ssc.scan ∧
    (senseMeasured m s).pev.settling = s.pev.settling := by
  simp only [senseMeasured]
  repeat' split
  all_goals simp

@[simp] theorem enterDoze_fields (c : PowerChange) (s : State) :
    (enterDoze c s).ssc.sheet = s.ssc.sheet ∧ (enterDoze c s).ssc.pollInterval = s.ssc.pollInterval ∧
    (enterDoze c s).ssc.startUp = s.ssc.startUp ∧ (enterDoze c s).ssc.scan = s.ssc.scan ∧
    (enterDoze c s).pev.settling = s.pev.settling := by
  simp only [enterDoze]
  simp

@[simp] theorem enterSleep_fields (s : State) :
    (enterSleep s).ssc.sheet = s.ssc.sheet ∧ (enterSleep s).ssc.pollInterval = s.ssc.pollInterval ∧
    (enterSleep s).ssc.startUp = s.ssc.startUp ∧ (enterSleep s).ssc.scan = s.ssc.scan ∧
    (enterSleep s).fmn.shutdownBlock = s.fmn.shutdownBlock ∧
    (enterSleep s).fmn.reducedDuty = s.fmn.reducedDuty ∧ (enterSleep s).fmn.dieTemp = s.fmn.dieTemp ∧
    (enterSleep s).pev.settling = s.pev.settling ∧ (enterSleep s).pev.dozeJob = s.pev.dozeJob := by
  simp only [enterSleep]
  simp

@[simp] theorem enterPower_fields (c : PowerChange) (s : State) :
    (enterPower c s).ssc.sheet = s.ssc.sheet ∧ (enterPower c s).ssc.pollInterval = s.ssc.pollInterval ∧
    (enterPower c s).ssc.startUp = s.ssc.startUp ∧ (enterPower c s).ssc.scan = s.ssc.scan ∧
    (enterPower c s).clk.hold = s.clk.hold ∧ (enterPower c s).fmn.shutdownBlock = s.fmn.shutdownBlock ∧
    (enterPower c s).fmn.reducedDuty = s.fmn.reducedDuty ∧ (enterPower c s).fmn.dieTemp = s.fmn.dieTemp ∧
    (enterPower c s).pev.settling = s.pev.settling := by
  simp only [enterPower]
  repeat' split
  all_goals simp

@[simp] theorem endScanInto_fields (sc : Scan) (c : PowerChange) (s : State) :
    (endScanInto sc c s).mpt.runState = s.mpt.runState ∧ (endScanInto sc c s).ssc.sheet = s.ssc.sheet ∧
    (endScanInto sc c s).ssc.pollInterval = s.ssc.pollInterval ∧
    (endScanInto sc c s).ssc.startUp = s.ssc.startUp ∧ (endScanInto sc c s).clk.hold = s.clk.hold ∧
    (endScanInto sc c s).fmn.shutdownBlock = s.fmn.shutdownBlock ∧
    (endScanInto sc c s).fmn.reducedDuty = s.fmn.reducedDuty ∧
    (endScanInto sc c s).fmn.dieTemp = s.fmn.dieTemp := by
  simp only [endScanInto]
  repeat' split
  all_goals simp

@[simp] theorem powerDone_fields (sc : Scan) (c : PowerChange) (s : State) :
    (powerDone sc c s).mpt.runState = s.mpt.runState ∧ (powerDone sc c s).ssc.sheet = s.ssc.sheet ∧
    (powerDone sc c s).ssc.pollInterval = s.ssc.pollInterval ∧ (powerDone sc c s).ssc.startUp = s.ssc.startUp ∧
    (powerDone sc c s).clk.hold = s.clk.hold ∧ (powerDone sc c s).fmn.shutdownBlock = s.fmn.shutdownBlock ∧
    (powerDone sc c s).fmn.reducedDuty = s.fmn.reducedDuty ∧
    (powerDone sc c s).fmn.dieTemp = s.fmn.dieTemp := by
  simp only [powerDone]
  repeat' split
  all_goals simp

@[simp] theorem stateRead_fields (sc : Scan) (b : List Byte) (s : State) :
    (stateRead sc b s).mpt.runState = s.mpt.runState ∧ (stateRead sc b s).ssc.sheet = s.ssc.sheet ∧
    (stateRead sc b s).ssc.pollInterval = s.ssc.pollInterval ∧ (stateRead sc b s).ssc.startUp = s.ssc.startUp ∧
    (stateRead sc b s).pev.power = s.pev.power ∧ (stateRead sc b s).pev.settling = s.pev.settling := by
  simp only [stateRead]
  repeat' split
  all_goals simp

@[simp] theorem headRead_fields (sc : Scan) (b : List Byte) (s : State) :
    (headRead sc b s).mpt.runState = s.mpt.runState ∧ (headRead sc b s).ssc.sheet = s.ssc.sheet ∧
    (headRead sc b s).ssc.pollInterval = s.ssc.pollInterval ∧ (headRead sc b s).ssc.startUp = s.ssc.startUp ∧
    (headRead sc b s).pev.settling = s.pev.settling := by
  simp only [headRead]
  repeat' split
  all_goals simp

@[simp] theorem requestRead_fields (sc : Scan) (h : List Byte) (b : List Byte) (s : State) :
    (requestRead sc h b s).mpt.runState = s.mpt.runState ∧ (requestRead sc h b s).ssc.sheet = s.ssc.sheet ∧
    (requestRead sc h b s).ssc.pollInterval = s.ssc.pollInterval ∧
    (requestRead sc h b s).ssc.startUp = s.ssc.startUp ∧
    (requestRead sc h b s).pev.settling = s.pev.settling := by
  simp only [requestRead]
  repeat' split
  all_goals simp

@[simp] theorem slotTakenWritten_fields (sc : Scan) (g : Half) (p : Parsed) (s : State) :
    (slotTakenWritten sc g p s).mpt.runState = s.mpt.runState ∧
    (slotTakenWritten sc g p s).ssc.sheet = s.ssc.sheet ∧
    (slotTakenWritten sc g p s).ssc.pollInterval = s.ssc.pollInterval ∧
    (slotTakenWritten sc g p s).ssc.startUp = s.ssc.startUp := by
  simp only [slotTakenWritten]
  repeat' split
  all_goals simp

@[simp] theorem tokenServed_fields (sc : Scan) (t : Task) (r : TokenRequest) (b : List Byte) (s : State) :
    (tokenServed sc t r b s).mpt.runState = s.mpt.runState ∧ (tokenServed sc t r b s).ssc.sheet = s.ssc.sheet ∧
    (tokenServed sc t r b s).ssc.pollInterval = s.ssc.pollInterval ∧
    (tokenServed sc t r b s).ssc.startUp = s.ssc.startUp := by
  simp only [tokenServed]
  repeat' split
  all_goals simp

@[simp] theorem routeServed_fields (sc : Scan) (t : Task) (r : RouteRequest) (b : List Byte) (s : State) :
    (routeServed sc t r b s).mpt.runState = s.mpt.runState ∧ (routeServed sc t r b s).ssc.sheet = s.ssc.sheet ∧
    (routeServed sc t r b s).ssc.pollInterval = s.ssc.pollInterval ∧
    (routeServed sc t r b s).ssc.startUp = s.ssc.startUp := by
  simp only [routeServed]
  repeat' split
  all_goals simp

@[simp] theorem notesServed_fields (sc : Scan) (t : Task) (n : Nat) (b : List Byte) (s : State) :
    (notesServed sc t n b s).mpt.runState = s.mpt.runState ∧ (notesServed sc t n b s).ssc.sheet = s.ssc.sheet ∧
    (notesServed sc t n b s).ssc.pollInterval = s.ssc.pollInterval ∧
    (notesServed sc t n b s).ssc.startUp = s.ssc.startUp ∧ (notesServed sc t n b s).jnw.ring = s.jnw.ring ∧
    (notesServed sc t n b s).jnw.cursor = s.jnw.cursor := by
  simp only [notesServed]
  repeat' split
  all_goals simp

@[simp] theorem cancelTagRead_fields (sc : Scan) (t : Task) (n : Nat) (b : List Byte) (s : State) :
    (cancelTagRead sc t n b s).mpt.runState = s.mpt.runState ∧
    (cancelTagRead sc t n b s).ssc.sheet = s.ssc.sheet ∧
    (cancelTagRead sc t n b s).ssc.pollInterval = s.ssc.pollInterval ∧
    (cancelTagRead sc t n b s).ssc.startUp = s.ssc.startUp := by
  simp only [cancelTagRead]
  simp

@[simp] theorem servingGoesOn_fields (sc : Scan) (t : Task) (g : ServeStage) (b : List Byte) (s : State) :
    (servingGoesOn sc t g b s).mpt.runState = s.mpt.runState ∧
    (servingGoesOn sc t g b s).ssc.sheet = s.ssc.sheet ∧
    (servingGoesOn sc t g b s).ssc.pollInterval = s.ssc.pollInterval ∧
    (servingGoesOn sc t g b s).ssc.startUp = s.ssc.startUp ∧ (servingGoesOn sc t g b s).jnw.ring = s.jnw.ring ∧
    (servingGoesOn sc t g b s).jnw.cursor = s.jnw.cursor ∧ (servingGoesOn sc t g b s).pev.power = s.pev.power ∧
    (servingGoesOn sc t g b s).pev.settling = s.pev.settling ∧
    (servingGoesOn sc t g b s).pev.dozeJob = s.pev.dozeJob := by
  simp only [servingGoesOn]
  repeat' split
  all_goals simp

@[simp] theorem answerWritten_fields (sc : Scan) (g : Half) (c : Option PowerChange) (s : State) :
    (answerWritten sc g c s).mpt.runState = s.mpt.runState ∧ (answerWritten sc g c s).ssc.sheet = s.ssc.sheet ∧
    (answerWritten sc g c s).ssc.pollInterval = s.ssc.pollInterval ∧
    (answerWritten sc g c s).ssc.startUp = s.ssc.startUp := by
  simp only [answerWritten]
  repeat' split
  all_goals simp

@[simp] theorem doneWritten_fields (sc : Scan) (c : Option PowerChange) (s : State) :
    (doneWritten sc c s).mpt.runState = s.mpt.runState ∧ (doneWritten sc c s).ssc.sheet = s.ssc.sheet ∧
    (doneWritten sc c s).ssc.pollInterval = s.ssc.pollInterval ∧
    (doneWritten sc c s).ssc.startUp = s.ssc.startUp ∧ (doneWritten sc c s).clk.hold = s.clk.hold ∧
    (doneWritten sc c s).fmn.shutdownBlock = s.fmn.shutdownBlock ∧
    (doneWritten sc c s).fmn.reducedDuty = s.fmn.reducedDuty ∧
    (doneWritten sc c s).fmn.dieTemp = s.fmn.dieTemp := by
  simp only [doneWritten]
  repeat' split
  all_goals simp

@[simp] theorem scanGoesOn_fields (sc : Scan) (b : List Byte) (s : State) :
    (scanGoesOn sc b s).mpt.runState = s.mpt.runState ∧ (scanGoesOn sc b s).ssc.sheet = s.ssc.sheet ∧
    (scanGoesOn sc b s).ssc.pollInterval = s.ssc.pollInterval ∧
    (scanGoesOn sc b s).ssc.startUp = s.ssc.startUp ∧
    (scanGoesOn sc b s).fmn.shutdownBlock = s.fmn.shutdownBlock ∧
    (scanGoesOn sc b s).fmn.reducedDuty = s.fmn.reducedDuty ∧ (scanGoesOn sc b s).fmn.dieTemp = s.fmn.dieTemp ∧
    (scanGoesOn sc b s).jnw.ring = s.jnw.ring ∧ (scanGoesOn sc b s).jnw.cursor = s.jnw.cursor := by
  simp only [scanGoesOn]
  repeat' split
  all_goals simp

@[simp] theorem cancelServed_fields (n : Nat) (s : State) :
    (cancelServed n s).mpt.runState = s.mpt.runState ∧ (cancelServed n s).ssc.sheet = s.ssc.sheet ∧
    (cancelServed n s).ssc.pollInterval = s.ssc.pollInterval ∧
    (cancelServed n s).ssc.startUp = s.ssc.startUp := by
  simp only [cancelServed]
  repeat' split
  all_goals simp

@[simp] theorem cardGoesOn_fields (n : Nat) (s : State) :
    (cardGoesOn n s).mpt.runState = s.mpt.runState ∧ (cardGoesOn n s).ssc.sheet = s.ssc.sheet ∧
    (cardGoesOn n s).ssc.pollInterval = s.ssc.pollInterval ∧ (cardGoesOn n s).ssc.startUp = s.ssc.startUp ∧
    (cardGoesOn n s).fmn.shutdownBlock = s.fmn.shutdownBlock ∧
    (cardGoesOn n s).fmn.reducedDuty = s.fmn.reducedDuty ∧ (cardGoesOn n s).fmn.dieTemp = s.fmn.dieTemp ∧
    (cardGoesOn n s).pev.power = s.pev.power ∧ (cardGoesOn n s).pev.settling = s.pev.settling := by
  simp only [cardGoesOn]
  repeat' split
  all_goals simp

@[simp] theorem resume_fields (c : Client) (b : List Byte) (s : State) :
    (resume c b s).fmn.shutdownBlock = s.fmn.shutdownBlock ∧
    (resume c b s).fmn.reducedDuty = s.fmn.reducedDuty ∧ (resume c b s).fmn.dieTemp = s.fmn.dieTemp := by
  simp only [resume]
  repeat' split
  all_goals simp

@[simp] theorem memoryFaultHalts_fields (s : State) :
    (memoryFaultHalts s).ssc.sheet = s.ssc.sheet ∧ (memoryFaultHalts s).ssc.pollInterval = s.ssc.pollInterval ∧
    (memoryFaultHalts s).fmn.shutdownBlock = s.fmn.shutdownBlock ∧
    (memoryFaultHalts s).fmn.reducedDuty = s.fmn.reducedDuty ∧
    (memoryFaultHalts s).fmn.dieTemp = s.fmn.dieTemp := by
  simp only [memoryFaultHalts]
  simp

@[simp] theorem clearOpen_fields (s : State) :
    (clearOpen s).fmn.shutdownBlock = s.fmn.shutdownBlock ∧ (clearOpen s).fmn.reducedDuty = s.fmn.reducedDuty ∧
    (clearOpen s).fmn.dieTemp = s.fmn.dieTemp ∧ (clearOpen s).pev.power = s.pev.power ∧
    (clearOpen s).pev.settling = s.pev.settling ∧ (clearOpen s).pev.dozeJob = s.pev.dozeJob := by
  simp only [clearOpen]
  repeat' split
  all_goals simp

@[simp] theorem clearOvercurrent_fields (s : State) :
    (clearOvercurrent s).fmn.shutdownBlock = s.fmn.shutdownBlock ∧
    (clearOvercurrent s).fmn.reducedDuty = s.fmn.reducedDuty ∧
    (clearOvercurrent s).fmn.dieTemp = s.fmn.dieTemp ∧ (clearOvercurrent s).pev.power = s.pev.power ∧
    (clearOvercurrent s).pev.settling = s.pev.settling ∧ (clearOvercurrent s).pev.dozeJob = s.pev.dozeJob := by
  simp only [clearOvercurrent]
  repeat' split
  all_goals simp

@[simp] theorem clearFaults_fields (s : State) :
    (clearFaults s).pev.power = s.pev.power ∧ (clearFaults s).pev.settling = s.pev.settling ∧
    (clearFaults s).pev.dozeJob = s.pev.dozeJob := by
  simp only [clearFaults]
  simp

end Sys2Proof.Proofs.Fields
end

section
/-! SUPPORT. The slots of the held tasks: a task enters the hold at CARD_INSPECT and leaves it at its DONE, and no other
operation changes which slots are held, whatever it does to the sessions. -/

namespace Sys2Proof.Proofs.Slots

open Sys2Proof Sys2Proof.Machine

@[simp] theorem slot_setSession (i : Nat) (x : Session) :
    (HeldTask.slot ∘ fun t => if t.slot = i then { t with session := x } else t) = HeldTask.slot := by
  funext t
  simp only [Function.comp_apply]
  split <;> rfl

@[simp] theorem slot_markHeld (t : SeenTable) : HeldTask.slot ∘ markHeld t = HeldTask.slot := by
  funext x
  simp

@[simp] theorem emptyForTrip_slots (s : State) :
    (emptyForTrip s).clk.hold.map HeldTask.slot = s.clk.hold.map HeldTask.slot := by
  simp [emptyForTrip]

@[simp] theorem handOver_slots (t : HeldTask) (e : SessionEnd) (s : State) :
    (handOver t e s).clk.hold.map HeldTask.slot = s.clk.hold.map HeldTask.slot := by
  simp only [handOver]
  simp

@[simp] theorem closeHead_slots (t : HeldTask) (e : SessionEnd) (o : Owed) (s : State) :
    (closeHead t e o s).clk.hold.map HeldTask.slot = s.clk.hold.map HeldTask.slot := by
  simp only [closeHead]
  repeat' split
  all_goals simp

@[simp] theorem grantHead_slots (t : HeldTask) (s : State) :
    (grantHead t s).clk.hold.map HeldTask.slot = s.clk.hold.map HeldTask.slot := by
  simp only [grantHead]
  simp

@[simp] theorem beginSession_slots (t : HeldTask) (s : State) :
    (beginSession t s).clk.hold.map HeldTask.slot = s.clk.hold.map HeldTask.slot := by
  simp only [beginSession]
  repeat' split
  all_goals simp

@[simp] theorem beginHead_slots (s : State) :
    (beginHead s).clk.hold.map HeldTask.slot = s.clk.hold.map HeldTask.slot := by
  simp only [beginHead]
  repeat' split
  all_goals simp

@[simp] theorem endAsking_slots (t : HeldTask) (c : Completion) (s : State) :
    (endAsking t c s).clk.hold.map HeldTask.slot = s.clk.hold.map HeldTask.slot := by
  simp only [endAsking]
  simp

@[simp] theorem endDeciding_slots (t : HeldTask) (p : RidePlan) (c : Completion) (v : VoidCause) (s : State) :
    (endDeciding t p c v s).clk.hold.map HeldTask.slot = s.clk.hold.map HeldTask.slot := by
  simp only [endDeciding]
  simp

@[simp] theorem settleStamp_slots (t : HeldTask) (d : Draft) (p : RidePlan) (o : StampOutcome) (s : State) :
    (settleStamp t d p o s).clk.hold.map HeldTask.slot = s.clk.hold.map HeldTask.slot := by
  simp only [settleStamp]
  repeat' split
  all_goals simp

@[simp] theorem afterPulse_slots (s : State) :
    (afterPulse s).clk.hold.map HeldTask.slot = s.clk.hold.map HeldTask.slot := by
  simp only [afterPulse]
  repeat' split
  all_goals simp

@[simp] theorem fieldFailed_slots (t : HeldTask) (s : State) :
    (fieldFailed t s).clk.hold.map HeldTask.slot = s.clk.hold.map HeldTask.slot := by
  simp only [fieldFailed]
  repeat' split
  all_goals simp

@[simp] theorem forceOff_slots (s : State) :
    (forceOff s).clk.hold.map HeldTask.slot = s.clk.hold.map HeldTask.slot := by
  simp only [forceOff]
  repeat' split
  all_goals simp

@[simp] theorem shutDown_slots (s : State) :
    (shutDown s).clk.hold.map HeldTask.slot = s.clk.hold.map HeldTask.slot := by
  simp only [shutDown]
  simp

@[simp] theorem dieMoves_slots (d : Int) (s : State) :
    (dieMoves d s).clk.hold.map HeldTask.slot = s.clk.hold.map HeldTask.slot := by
  simp only [dieMoves]
  repeat' split
  all_goals simp

@[simp] theorem haltHead_slots (s : State) :
    (haltHead s).clk.hold.map HeldTask.slot = s.clk.hold.map HeldTask.slot := by
  simp only [haltHead]
  repeat' split
  all_goals simp

@[simp] theorem haltSecond_slots (s : State) :
    (haltSecond s).clk.hold.map HeldTask.slot = s.clk.hold.map HeldTask.slot := by
  simp only [haltSecond]
  repeat' split
  all_goals simp

@[simp] theorem enterHalting_slots (s : State) :
    (enterHalting s).clk.hold.map HeldTask.slot = s.clk.hold.map HeldTask.slot := by
  simp only [enterHalting]
  simp

@[simp] theorem sweepFrom_slots (i : Nat) (s : State) :
    (sweepFrom i s).clk.hold.map HeldTask.slot = s.clk.hold.map HeldTask.slot := by
  simp only [sweepFrom]
  repeat' split
  all_goals simp

@[simp] theorem antennaLost_slots (s : State) :
    (antennaLost s).clk.hold.map HeldTask.slot = s.clk.hold.map HeldTask.slot := by
  simp only [antennaLost]
  repeat' split
  all_goals simp

@[simp] theorem overcurrent_slots (s : State) :
    (overcurrent s).clk.hold.map HeldTask.slot = s.clk.hold.map HeldTask.slot := by
  simp only [overcurrent]
  simp

@[simp] theorem exhausted_slots (t : HeldTask) (s : State) :
    (exhausted t s).clk.hold.map HeldTask.slot = s.clk.hold.map HeldTask.slot := by
  simp only [exhausted]
  repeat' split
  all_goals simp

@[simp] theorem tryFails_slots (t : HeldTask) (s : State) :
    (tryFails t s).clk.hold.map HeldTask.slot = s.clk.hold.map HeldTask.slot := by
  simp only [tryFails]
  repeat' split
  all_goals simp

@[simp] theorem replyFails_slots (s : State) :
    (replyFails s).clk.hold.map HeldTask.slot = s.clk.hold.map HeldTask.slot := by
  simp only [replyFails]
  repeat' split
  all_goals simp

@[simp] theorem refuseRide_slots (t : HeldTask) (d : Draft) (p : RidePlan) (w : VerdictReason) (o : Owed) (s : State) :
    (refuseRide t d p w o s).clk.hold.map HeldTask.slot = s.clk.hold.map HeldTask.slot := by
  simp only [refuseRide]
  simp

@[simp] theorem seekReservation_slots (t : HeldTask) (x : Decided) (d : Draft) (p : RidePlan) (s : State) :
    (seekReservation t x d p s).clk.hold.map HeldTask.slot = s.clk.hold.map HeldTask.slot := by
  simp only [seekReservation]
  repeat' split
  all_goals simp

@[simp] theorem decideCard_slots (t : HeldTask) (a : Asking) (r : Replies) (l : List JournalJob) (s : State) :
    (decideCard t a r l s).clk.hold.map HeldTask.slot = s.clk.hold.map HeldTask.slot := by
  simp only [decideCard]
  repeat' split
  all_goals simp

@[simp] theorem askCard_slots (t : HeldTask) (w : Asks) (a : Asking) (s : State) :
    (askCard t w a s).clk.hold.map HeldTask.slot = s.clk.hold.map HeldTask.slot := by
  simp only [askCard]
  repeat' split
  all_goals simp

@[simp] theorem beginStamping_slots (n : Word) (s : State) :
    (beginStamping n s).clk.hold.map HeldTask.slot = s.clk.hold.map HeldTask.slot := by
  simp only [beginStamping]
  repeat' split
  all_goals simp

@[simp] theorem checkTaken_slots (t : HeldTask) (d : Draft) (p : RidePlan) (r : StampStanding) (s : State) :
    (checkTaken t d p r s).clk.hold.map HeldTask.slot = s.clk.hold.map HeldTask.slot := by
  simp only [checkTaken]
  repeat' split
  all_goals simp

@[simp] theorem helloTaken_slots (t : HeldTask) (l : LinkStatus) (c : Cred) (f : Byte) (b : Bool) (s : State) :
    (helloTaken t l c f b s).clk.hold.map HeldTask.slot = s.clk.hold.map HeldTask.slot := by
  simp only [helloTaken]
  repeat' split
  all_goals simp

@[simp] theorem cancelHeld_slots (t : HeldTask) (s : State) :
    (cancelHeld t s).clk.hold.map HeldTask.slot = s.clk.hold.map HeldTask.slot := by
  simp only [cancelHeld]
  repeat' split
  all_goals simp

@[simp] theorem cancelOfHeld_slots (sc : Scan) (g : Half) (n : Nat) (t : HeldTask) (s : State) :
    (cancelOfHeld sc g n t s).clk.hold.map HeldTask.slot = s.clk.hold.map HeldTask.slot := by
  simp only [cancelOfHeld]
  repeat' split
  all_goals simp

@[simp] theorem cancelTaken_slots (sc : Scan) (g : Half) (n : Nat) (x : Byte) (k : Byte) (s : State) :
    (cancelTaken sc g n x k s).clk.hold.map HeldTask.slot = s.clk.hold.map HeldTask.slot := by
  simp only [cancelTaken]
  repeat' split
  all_goals simp

@[simp] theorem closeIfReady_slots (t : HeldTask) (e : SessionEnd) (o : Owed) (s : State) :
    (closeIfReady t e o s).clk.hold.map HeldTask.slot = s.clk.hold.map HeldTask.slot := by
  simp only [closeIfReady]
  repeat' split
  all_goals simp

@[simp] theorem cardEntryServed_slots (k : EntryKind) (n : Option Word) (s : State) :
    (cardEntryServed k n s).clk.hold.map HeldTask.slot = s.clk.hold.map HeldTask.slot := by
  simp only [cardEntryServed]
  repeat' split
  all_goals simp

@[simp] theorem reservationRefused_slots (s : State) :
    (reservationRefused s).clk.hold.map HeldTask.slot = s.clk.hold.map HeldTask.slot := by
  simp only [reservationRefused]
  repeat' split
  all_goals simp

@[simp] theorem fillServed_slots (s : State) :
    (fillServed s).clk.hold.map HeldTask.slot = s.clk.hold.map HeldTask.slot := by
  simp only [fillServed]
  repeat' split
  all_goals simp

@[simp] theorem entryServed_slots (k : EntryKind) (w : ClaimFor) (n : Option Word) (s : State) :
    (entryServed k w n s).clk.hold.map HeldTask.slot = s.clk.hold.map HeldTask.slot := by
  simp only [entryServed]
  repeat' split
  all_goals simp

@[simp] theorem grantClaim_slots (j : JournalJob) (r : Ring) (s : State) :
    (grantClaim j r s).clk.hold.map HeldTask.slot = s.clk.hold.map HeldTask.slot := by
  simp only [grantClaim]
  repeat' split
  all_goals simp

@[simp] theorem refuseClaim_slots (j : JournalJob) (s : State) :
    (refuseClaim j s).clk.hold.map HeldTask.slot = s.clk.hold.map HeldTask.slot := by
  simp only [refuseClaim]
  repeat' split
  all_goals simp

@[simp] theorem serveClaim_slots (j : JournalJob) (m : Byte) (r : Ring) (s : State) :
    (serveClaim j m r s).clk.hold.map HeldTask.slot = s.clk.hold.map HeldTask.slot := by
  simp only [serveClaim]
  repeat' split
  all_goals simp

@[simp] theorem entryWritten_slots (j : JournalJob) (n : Word) (s : State) :
    (entryWritten j n s).clk.hold.map HeldTask.slot = s.clk.hold.map HeldTask.slot := by
  simp only [entryWritten]
  repeat' split
  all_goals simp

@[simp] theorem journalGoesOn_slots (b : List Byte) (s : State) :
    (journalGoesOn b s).clk.hold.map HeldTask.slot = s.clk.hold.map HeldTask.slot := by
  simp only [journalGoesOn]
  repeat' split
  all_goals simp

@[simp] theorem checkSetup_slots (b : List Byte) (s : State) :
    (checkSetup b s).clk.hold.map HeldTask.slot = s.clk.hold.map HeldTask.slot := by
  simp only [checkSetup]
  repeat' split
  all_goals simp

@[simp] theorem startUpGoesOn_slots (p : StartPhase) (b : List Byte) (s : State) :
    (startUpGoesOn p b s).clk.hold.map HeldTask.slot = s.clk.hold.map HeldTask.slot := by
  simp only [startUpGoesOn]
  repeat' split
  all_goals simp

@[simp] theorem haltRunning_slots (s : State) :
    (haltRunning s).clk.hold.map HeldTask.slot = s.clk.hold.map HeldTask.slot := by
  simp only [haltRunning]
  repeat' split
  all_goals simp

/-- The held slots are those of the hold. -/
theorem heldSlots_congr {s u : State} (h : u.clk.hold.map HeldTask.slot = s.clk.hold.map HeldTask.slot) :
    heldSlots u = heldSlots s := h

end Sys2Proof.Proofs.Slots
end

section
/-! SUPPORT. What the operations that are not a task's own do to the scan: it stays, it ends, its task completes or waits for
a further entry, or it stands at a slot that is not held. -/

namespace Sys2Proof.Proofs.Scans

open Sys2Proof Sys2Proof.Machine Sys2Proof.Proofs.Slots

/-- A slot's state is being read, or the answer of a task that changes no power state is being written. -/
def idlePhase : ScanPhase → Bool
  | .readState | .writeAnswer _ none => true
  | .readHead | .readRequest _ | .writeTaken _ _ | .handed _ | .serving _ _ | .writeAnswer _ (some _) | .writeDone _ => false

/-- From one scan, or none, to another, with these slots held. -/
inductive ScanMoves (held : List Nat) (o : Option Scan) : Option Scan → Prop
  | same : ScanMoves held o o
  | ends : ScanMoves held o none
  | idles {sc : Scan} (p : ScanPhase) (h : o = some sc) (hp : idlePhase p = true) :
      ScanMoves held o (some { sc with phase := p })
  | stays {sc : Scan} {t : Task} {g : ServeStage} (g' : ServeStage) (h : o = some sc) (hp : sc.phase = .serving t g)
      (hg : stageOk t.req g' = true) : ScanMoves held o (some { sc with phase := .serving t g' })
  | fresh {sc : Scan} (hi : sc.index ∉ held) (hp : idlePhase sc.phase = true) : ScanMoves held o (some sc)

theorem ScanMoves.of_eq {held : List Nat} {o p : Option Scan} (h : p = o) : ScanMoves held o p := h ▸ .same

theorem ScanMoves.trans {held : List Nat} {o p q : Option Scan} (h : ScanMoves held o p) (k : ScanMoves held p q) :
    ScanMoves held o q := by
  cases k with
  | same => exact h
  | ends => exact .ends
  | fresh hi hp => exact .fresh hi hp
  | @idles sc p' he hp =>
    cases h with
    | same => exact .idles p' he hp
    | ends => cases he
    | idles p h _ =>
      cases he
      have hm := ScanMoves.idles (held := held) p' h hp
      exact hm
    | stays g' h _ _ =>
      cases he
      have hm := ScanMoves.idles (held := held) p' h hp
      exact hm
    | fresh hi _ => cases he; exact .fresh hi hp
  | @stays sc t g g' he hph hg =>
    cases h with
    | same => exact .stays g' he hph hg
    | ends => cases he
    | idles p h hp => cases he; cases hph; cases hp
    | stays g'' h hph' _ =>
      cases he
      cases hph
      have hm := ScanMoves.stays (held := held) g' h hph' hg
      exact hm
    | fresh hi hp => cases he; rw [hph] at hp; cases hp

/-- The slots held are those held before. -/
theorem ScanMoves.held {held held' : List Nat} {o p : Option Scan} (h : ScanMoves held o p) (e : held = held') :
    ScanMoves held' o p := e ▸ h

/-- The scan of s goes over to that of u, with the slots held in s. -/
def Moves (s u : State) : Prop := ScanMoves (heldSlots s) s.ssc.scan u.ssc.scan

theorem Moves.of_eq {s u : State} (h : u.ssc.scan = s.ssc.scan) : Moves s u := ScanMoves.of_eq h

theorem Moves.refl (s : State) : Moves s s := .same

theorem Moves.trans {s u v : State} (h : Moves s u) (k : Moves u v) (e : heldSlots u = heldSlots s) : Moves s v :=
  ScanMoves.trans h (ScanMoves.held k e)

/-- A first part that leaves scan and slots alone. -/
theorem Moves.after {s u v : State} (k : Moves u v) (hs : u.ssc.scan = s.ssc.scan) (e : heldSlots u = heldSlots s) :
    Moves s v := (Moves.of_eq hs).trans k e

/-- A last part that leaves the scan alone. -/
theorem Moves.before {s u v : State} (h : Moves s u) (hs : v.ssc.scan = u.ssc.scan) : Moves s v := by
  unfold Moves
  rw [hs]
  exact h

/-! ### Scans -/

theorem nextUnheld_not_held {held : List Nat} {n i r j k : Nat} (h : nextUnheld held n i r = some (j, k)) : j ∉ held := by
  induction r generalizing i k with
  | zero => cases h
  | succ r ih =>
    simp only [nextUnheld] at h
    split at h
    · exact ih h
    · cases h
      exact ‹_›

theorem beginScan_moves (s : State) : Moves s (beginScan s) := by
  simp only [beginScan]
  split
  · exact .of_eq (by simp)
  · exact ScanMoves.fresh (nextUnheld_not_held ‹_›) rfl

/-- The end of a scan leaves none, or one that begins. -/
theorem endScan_moves (sc : Scan) (s : State) : ScanMoves (heldSlots s) none (endScan sc s).ssc.scan := by
  simp only [endScan]
  split
  · exact beginScan_moves (closeScan sc s)
  · exact .of_eq (by simp)

theorem goOn_moves (sc : Scan) (s : State) : ScanMoves (heldSlots s) none (goOn sc s).ssc.scan := by
  simp only [goOn]
  split
  · split
    · exact endScan_moves sc s
    · exact .fresh (nextUnheld_not_held ‹_›) rfl
  · exact endScan_moves sc s

/-- A scan over, and another that may begin. -/
theorem moves_of_none {s u : State} (h : ScanMoves (heldSlots s) none u.ssc.scan) : Moves s u := ScanMoves.ends.trans h

theorem completeTask_moves {s u : State} {sc : Scan} (g : Half) (b : AnswerBody) (hs : s.ssc.scan = some sc) :
    Moves s (completeTask sc g b none u) := ScanMoves.idles _ hs rfl

theorem finishFieldTest_moves (r : FieldTestResult) (s : State) : Moves s (finishFieldTest r s) := by
  simp only [finishFieldTest]
  split
  · obtain ⟨hs, -⟩ := Cases.serving_of_servedTask ‹_›
    exact completeTask_moves _ _ hs
  · exact .refl s

theorem scanAfterCheck_moves (s : State) : Moves s (scanAfterCheck s) := by
  simp only [scanAfterCheck]
  split
  · exact (beginScan_moves _).after rfl rfl
  · exact .refl s

theorem abandonPassive_moves (r : FieldTestResult) (s : State) : Moves s (abandonPassive r s) := by
  simp only [abandonPassive]
  split
  · exact .refl s
  · exact (finishFieldTest_moves r _).after rfl rfl
  · exact (scanAfterCheck_moves _).after rfl rfl

theorem beginDozeCheck_moves (n : Nat) (s : State) : Moves s (beginDozeCheck n s) := by
  simp only [beginDozeCheck]
  split
  · exact (beginScan_moves _).after rfl rfl
  · exact .of_eq rfl

/-! ### The field -/

theorem turnOn_moves (h : FieldHolder) (s : State) : Moves s (turnOn h s) := by
  simp only [turnOn]
  exact (abandonPassive_moves _ _).after rfl rfl

theorem grantHead_moves (t : HeldTask) (s : State) : Moves s (grantHead t s) := by
  simp only [grantHead]
  exact (turnOn_moves .session s).before rfl

theorem beginSession_moves (t : HeldTask) (s : State) : Moves s (beginSession t s) := by
  simp only [beginSession]
  split
  · exact .of_eq (by simp)
  · split
    · exact grantHead_moves t s
    · exact .refl s

theorem beginHead_moves (s : State) : Moves s (beginHead s) := by
  simp only [beginHead]
  split
  · exact .refl s
  · split
    · exact beginSession_moves _ s
    · exact .refl s

theorem afterPulse_moves (s : State) : Moves s (afterPulse s) := by
  simp only [afterPulse]
  split
  · exact (beginDozeCheck_moves _ s).trans (beginHead_moves _) (heldSlots_congr (by simp))
  · exact beginHead_moves s

theorem forceOff_moves (s : State) : Moves s (forceOff s) := by
  simp only [forceOff]
  split
  · exact .refl s
  · exact (afterPulse_moves _).after rfl rfl
  · split <;> exact .of_eq (by simp)

theorem shutDown_moves (s : State) : Moves s (shutDown s) := by
  simp only [shutDown]
  refine Moves.trans (u := forceOff (latchShutdown { s with fmn := { s.fmn with shutdownBlock := true } })) ?_
    (abandonPassive_moves _ _) (heldSlots_congr (by simp))
  exact (forceOff_moves _).after (by simp) (heldSlots_congr (by simp))

theorem dieMoves_moves (d : Int) (s : State) : Moves s (dieMoves d s) := by
  simp only [dieMoves]
  generalize hw : (if 105 ≤ clampTemp d then warm { s with fmn := { s.fmn with dieTemp := clampTemp d } }
    else { s with fmn := { s.fmn with dieTemp := clampTemp d } }) = w
  have hws : w.ssc.scan = s.ssc.scan := by subst hw; split <;> simp
  have hwh : heldSlots w = heldSlots s := by subst hw; split <;> exact heldSlots_congr (by simp)
  have hshut : Moves s (if 125 ≤ clampTemp d then shutDown w else w) := by
    split
    · exact (shutDown_moves w).after hws hwh
    · exact .of_eq hws
  refine hshut.before ?_
  repeat' split
  all_goals simp

theorem antennaLost_moves (s : State) : Moves s (antennaLost s) := by
  simp only [antennaLost]
  split
  · exact (forceOff_moves _).after (by simp) (heldSlots_congr (by simp))
  · exact .of_eq (by simp)

theorem overcurrent_moves (s : State) : Moves s (overcurrent s) := by
  simp only [overcurrent]
  exact (forceOff_moves _).after (by simp) (heldSlots_congr (by simp))

theorem passiveEnds_moves (use : PassiveUse) (b : Bool) (s : State) : Moves s (passiveEnds use b s) := by
  simp only [passiveEnds]
  split
  · exact (finishFieldTest_moves _ _).after (by simp) (heldSlots_congr (by simp))
  · exact (scanAfterCheck_moves _).after (by simp) (heldSlots_congr (by simp))

/-! ### The Journal Writer and those it answers -/

theorem tokenEntryServed_moves (n : Option Word) (s : State) : Moves s (tokenEntryServed n s) := by
  simp only [tokenEntryServed]
  split
  · obtain ⟨hs, -⟩ := Cases.serving_of_servedTask ‹_›
    exact completeTask_moves _ _ hs
  · obtain ⟨hs, -⟩ := Cases.serving_of_servedTask ‹_›
    exact completeTask_moves _ _ hs
  · exact .refl s

theorem stageOk_notesClaims (r : Request) (c : NoteCounts) (n : Nat) : stageOk r (.notesClaims c n) = true := by
  cases r <;> rfl

theorem noteEntryServed_moves (n : Option Word) (s : State) : Moves s (noteEntryServed n s) := by
  simp only [noteEntryServed]
  split
  · obtain ⟨hs, hp⟩ := Cases.serving_of_servedTask ‹_›
    split
    · exact completeTask_moves _ _ hs
    · exact ScanMoves.stays _ hs hp (stageOk_notesClaims _ _ _)
  · exact .refl s

theorem entryServed_moves (k : EntryKind) (w : ClaimFor) (n : Option Word) (s : State) :
    Moves s (entryServed k w n s) := by
  cases w with
  | nobody => exact .refl s
  | card => exact .of_eq (by simp [entryServed])
  | token => exact tokenEntryServed_moves n s
  | note => exact noteEntryServed_moves n s

theorem serveClaim_moves (j : JournalJob) (m : Byte) (ring : Ring) (s : State) : Moves s (serveClaim j m ring s) := by
  simp only [serveClaim]
  split
  · exact .of_eq (by simp)
  · simp only [refuseClaim]
    split
    · exact (entryServed_moves _ _ _ _).after (by simp) (heldSlots_congr (by simp))
    all_goals exact .of_eq (by simp)

theorem journalGoesOn_moves (data : List Byte) (s : State) : Moves s (journalGoesOn data s) := by
  simp only [journalGoesOn]
  split
  · exact .of_eq rfl
  · exact .of_eq (by simp)
  · simp only [entryWritten]
    split
    · exact (entryServed_moves _ _ _ _).after (by simp) (heldSlots_congr (by simp))
    all_goals exact .of_eq (by simp)
  · exact .refl s

/-! ### NUDGE, HALT and START -/

theorem nudgeAwake_moves (s : State) : Moves s (nudgeAwake s) := by
  simp only [nudgeAwake]
  split
  · exact .of_eq rfl
  · exact beginScan_moves s

theorem nudge_moves (s : State) : Moves s (nudge s) := by
  simp only [nudge]
  split
  · exact nudgeAwake_moves s
  · exact nudgeAwake_moves s
  · exact (nudgeAwake_moves _).after rfl rfl
  · exact .of_eq (by simp)

theorem wakeExpires_moves (n : Nat) (s : State) : Moves s (wakeExpires n s) := by
  simp only [wakeExpires]
  split
  · exact (beginDozeCheck_moves n _).after rfl rfl
  · exact .of_eq rfl

theorem enterHalting_scan (s : State) : (enterHalting s).ssc.scan = s.ssc.scan := by simp [enterHalting]

theorem haltRunning_scan (s : State) : (haltRunning s).ssc.scan = s.ssc.scan := by
  simp only [haltRunning]
  split <;> simp

theorem enterRunning_moves (s : State) : Moves s (enterRunning s) := (beginScan_moves _).after rfl rfl

theorem sweepFrom_moves (i : Nat) (s : State) : Moves s (sweepFrom i s) := by
  simp only [sweepFrom]
  split
  · exact .of_eq (enterHalting_scan s)
  · split
    · exact .of_eq rfl
    · exact enterRunning_moves s

theorem startUpGoesOn_moves (p : StartPhase) (data : List Byte) (s : State) : Moves s (startUpGoesOn p data s) := by
  simp only [startUpGoesOn, checkSetup]
  split
  · split
    · exact .of_eq rfl
    · exact (sweepFrom_moves 0 _).after rfl rfl
  · split
    · exact .of_eq rfl
    · exact sweepFrom_moves _ s
  · exact .of_eq rfl
  · exact .of_eq rfl
  · exact (sweepFrom_moves _ _).after rfl rfl

/-! ### The hold -/

/-- R88: a CARD INSPECT enters the hold; a head's session that begins may complete a FIELD TEST or begin a scan. -/
theorem enterHold_moves (i : Nat) (g : Half) (r : CardRequest) (s : State) :
    ScanMoves (heldSlots s ++ [i]) s.ssc.scan (enterHold i g r s).ssc.scan := by
  simp only [enterHold]
  repeat' split
  · exact .of_eq (by simp)
  · have hm := beginHead_moves { s with clk := { s.clk with hold := s.clk.hold ++ [⟨i, g, r, .waitingField⟩] } }
    exact ScanMoves.held hm (by simp [heldSlots])
  · exact .same

/-- R102: a task leaves the hold, and the second becomes head. -/
theorem leaveHold_moves (i : Nat) (s : State) :
    ScanMoves ((heldSlots s).filter (· != i)) s.ssc.scan (leaveHold i s).ssc.scan := by
  have he : heldSlots { s with clk := { s.clk with hold := s.clk.hold.filter fun t => t.slot != i, identity := none } } =
      (heldSlots s).filter (· != i) := by
    simp only [heldSlots, List.filter_map]
    rfl
  simp only [leaveHold]
  split
  · exact (beginHead_moves _).held he
  · exact .same

theorem cancelServed_moves (i : Nat) (s : State) : Moves s (cancelServed i s) := by
  simp only [cancelServed]
  split
  · split
    · obtain ⟨hs, -⟩ := Cases.serving_of_servedTask ‹_›
      exact completeTask_moves _ _ hs
    · exact .refl s
  · exact .refl s

end Sys2Proof.Proofs.Scans
end

section
/-! SUPPORT. The Running Context and the task in hand (R30 to R45): what each change of the context keeps of its rule, and
which checks a task has passed when it reaches its owner. -/

namespace Sys2Proof.Proofs.ContextRule

open Sys2Proof Sys2Proof.Machine Sys2Proof.Proofs.Cases Sys2Proof.Proofs.Scans

/-! ### The task in hand -/

/-- The checks that a phase comes after (R130, R37). -/
def phaseOk : ScanPhase → Bool
  | .writeTaken _ (.good r) => requestOk r
  | .handed t => requestOk t.req
  | .serving t g => requestOk t.req && stageOk t.req g
  | _ => true

/-- The task of a scan has passed its checks. -/
def ScanOk (o : Option Scan) : Prop := ∀ sc, o = some sc → phaseOk sc.phase = true

theorem taskOk_iff (s : State) : taskOk s = true ↔ ScanOk s.ssc.scan := by
  simp only [taskOk, ScanOk]
  cases s.ssc.scan with
  | none => simp
  | some sc =>
    obtain ⟨_, _, _, _, _, phase⟩ := sc
    simp only [Option.map_some, Option.some.injEq, forall_eq']
    cases phase with
    | writeTaken g p => cases p <;> rfl
    | _ => rfl

theorem scanOk_none : ScanOk none := fun _ h => by cases h

theorem scanOk_some {sc : Scan} : ScanOk (some sc) ↔ phaseOk sc.phase = true := by simp [ScanOk]

theorem phaseOk_of_idle {p : ScanPhase} (h : idlePhase p = true) : phaseOk p = true := by
  cases p with
  | readState | writeAnswer _ _ => rfl
  | readHead | readRequest _ | writeTaken _ _ | handed _ | serving _ _ | writeDone _ => cases h

theorem ScanMoves.ok {held : List Nat} {o p : Option Scan} (h : ScanMoves held o p) (ho : ScanOk o) : ScanOk p := by
  cases h with
  | same => exact ho
  | ends => exact scanOk_none
  | idles p _ hp => exact scanOk_some.mpr (phaseOk_of_idle hp)
  | fresh _ hp => exact scanOk_some.mpr (phaseOk_of_idle hp)
  | stays g' he hph hg =>
    have hs := ho _ he
    simp only [hph, phaseOk, Bool.and_eq_true] at hs
    exact scanOk_some.mpr (by simp [phaseOk, hs.1, hg])

theorem requestOk_of_inHand {sc : Scan} {t : Task} {s : State} (h : ScanOk s.ssc.scan) (hi : InHand sc t s) :
    requestOk t.req = true := by
  obtain ⟨hs, hp⟩ := hi
  have hok := h sc hs
  rwa [hp] at hok

theorem stageOk_of_serving {sc : Scan} {t : Task} {g : ServeStage} {s : State} (h : ScanOk s.ssc.scan)
    (hi : Serving sc t g s) : requestOk t.req = true ∧ stageOk t.req g = true := by
  obtain ⟨hs, hp⟩ := hi
  have hok := h sc hs
  rwa [hp, phaseOk, Bool.and_eq_true] at hok

/-- A task of any kind but ROUTE has no stage to pass. -/
theorem stageOk_of_ne_route {r : Request} (h : ∀ x, r ≠ .route x) (g : ServeStage) : stageOk r g = true := by
  cases r with
  | route x => exact absurd rfl (h x)
  | _ => rfl

/-- A stage of any kind but the two of ROUTE follows no check. -/
theorem stageOk_of_stage {g : ServeStage} (hr : g ≠ .routeRead) (hi : ∀ l, g ≠ .routeInstall l) (r : Request) :
    stageOk r g = true := by
  cases r with
  | route x =>
    cases g with
    | routeRead => exact absurd rfl hr
    | routeInstall l => exact absurd rfl (hi l)
    | _ => rfl
  | _ => rfl

/-! ### What the Sheet Scanner has checked (R130) -/

theorem requestOk_readRoute {b : List Byte} {r : Request} (h : readRoute b = some r) : requestOk r = true := by
  simp only [readRoute, Option.bind_eq_bind, Option.bind_some, Option.bind_none] at h
  repeat' split at h
  all_goals cases h
  all_goals simp_all [requestOk]

theorem requestOk_readPosition {b : List Byte} {r : Request} (h : readPosition b = some r) : requestOk r = true := by
  have hgood : ∀ (e : PositionEvent) (present : Bool),
      stopCodeOk (halfAt b 6) = true ∧ (present = true → minuteOk (halfAt b 10) = true) →
      requestOk (.position ⟨e, halfAt b 6, if present then some (halfAt b 10) else none⟩) = true := by
    rintro e present ⟨hstop, hminute⟩
    cases present
    · simp [requestOk, hstop]
    · simp [requestOk, hstop, hminute rfl]
  simp only [readPosition, Option.bind_eq_bind, Option.bind_some, Option.bind_none] at h
  repeat' split at h
  · obtain ⟨present, -, h⟩ := Option.bind_eq_some_iff.mp h
    split at h <;> cases h
    exact hgood _ present ‹_›
  · obtain ⟨present, -, h⟩ := Option.bind_eq_some_iff.mp h
    split at h <;> cases h
    exact hgood _ present ‹_›
  · cases h

theorem requestOk_readRequest {n : Nat} {k : TaskKind} {b : List Byte} {r : Request} (h : readRequest n k b = some r) :
    requestOk r = true := by
  have hother : (∀ x, r ≠ .route x) → (∀ x, r ≠ .position x) → requestOk r = true := by
    intro hr hp
    cases r with
    | route x => exact absurd rfl (hr x)
    | position x => exact absurd rfl (hp x)
    | _ => rfl
  cases k with
  | route => exact requestOk_readRoute h
  | position => exact requestOk_readPosition h
  | power =>
    simp only [readRequest, readPower] at h
    split at h
    case h_3 =>
      simp only [Option.bind_eq_bind, Option.bind_eq_some_iff] at h
      obtain ⟨near, -, h⟩ := h
      split at h <;> cases h
      rfl
    all_goals cases h
    all_goals rfl
  | _ =>
    refine hother (fun x hx => ?_) (fun x hx => ?_)
    all_goals
      subst hx
      simp only [readRequest, readCardInspect, readTokenInspect, readDenyReplace, readDenyDelta, readPeerNotes,
        readSeenExport, readCancel, readKeyLoad, readKeyClear, Option.bind_eq_bind, Option.bind_eq_some_iff] at h
      grind

theorem requestOk_readSlot {n : Nat} {b : List Byte} {r : Request} (h : readSlot n b = .good r) : requestOk r = true := by
  simp only [readSlot] at h
  split at h
  · cases h
  · split at h
    · cases h
    · cases h
      exact requestOk_readRequest ‹_›

/-! ### The context -/

theorem contextOk_iff (c : RunningContext) :
    contextOk c = true ↔ minuteOk c.minute = true ∧
      (c.state = .none → c.route = [] ∧ c.position = none ∧ c.trip = 0) ∧
      (c.state = .active → routeOk c.route = true ∧ (∃ p, c.position = some p ∧ positionOk c.route.length p = true) ∧
        c.trip ≠ 0) := by
  simp only [contextOk, Bool.and_eq_true]
  cases hs : c.state with
  | none => cases c.position <;> simp
  | active => cases c.position <;> simp [and_assoc]

/-- The rule turns on neither the conductor, the stale flag nor the timer, and of the minute on its range alone. -/
theorem contextOk_minute {c c' : RunningContext} (h : contextOk c = true) (hm : minuteOk c'.minute = true)
    (hc : c' = { c with
      minute := c'.minute, stale := c'.stale, conductor := c'.conductor, minuteTimer := c'.minuteTimer, day := c'.day }) :
    contextOk c' = true := by
  obtain ⟨-, hnone, hactive⟩ := (contextOk_iff c).mp h
  rw [hc]
  exact (contextOk_iff _).mpr ⟨hm, hnone, hactive⟩

theorem minuteOk_of_contextOk {c : RunningContext} (h : contextOk c = true) : minuteOk c.minute = true :=
  ((contextOk_iff c).mp h).1

theorem minuteOk_minutePasses {c : RunningContext} (h : minuteOk c.minute = true) :
    minuteOk (minutePasses c).minute = true := by
  simp only [minutePasses]
  split
  · exact h
  · have hne : c.minute.toNat ≠ 2879 := fun hc => ‹¬ _› (BitVec.eq_of_toNat_eq hc)
    simp only [minuteOk, decide_eq_true_eq, show Config.lastMinute.toNat = 2879 from rfl] at h ⊢
    rw [BitVec.toNat_add]
    simp
    omega

theorem contextOk_minutePasses {c : RunningContext} (h : contextOk c = true) : contextOk (minutePasses c) = true := by
  refine contextOk_minute h (minuteOk_minutePasses (minuteOk_of_contextOk h)) ?_
  simp only [minutePasses]
  split <;> rfl

theorem stopIndex_lt {route : List Stop} {code : Half} {j : Nat} (h : stopIndex route code = some j) :
    j < route.length := by
  simp only [stopIndex] at h
  split at h
  · cases h
  · exact (List.findIdx?_eq_some_iff_getElem.mp h).1

theorem positionOk_depart {c : RunningContext} {code : Half} {p : Position} (h : depart code c = some p) :
    c.state = .active ∧ positionOk c.route.length p = true := by
  simp only [depart] at h
  split at h
  · split at h
    · obtain ⟨-, hlt⟩ := ‹_ ∧ _›
      cases h
      exact ⟨‹_›, by simpa [positionOk] using hlt⟩
    · cases h
  · cases h

theorem positionOk_arriveAt {c : RunningContext} {code : Half} {p : Position} (h : arriveAt code c = some p) :
    c.state = .active ∧ positionOk c.route.length p = true := by
  simp only [arriveAt] at h
  split at h
  · split at h
    · cases h
      exact ⟨‹_›, by simpa [positionOk] using stopIndex_lt ‹_›⟩
    · cases h
  · cases h

theorem positionOk_nextPosition {c : RunningContext} {r : PositionRequest} {p : Position} (h : nextPosition r c = some p) :
    c.state = .active ∧ positionOk c.route.length p = true := by
  simp only [nextPosition] at h
  split at h
  · exact positionOk_depart h
  · exact positionOk_arriveAt h

theorem contextOk_applyMinute {c : RunningContext} (h : contextOk c = true) {m : Option Half}
    (hm : (m.map minuteOk).getD true = true) : contextOk (applyMinute m c) = true := by
  cases m with
  | none => exact h
  | some n => exact contextOk_minute h hm rfl

theorem contextOk_positioned {c : RunningContext} (h : contextOk c = true) {r : PositionRequest}
    (hr : requestOk (.position r) = true) : contextOk (positioned r c) = true := by
  simp only [requestOk, Bool.and_eq_true] at hr
  obtain ⟨-, hm⟩ := hr
  have ha := contextOk_applyMinute h hm
  simp only [positioned]
  split
  · exact ha
  · obtain ⟨hact, hp⟩ := positionOk_nextPosition ‹_›
    have hst : (applyMinute r.minute c).state = .active ∧ (applyMinute r.minute c).route = c.route := by
      cases r.minute <;> exact ⟨hact, rfl⟩
    obtain ⟨hmin, -, hactive⟩ := (contextOk_iff _).mp ha
    obtain ⟨hroute, -, htrip⟩ := hactive hst.1
    refine (contextOk_iff _).mpr ⟨hmin, fun hn => ?_, fun _ => ⟨hroute, ⟨_, rfl, ?_⟩, htrip⟩⟩
    · rw [show (applyMinute r.minute c).state = .none from hn] at hst
      cases hst.1
    · rw [hst.2]
      exact hp

/-! ### Routes (R37 to R40) -/

theorem readStops_length (n : Nat) (b : List Byte) : (readStops n b).length = n := by
  have h : ∀ (k : Nat) (b : List Byte), (chunks 4 k b).length = k := by
    intro k
    induction k with
    | zero => exact fun _ => rfl
    | succ k ih => exact fun b => by simp [chunks, ih]
  simp [readStops, h]

/-- A list that passes checks 3 and 4, of a count that passes check 1. -/
theorem checkRoute_ok {r : RouteRequest} {stops : List Stop} {c : RunningContext} {plan : RoutePlan}
    (h : checkRoute r stops c = .ok plan) (hn : stopCountOk stops.length = true) : routeOk stops = true := by
  simp only [checkRoute] at h
  split at h
  · cases h
  · split at h
    · cases h
    · simp_all [routeOk]

theorem checkRoute_newTrip {r : RouteRequest} {stops : List Stop} {c : RunningContext}
    (h : checkRoute r stops c = .ok .newTrip) : (stopIndex stops r.start).isSome = true := by
  simp only [checkRoute, checkContinue] at h
  split at h
  · cases h
  · split at h
    · cases h
    · split at h
      · split at h
        · assumption
        · cases h
      · repeat' split at h
        all_goals cases h

theorem mapPosition_ok {stops : List Stop} {code : Half} {p q : Position} (h : mapPosition stops code p = some q) :
    positionOk stops.length q = true := by
  simp only [mapPosition] at h
  split at h
  · cases h
  · cases h
    simpa [positionOk] using stopIndex_lt ‹_›
  · split at h
    · cases h
      simpa [positionOk] using ‹_ < _›
    · cases h

theorem checkRoute_continueAt {r : RouteRequest} {stops : List Stop} {c : RunningContext} {q : Position} {k : Nat}
    (h : checkRoute r stops c = .ok (.continueAt q k)) : c.state = .active ∧ positionOk stops.length q = true := by
  simp only [checkRoute, checkContinue] at h
  repeat' split at h
  case h_2 hact _ _ _ q' hmap =>
    cases h
    exact ⟨hact, mapPosition_ok hmap⟩
  all_goals cases h

theorem contextOk_installTrip {r : RouteRequest} {stops : List Stop} (hr : requestOk (.route r) = true)
    (hs : stageOk (.route r) (.routeInstall stops) = true) (c : RunningContext) :
    contextOk (installTrip r stops c) = true := by
  simp only [requestOk, Bool.and_eq_true, bne_iff_ne] at hr
  simp only [stageOk, Bool.and_eq_true] at hs
  obtain ⟨htrip, hminute⟩ := hr
  obtain ⟨hroute, hstart⟩ := hs
  obtain ⟨j, hj⟩ := Option.isSome_iff_exists.mp hstart
  refine (contextOk_iff (installTrip r stops c)).mpr ⟨hminute, fun hn => ?_, fun _ => ⟨hroute, ⟨_, rfl, ?_⟩, htrip⟩⟩
  · cases hn
  · simpa [positionOk, installTrip, hj] using stopIndex_lt hj

theorem contextOk_installContinue {r : RouteRequest} {stops : List Stop} {q : Position} {c : RunningContext}
    (h : contextOk c = true) (hr : requestOk (.route r) = true) (hroute : routeOk stops = true) (hact : c.state = .active)
    (hq : positionOk stops.length q = true) : contextOk (installContinue r stops q c) = true := by
  simp only [requestOk, Bool.and_eq_true] at hr
  obtain ⟨-, -, hactive⟩ := (contextOk_iff c).mp h
  obtain ⟨-, -, htrip⟩ := hactive hact
  refine (contextOk_iff _).mpr ⟨hr.2, fun hn => ?_, fun _ => ⟨hroute, ⟨q, rfl, hq⟩, htrip⟩⟩
  rw [show c.state = .none from hn] at hact
  cases hact

/-! ### Every command keeps the rule -/

/-- The two halves of the rule. -/
def Ruled (s : State) : Prop := contextOk s.rcx = true ∧ ScanOk s.ssc.scan

theorem contextRule_iff (s : State) : contextRule s = true ↔ Ruled s := by
  rw [contextRule, Bool.and_eq_true, taskOk_iff, Ruled]

theorem Ruled.of_moves {s u : State} (h : Ruled s) (hc : u.rcx = s.rcx) (hm : Moves s u) : Ruled u :=
  ⟨hc ▸ h.1, ScanMoves.ok hm h.2⟩

/-- The task in hand stays with its owner at a stage whose checks it has passed. -/
theorem Ruled.of_stage {s u : State} {sc : Scan} {t : Task} {g : ServeStage} (h : Ruled s) (hr : requestOk t.req = true)
    (hg : stageOk t.req g = true) (hc : u.rcx = s.rcx) (hs : u.ssc.scan = some { sc with phase := .serving t g }) :
    Ruled u :=
  ⟨hc ▸ h.1, hs ▸ scanOk_some.mpr (by simp [phaseOk, hr, hg])⟩

/-- The task in hand completes. -/
theorem Ruled.of_phase {s u : State} {sc : Scan} {p : ScanPhase} (h : Ruled s) (hp : phaseOk p = true)
    (hc : u.rcx = s.rcx) (hs : u.ssc.scan = some { sc with phase := p }) : Ruled u :=
  ⟨hc ▸ h.1, hs ▸ scanOk_some.mpr hp⟩

/-- The task in hand completes, or stays with its owner at a stage that follows no check. -/
theorem ruled_of_owner {s u : State} {sc : Scan} {t : Task} (h : Ruled s) (hr : requestOk t.req = true)
    (hc : u.rcx = s.rcx)
    (hs : (∃ g, u.ssc.scan = some { sc with phase := .serving t g } ∧ g ≠ .routeRead ∧ ∀ l, g ≠ .routeInstall l)
      ∨ ∃ g c, u.ssc.scan = some { sc with phase := .writeAnswer g c }) : Ruled u := by
  obtain ⟨g, hs, hg, hl⟩ | ⟨g, c, hs⟩ := hs
  · exact h.of_stage hr (stageOk_of_stage hg hl _) hc hs
  · exact h.of_phase rfl hc hs

theorem askToken_scan (sc : Scan) (t : Task) (w : Asks) (a : Asking) (s : State) :
    (∃ g, (askToken sc t w a s).ssc.scan = some { sc with phase := .serving t g } ∧ g ≠ .routeRead
        ∧ ∀ l, g ≠ .routeInstall l)
      ∨ ∃ g c, (askToken sc t w a s).ssc.scan = some { sc with phase := .writeAnswer g c } := by
  simp only [askToken, decideToken]
  repeat' split
  · exact .inl ⟨_, by simp; rfl, by simp, by simp⟩
  · exact .inl ⟨_, by simp; rfl, by simp, by simp⟩
  · exact .inr ⟨_, _, rfl⟩
  · exact .inl ⟨_, by simp; rfl, by simp, by simp⟩

theorem ruled_notesDue {s : State} {sc : Scan} {t : Task} (h : Ruled s) (hr : requestOk t.req = true)
    (notes : List PeerNote) : Ruled (notesDue sc t notes s) := by
  refine ruled_of_owner (sc := sc) h hr (by simp) ?_
  simp only [notesDue, notesMerged]
  repeat' split
  · exact .inl ⟨_, rfl, by simp, by simp⟩
  · exact .inr ⟨_, _, rfl⟩
  · exact .inl ⟨_, by simp; rfl, by simp, by simp⟩

theorem ruled_exportNext {s : State} {sc : Scan} {t : Task} (h : Ruled s) (hr : requestOk t.req = true) (a : Word)
    (l : List SeenRecord) (n : Nat) (b : AnswerBody) : Ruled (exportNext sc t a l n b s) := by
  refine ruled_of_owner (sc := sc) h hr (by simp) ?_
  simp only [exportNext]
  split
  · exact .inr ⟨_, _, rfl⟩
  · exact .inl ⟨_, rfl, by simp, by simp⟩

theorem ruled_statusAsked {s : State} {sc : Scan} {t : Task} (h : Ruled s) (hr : requestOk t.req = true) (a : Word)
    (d : Int) (b : Bool) (l m : List StatusBlock) (r : StatusRecord) : Ruled (statusAsked sc t a d b l m r s) := by
  refine ruled_of_owner (sc := sc) h hr (by simp) ?_
  simp only [statusAsked]
  split
  · exact .inl ⟨_, rfl, by simp, by simp⟩
  · exact .inl ⟨_, rfl, by simp, by simp⟩

theorem ruled_cancelTaken {s : State} {sc : Scan} {g : Half} {n : Nat} (h : Ruled s) (x k : Byte) :
    Ruled (cancelTaken sc g n x k s) := by
  refine ruled_of_owner (sc := sc) (t := ⟨g, .cancel n⟩) h rfl (by simp) ?_
  simp only [cancelTaken, cancelOfHeld, cancelOfSlot]
  repeat' split
  · exact .inr ⟨_, _, rfl⟩
  · exact .inr ⟨_, _, rfl⟩
  · exact .inl ⟨_, by simp; rfl, by simp, by simp⟩
  · exact .inl ⟨_, rfl, by simp, by simp⟩
  · exact .inr ⟨_, _, rfl⟩

theorem ruled_goOn {s u : State} (h : Ruled s) (sc : Scan) (hc : u.rcx = s.rcx) : Ruled (goOn sc u) :=
  ⟨by simpa [hc] using h.1, ScanMoves.ok (goOn_moves sc u) scanOk_none⟩

theorem ruled_endScan {s u : State} (h : Ruled s) (sc : Scan) (hc : u.rcx = s.rcx) : Ruled (endScan sc u) :=
  ⟨by simpa [hc] using h.1, ScanMoves.ok (endScan_moves sc u) scanOk_none⟩

theorem takeSlot_scan (sc : Scan) (g : Half) (p : Parsed) (s : State) :
    (takeSlot sc g p s).ssc.scan = some { sc with lastTaken := some sc.index, phase := .writeTaken g p } := rfl

theorem ruled_takeSlot {s : State} (h : Ruled s) (sc : Scan) (g : Half) {p : Parsed}
    (hp : ∀ r, p = .good r → requestOk r = true) : Ruled (takeSlot sc g p s) := by
  refine ⟨by simpa using h.1, ?_⟩
  rw [takeSlot_scan, scanOk_some]
  cases p with
  | good r => exact hp r rfl
  | _ => rfl

/-! ### The answer of a bus access -/

theorem ruled_routeServed {s : State} {sc : Scan} {g : Half} {r : RouteRequest} (h : Ruled s)
    (hr : requestOk (.route r) = true) (hn : stopCountOk r.count = true) (data : List Byte) :
    Ruled (routeServed sc ⟨g, .route r⟩ r data s) := by
  have hlen : stopCountOk (readStops r.count data).length = true := by rwa [readStops_length]
  simp only [routeServed]
  split
  · exact h.of_phase rfl rfl rfl
  · refine h.of_stage (t := ⟨g, .route r⟩) hr ?_ (by simp) rfl
    simp [stageOk, checkRoute_ok ‹_› hlen, checkRoute_newTrip ‹_›]
  · obtain ⟨hact, hq⟩ := checkRoute_continueAt ‹_›
    exact ⟨contextOk_installContinue h.1 hr (checkRoute_ok ‹_› hlen) hact hq, scanOk_some.mpr rfl⟩

theorem ruled_tokenServed {s : State} {sc : Scan} {t : Task} (h : Ruled s) (hr : requestOk t.req = true)
    (r : TokenRequest) (data : List Byte) : Ruled (tokenServed sc t r data s) := by
  refine ruled_of_owner (sc := sc) h hr (by simp) ?_
  simp only [tokenServed]
  split
  · exact .inr ⟨_, _, rfl⟩
  · exact .inl ⟨_, rfl, by simp, by simp⟩

theorem ruled_keyServed {s : State} {sc : Scan} (h : Ruled s) (g : Half) (n : Nat) (b : Bool) (l : List Byte) :
    Ruled (keyServed sc g n b l s) := by
  simp only [keyServed]
  split <;> exact h.of_phase rfl rfl rfl

theorem ruled_servingGoesOn {s : State} {sc : Scan} {t : Task} {g : ServeStage} (h : Ruled s) (hi : Serving sc t g s)
    (data : List Byte) : Ruled (servingGoesOn sc t g data s) := by
  obtain ⟨hr, hg⟩ := stageOk_of_serving h.2 hi
  obtain ⟨tag, req⟩ := t
  simp only [servingGoesOn]
  split
  case h_1 => exact ruled_tokenServed h hr _ _
  case h_2 r hreq =>
    cases hreq
    exact ruled_routeServed h hr hg data
  case h_5 =>
    simp only [notesServed]
    split
    · exact h.of_phase rfl rfl rfl
    · exact ruled_notesDue h hr _
  case h_6 => exact ruled_exportNext h hr _ _ _ _
  case h_8 => exact ruled_keyServed h _ _ _ _
  case h_9 => exact ruled_of_owner h hr rfl (.inl ⟨_, rfl, by simp, by simp⟩)
  case h_10 => exact ruled_of_owner h hr rfl (.inl ⟨_, rfl, by simp, by simp⟩)
  case h_11 => exact ruled_of_owner h hr rfl (.inl ⟨_, rfl, by simp, by simp⟩)
  case h_13 => exact h
  all_goals exact h.of_phase rfl rfl rfl

theorem contextOk_enterPower {s : State} (h : contextOk s.rcx = true) (c : PowerChange) :
    contextOk (enterPower c s).rcx = true := by
  simp only [enterPower]
  split
  · simpa using h
  · exact contextOk_minute h (by simpa [enterSleep] using minuteOk_of_contextOk h) (by simp [enterSleep])
  all_goals exact h

theorem ruled_powerDone {s : State} (h : Ruled s) (sc : Scan) (c : PowerChange) : Ruled (powerDone sc c s) := by
  simp only [powerDone, endScanInto]
  split
  · split
    · have hp : ∀ u : State, u.rcx = s.rcx → u.ssc.scan = none → Ruled (enterPower c u) := fun u hu hn =>
        ⟨contextOk_enterPower (hu ▸ h.1) c, by
          have hs : (enterPower c u).ssc.scan = u.ssc.scan := by simp
          rw [hs, hn]
          exact scanOk_none⟩
      split
      · exact (hp _ (by simp) rfl).of_moves (by simp) (nudge_moves _)
      · exact hp _ (by simp) rfl
    · exact ruled_goOn h sc rfl
  · exact ⟨by simpa using contextOk_enterPower h.1 c, ScanMoves.ok (goOn_moves sc _) scanOk_none⟩

theorem ruled_scanGoesOn {s : State} {sc : Scan} (h : Ruled s) (hs : s.ssc.scan = some sc) (data : List Byte) :
    Ruled (scanGoesOn sc data s) := by
  simp only [scanGoesOn]
  split
  · simp only [stateRead]
    repeat' split
    · exact ruled_goOn h sc rfl
    · exact h.of_phase rfl rfl rfl
    · exact ruled_endScan h _ rfl
  · simp only [headRead]
    repeat' split
    · exact ruled_endScan h _ rfl
    · exact ruled_takeSlot h sc _ (by simp)
    · exact h.of_phase rfl rfl rfl
  · simp only [requestRead]
    repeat' split
    · exact ruled_endScan h _ rfl
    · exact ruled_goOn h _ rfl
    · exact ruled_takeSlot h sc _ fun r hr => requestOk_readSlot hr
  · simp only [slotTakenWritten]
    split
    · exact h.of_phase rfl rfl rfl
    · exact h.of_phase rfl rfl rfl
    · have hok := h.2 sc hs
      simp only [‹sc.phase = _›, phaseOk] at hok
      exact ⟨h.1, scanOk_some.mpr hok⟩
  · exact h
  · exact ruled_servingGoesOn h ⟨hs, ‹_›⟩ data
  · simp only [answerWritten]
    split <;> exact h.of_phase rfl rfl rfl
  · simp only [doneWritten]
    split
    · exact ruled_goOn h sc (by simp)
    · exact ruled_powerDone (s := raiseEvent evTaskDone s) h sc _

theorem contextOk_handSetup {s : State} (h : contextOk s.rcx = true) (b : Setup) :
    contextOk (handSetup b s).rcx = true := contextOk_minute h (minuteOk_of_contextOk h) rfl

theorem ruled_startUpGoesOn {s : State} (h : Ruled s) (p : StartPhase) (data : List Byte) :
    Ruled (startUpGoesOn p data s) := by
  refine ⟨?_, ScanMoves.ok (startUpGoesOn_moves p data s) h.2⟩
  simp only [startUpGoesOn, checkSetup]
  repeat' split
  case h_2 b _ => simpa using contextOk_handSetup h.1 b
  all_goals simpa using h.1

theorem scanOk_cardGoesOn {s : State} (h : ScanOk s.ssc.scan) (n : Nat) : ScanOk (cardGoesOn n s).ssc.scan := by
  simp only [cardGoesOn]
  repeat' split
  · exact h
  · exact h
  · refine ScanMoves.ok (cancelServed_moves n _) (ScanMoves.ok (leaveHold_moves n _) ?_)
    exact h
  all_goals exact h

theorem ruled_resume {s : State} (h : Ruled s) (c : Client) (data : List Byte) : Ruled (resume c data s) := by
  simp only [resume]
  split
  · exact ruled_startUpGoesOn h _ _
  · exact h
  · exact ruled_scanGoesOn h ‹_› _
  · exact h
  · exact ⟨by simpa using h.1, scanOk_cardGoesOn h.2 _⟩
  · exact h.of_moves (by simp) (journalGoesOn_moves data s)

theorem ruled_reset (d : Int) (s : State) : Ruled (resetPart d s) := by
  constructor
  · rw [show (resetPart d s).rcx = {} by simp [resetPart, State.reset]]
    rfl
  · rw [show (resetPart d s).ssc.scan = none by simp [resetPart, State.reset]]
    exact scanOk_none

theorem ruled_direct {s t : State} (h : Ruled s) (hd : Direct s t) : Ruled t := by
  cases hd
  case reset d => exact ruled_reset d s
  case fault => exact ⟨by simpa using h.1, scanOk_none⟩
  case minute => exact ⟨contextOk_minutePasses h.1, h.2⟩
  all_goals exact h.of_moves (by simp) (.of_eq (by simp))

theorem ruled_wakeFromSleep {s : State} (h : Ruled s) : Ruled (wakeFromSleep s) :=
  ⟨contextOk_minute h.1 (minuteOk_of_contextOk h.1) (by simp [wakeFromSleep]), by simpa using h.2⟩

theorem ruled_settles {s u : State} (h : Ruled s) (hu : Settles s u) : Ruled u := by
  cases hu
  case start hr => exact h.of_moves (by simp) (.of_eq (by simp [startPart]; split <;> rfl))
  case halt hr => exact h.of_moves (by simp) (.of_eq (haltRunning_scan s))
  case nudge hr => exact h.of_moves (by simp) (nudge_moves s)
  case answered a data hf ha => exact ruled_resume (s := { s with mpt := freeBus s }) h a.client data
  case poll ha hn => exact h.of_moves (by simp) (beginScan_moves s)
  case wakeTimer n _ _ _ => exact h.of_moves (by simp) (wakeExpires_moves n s)
  case sense => exact h.of_moves (by simp) (turnOn_moves .sense s)
  case pulseEnd m hh =>
    refine h.of_moves (by simp) ((afterPulse_moves _).after ?_ (Slots.heldSlots_congr (by simp)))
    simp only [senseMeasured, wakeByCard]
    repeat' split
    all_goals simp
  case checkEnd use carried d hu =>
    exact h.of_moves (by simp) ((passiveEnds_moves use carried _).after (by simp) (Slots.heldSlots_congr (by simp)))
  case wakeToScan => exact (ruled_wakeFromSleep h).of_moves (by simp) (nudgeAwake_moves _)
  case wakeToHalt => exact (ruled_wakeFromSleep h).of_moves (by simp) (.of_eq (enterHalting_scan _))
  case antennaLost => exact h.of_moves (by simp) (antennaLost_moves s)
  case overcurrent => exact h.of_moves (by simp) (overcurrent_moves s)
  case dieMoves d => exact h.of_moves (by simp) (dieMoves_moves d s)
  case cardInspect sc g r hi => exact ruled_goOn h sc (by simp)
  case tokenAsk sc t a w hi =>
    exact ruled_of_owner h (stageOk_of_serving h.2 hi).1 (by simp) (askToken_scan sc t w a s)
  case route sc g r hi =>
    have hr := requestOk_of_inHand h.2 hi
    simp only [routeTaken]
    split
    · exact h.of_stage (t := ⟨g, .route r⟩) hr ‹_› rfl rfl
    · exact h.of_phase rfl rfl rfl
  case routeInstall sc g r stops hi =>
    obtain ⟨hr, hg⟩ := stageOk_of_serving h.2 hi
    exact ⟨contextOk_installTrip hr hg s.rcx, scanOk_some.mpr rfl⟩
  case position sc g r hi =>
    exact ⟨contextOk_positioned h.1 (requestOk_of_inHand h.2 hi), scanOk_some.mpr rfl⟩
  case notesWait sc t notes hi => exact ruled_notesDue h (stageOk_of_serving h.2 hi).1 notes
  case seenExport sc g after capacity address hi => exact ruled_exportNext h rfl _ _ _ _
  case fieldTest sc g d hi =>
    refine ruled_of_owner (sc := sc) (t := ⟨g, .fieldTest⟩) h rfl (by simp) ?_
    simp only [fieldTested]
    repeat' split
    · exact .inr ⟨_, _, rfl⟩
    · exact .inr ⟨_, _, rfl⟩
    · exact .inl ⟨_, rfl, by simp, by simp⟩
  case cancel sc g n x k hi => exact ruled_cancelTaken h x k
  case status sc g address d high asks hi => exact ruled_statusAsked h rfl _ _ _ _ _ _
  case statusAsk sc g address left r d high asks hi => exact ruled_statusAsked h rfl _ _ _ _ _ _
  case journalClaim mark j rest ring _ _ _ _ => exact h.of_moves (by simp) (serveClaim_moves j mark ring s)
  case tokenRead sc g r hi => exact h.of_stage (t := ⟨g, .tokenInspect r⟩) rfl rfl rfl rfl
  case replaceRead sc g r hi => exact h.of_stage (t := ⟨g, .denyReplace r⟩) rfl rfl rfl rfl
  case deltaRead sc g r hi => exact h.of_stage (t := ⟨g, .denyDelta r⟩) rfl rfl rfl rfl
  case notesRead sc g n address hi => exact h.of_stage (t := ⟨g, .peerNotes n address⟩) rfl rfl rfl rfl
  case keyLoad sc g n replace address hi => exact h.of_stage (t := ⟨g, .keyLoad n replace address⟩) rfl rfl rfl rfl
  case identify sc g address hi => exact h.of_stage (t := ⟨g, .identify address⟩) rfl rfl rfl rfl
  case replaceEmpty | deltaEmpty | prune | powerBusy | power | keyClear => exact h.of_phase rfl rfl rfl
  all_goals exact h.of_moves (by simp) (.of_eq (by simp))

/-- Settles O58: a change of the context is made by a task that has passed its checks, and the scan moves on without undoing
one. -/
theorem contextStaysWellFormed : Obligations.ContextStaysWellFormed := by
  unfold Obligations.ContextStaysWellFormed
  intro s t h hs
  rw [contextRule_iff] at *
  exact step_keeps (P := Ruled) hs h (fun _ h => h) (fun _ _ h hd => ruled_direct h hd)
    (fun _ u h hu => by
      have hr := ruled_settles h hu
      exact ⟨by simpa using hr.1, by simpa using hr.2⟩)

end Sys2Proof.Proofs.ContextRule
end

section
/-! SUPPORT. How many records of the Seen Table are pinned (R47, R55), and how many the table holds (R49, R50): what its
insertions, replacements and events do to both. -/

namespace Sys2Proof.Proofs.Pins

open Sys2Proof Sys2Proof.Machine Sys2Proof.Proofs.SeenRule

/-- 1 for a pinned record. -/
def pinOf (r : SeenRecord) : Nat := bit (r.stamp == .uncertain)

/-- 1 for an update that pins a record when it arrives. -/
def pinsOf (u : SeenUpdate) : Nat :=
  match u.outcome with
  | .uncertain _ _ => 1
  | .landed _ | .token | .stampFailed _ | .refused => 0

theorem pinOf_le (r : SeenRecord) : pinOf r ≤ 1 := by
  unfold pinOf bit
  split <;> decide

theorem countP_singleton_pin (r : SeenRecord) : [r].countP (fun r => r.stamp == .uncertain) = pinOf r := by
  unfold pinOf bit
  split <;> simp_all

theorem pinsInTransit_cons {t : SeenTable} {u : SeenUpdate} {rest : List SeenUpdate} (h : t.updates = u :: rest) :
    pinsInTransit t = pinsInTransit { t with updates := rest } + pinsOf u := by
  simp only [pinsInTransit, h, List.countP_cons, pinsOf]
  cases u.outcome <;> simp

theorem pinsInTransit_concat (t : SeenTable) (u : SeenUpdate) :
    pinsInTransit { t with updates := t.updates ++ [u] } = pinsInTransit t + pinsOf u := by
  simp only [pinsInTransit, List.countP_append, pinsOf]
  cases hu : u.outcome <;> simp [hu]

/-! ### Insertions -/

/-- An eviction never takes a pinned record. -/
theorem countP_evictFirst (l : List SeenRecord) :
    (evictFirst l).countP (fun r => r.stamp == .uncertain) = l.countP fun r => r.stamp == .uncertain := by
  induction l with
  | nil => rfl
  | cons r rs ih =>
    simp only [evictFirst]
    split
    · simp [List.countP_cons, ih]
    · simp [‹¬ _›]

/-- An eviction takes one record where one is not pinned. -/
theorem length_evictFirst {l : List SeenRecord} (h : l.countP (fun r => r.stamp == .uncertain) < l.length) :
    (evictFirst l).length + 1 = l.length := by
  induction l with
  | nil => simp at h
  | cons r rs ih =>
    simp only [evictFirst]
    split
    · have hlt : rs.countP (fun r => r.stamp == .uncertain) < rs.length := by
        simpa [List.countP_cons, ‹r.stamp = .uncertain›] using h
      simp [ih hlt]
    · simp

theorem pinCount_makeRoom (t : SeenTable) : pinCount (makeRoom t) = pinCount t := by
  simp only [makeRoom]
  split
  · rfl
  · exact countP_evictFirst t.records

theorem pinCount_insertSeen (r : SeenRecord) (t : SeenTable) : pinCount (insertSeen r t) ≤ pinCount t + pinOf r := by
  simp only [insertSeen]
  split
  · exact Nat.le_add_right _ _
  · rw [← pinCount_makeRoom t]
    simp only [pinCount, List.countP_append]
    exact Nat.le_of_eq (congrArg _ (countP_singleton_pin _))

theorem length_insertSeen (r : SeenRecord) {t : SeenTable} (hp : pinCount t ≤ Config.pinned)
    (hl : t.records.length ≤ Config.seenRecords) : (insertSeen r t).records.length ≤ Config.seenRecords := by
  simp only [insertSeen]
  split
  · exact hl
  · simp only [makeRoom]
    split
    · simpa using ‹_ < _›
    · have hfull : t.records.countP (fun r => r.stamp == .uncertain) < t.records.length := by
        have h32 : Config.pinned < Config.seenRecords := by decide
        have hc : t.records.countP (fun r => r.stamp == .uncertain) ≤ Config.pinned := hp
        omega
      have := length_evictFirst hfull
      simp only [List.length_append, List.length_singleton]
      omega

@[simp] theorem insertSeen_updates (r : SeenRecord) (t : SeenTable) : (insertSeen r t).updates = t.updates := by
  simp only [insertSeen, makeRoom]
  repeat' split
  all_goals rfl

/-! ### Replacements -/

theorem countP_replace {l : List SeenRecord} {r r' : SeenRecord} (hn : (l.map SeenRecord.cred).Nodup) (hr : r ∈ l)
    (hc : r'.cred = r.cred) :
    (l.map fun x => if x.cred = r'.cred then r' else x).countP (fun r => r.stamp == .uncertain) + pinOf r =
      l.countP (fun r => r.stamp == .uncertain) + pinOf r' := by
  induction l with
  | nil => simp at hr
  | cons x xs ih =>
    obtain ⟨hx, hxs⟩ := List.nodup_cons.mp hn
    rw [List.map_cons, List.countP_cons, List.countP_cons]
    obtain rfl | hm := List.mem_cons.mp hr
    · have hrest : (xs.map fun x => if x.cred = r'.cred then r' else x) = xs := by
        refine (List.map_congr_left fun y hy => ?_).trans (List.map_id xs)
        rw [if_neg]
        · rfl
        · exact fun he => hx (List.mem_map.mpr ⟨y, hy, he.trans hc⟩)
      rw [hrest, if_pos hc.symm]
      simp only [pinOf, bit]
      omega
    · have hne : x.cred ≠ r'.cred := fun he => hx (List.mem_map.mpr ⟨r, hm, (he.trans hc).symm⟩)
      rw [if_neg hne]
      have := ih hxs hm
      omega

theorem pinCount_replaceSeen {t : SeenTable} {r r' : SeenRecord} (h : seenRule t) (hr : r ∈ t.records)
    (hc : r'.cred = r.cred) : pinCount (replaceSeen r' t) + pinOf r = pinCount t + pinOf r' :=
  countP_replace h.1 hr hc

theorem length_replaceSeen (r : SeenRecord) (t : SeenTable) : (replaceSeen r t).records.length = t.records.length := by
  simp [replaceSeen]

/-! ### The table's events -/

/-- A table within its bounds: the rule of its records, its capacity, and no more than 32 records pinned. -/
structure Roomy (t : SeenTable) : Prop where
  seen : seenRule t
  fits : t.records.length ≤ Config.seenRecords
  pinned : pinCount t ≤ Config.pinned

theorem pinOf_meetAgain (stop : Half) (r : SeenRecord) : pinOf (meetAgain stop r) = pinOf r := rfl

theorem pinOf_applyOutcome (u : SeenUpdate) (r : SeenRecord) : pinOf (applyOutcome u.outcome r) ≤ pinOf r + pinsOf u := by
  unfold pinsOf
  cases u.outcome <;> simp [applyOutcome, pinOf, bit]

theorem applyUpdate_roomy {t : SeenTable} (h : Roomy t) (u : SeenUpdate) :
    pinCount (applyUpdate u t).1 ≤ pinCount t + pinsOf u ∧
      (applyUpdate u t).1.records.length ≤ Config.seenRecords := by
  simp only [applyUpdate]
  split
  · have hi := pinCount_insertSeen (applyOutcome u.outcome (freshRecord u.cred (outcomeVerdict u.outcome) u.ctx)) t
    have ho := pinOf_applyOutcome u (freshRecord u.cred (outcomeVerdict u.outcome) u.ctx)
    have hf : pinOf (freshRecord u.cred (outcomeVerdict u.outcome) u.ctx) = 0 := rfl
    exact ⟨hi.trans (by omega), length_insertSeen _ h.pinned h.fits⟩
  case h_2 r hr =>
    obtain ⟨hm, -⟩ := mem_of_findSeen hr
    have hp := pinCount_replaceSeen (r' := applyOutcome u.outcome (meetAgain u.ctx.stop r)) h.seen hm (by simp [meetAgain])
    have ho := pinOf_applyOutcome u (meetAgain u.ctx.stop r)
    rw [pinOf_meetAgain] at ho
    have hpin : pinCount (replaceSeen (applyOutcome u.outcome (meetAgain u.ctx.stop r)) t) ≤ pinCount t + pinsOf u := by
      omega
    exact ⟨hpin, by rw [length_replaceSeen]; exact h.fits⟩

theorem noteInspection_roomy {t : SeenTable} (h : Roomy t) (c : Cred) (v : Verdict) (ctx : ContextAnswer) :
    pinCount (noteInspection c v ctx t) ≤ pinCount t ∧
      (noteInspection c v ctx t).records.length ≤ Config.seenRecords ∧
      (noteInspection c v ctx t).updates = t.updates := by
  simp only [noteInspection]
  split
  · exact ⟨pinCount_insertSeen _ t, length_insertSeen _ h.pinned h.fits, insertSeen_updates _ t⟩
  case h_2 r hr =>
    obtain ⟨hm, -⟩ := mem_of_findSeen hr
    have hp := pinCount_replaceSeen (r' := meetAgain ctx.stop r) h.seen hm rfl
    rw [pinOf_meetAgain] at hp
    exact ⟨by omega, by rw [length_replaceSeen]; exact h.fits, rfl⟩

theorem pinOf_resolvedRecord (o : Resolution) (r : SeenRecord) : pinOf (resolvedRecord o r) = 0 := by cases o <;> rfl

theorem consult_roomy {t : SeenTable} (h : Roomy t) (q : Inspection) (ctx : ContextAnswer) :
    pinCount (consult q ctx t).1 ≤ pinCount t ∧ (consult q ctx t).1.records.length ≤ Config.seenRecords ∧
      (consult q ctx t).1.updates = t.updates := by
  have hresolve : ∀ t' jobs, resolve q.cred q.stamp ctx t = some (t', jobs) →
      pinCount t' ≤ pinCount t ∧ t'.records.length ≤ Config.seenRecords ∧ t'.updates = t.updates := by
    intro t' jobs hr
    simp only [resolve] at hr
    split at hr
    · cases hr
    case h_2 r hf =>
      obtain ⟨hm, -⟩ := mem_of_findSeen hf
      split at hr
      · cases hr
        have hp := pinCount_replaceSeen (r' := resolvedRecord (resolutionOf q.stamp r.pendingSequence) r) h.seen hm (by simp)
        rw [pinOf_resolvedRecord] at hp
        exact ⟨by omega, by rw [length_replaceSeen]; exact h.fits, rfl⟩
      · cases hr
  simp only [consult]
  split
  · exact ⟨Nat.le_refl _, h.fits, rfl⟩
  case h_2 t' jobs heq =>
    split at heq
    · exact hresolve t' jobs heq
    · cases heq

theorem pinOf_meetNote (n : PeerNote) (r : SeenRecord) : pinOf (meetNote n r) = pinOf r := by
  simp only [meetNote]
  split <;> rfl

theorem mergeNote_roomy {m : Merge} (h : Roomy m.table) (c : RunningContext) (n : PeerNote) :
    Roomy (mergeNote c n m).table ∧ pinCount (mergeNote c n m).table ≤ pinCount m.table ∧
      (mergeNote c n m).table.updates = m.table.updates := by
  have hall : pinCount (mergeNote c n m).table ≤ pinCount m.table ∧
      (mergeNote c n m).table.records.length ≤ Config.seenRecords ∧
      (mergeNote c n m).table.updates = m.table.updates := by
    simp only [mergeNote]
    split
    · exact ⟨Nat.le_refl _, h.fits, rfl⟩
    · split
      · split
        · exact ⟨Nat.le_refl _, h.fits, rfl⟩
        · exact ⟨pinCount_insertSeen _ _, length_insertSeen _ h.pinned h.fits, insertSeen_updates _ _⟩
      case h_2 r hr =>
        obtain ⟨hm, -⟩ := mem_of_findSeen hr
        have hp := pinCount_replaceSeen (r' := meetNote n r) h.seen hm (by simp)
        rw [pinOf_meetNote] at hp
        have hl := length_replaceSeen (meetNote n r) m.table
        split
        · exact ⟨by simpa using Nat.le_of_eq (Nat.add_right_cancel hp), by simpa [hl] using h.fits, rfl⟩
        · exact ⟨by simpa using Nat.le_of_eq (Nat.add_right_cancel hp), by simpa [hl] using h.fits, rfl⟩
  obtain ⟨hp, hl, hu⟩ := hall
  exact ⟨⟨seenRule_mergeNote h.seen c n, hl, hp.trans h.pinned⟩, hp, hu⟩

theorem mergeNotes_roomy {t : SeenTable} (h : Roomy t) (c : RunningContext) (notes : List PeerNote) :
    Roomy (mergeNotes c notes t).table ∧ pinCount (mergeNotes c notes t).table ≤ pinCount t ∧
      (mergeNotes c notes t).table.updates = t.updates := by
  induction notes using List.reverseRecOn with
  | nil => exact ⟨h, Nat.le_refl _, rfl⟩
  | append_singleton notes n ih =>
    obtain ⟨hr, hp, hu⟩ := ih
    obtain ⟨hr', hp', hu'⟩ := mergeNote_roomy hr c n
    rw [show mergeNotes c (notes ++ [n]) t = mergeNote c n (mergeNotes c notes t) by simp [mergeNotes]]
    exact ⟨hr', hp'.trans hp, hu'.trans hu⟩

/-! ### Deliveries -/

/-- The pins of the table and of the updates on their way to it. -/
def owedPins (t : SeenTable) : Nat := pinCount t + pinsInTransit t

theorem owedPins_congr {t t' : SeenTable} (hr : t'.records = t.records) (hu : t'.updates = t.updates) :
    owedPins t' = owedPins t := by
  simp only [owedPins, pinCount, pinsInTransit, hr, hu]

/-- Work of the table that makes no pin, with no update sent or delivered. -/
theorem owedPins_le {t t' : SeenTable} (hp : pinCount t' ≤ pinCount t) (hu : t'.updates = t.updates) :
    owedPins t' ≤ owedPins t := by
  simp only [owedPins, pinsInTransit, hu]
  exact Nat.add_le_add_right hp _

/-- An update that arrives pins what it would have pinned. -/
theorem deliverUpdate_owedPins {s : State} (hs : seenRule s.snt) (hl : s.snt.records.length ≤ Config.seenRecords)
    (hp : owedPins s.snt ≤ Config.pinned) :
    owedPins (deliverUpdate s).snt ≤ owedPins s.snt ∧ (deliverUpdate s).snt.records.length ≤ Config.seenRecords := by
  simp only [deliverUpdate]
  split
  · exact ⟨Nat.le_refl _, hl⟩
  case h_2 u rest hu =>
    have hroomy : Roomy s.snt := ⟨hs, hl, (Nat.le_add_right _ _).trans hp⟩
    obtain ⟨hpin, hlen⟩ := applyUpdate_roomy hroomy u
    have hcons := pinsInTransit_cons hu
    refine ⟨?_, by simpa using hlen⟩
    rw [owedPins_congr (t := { (applyUpdate u s.snt).1 with updates := rest }) (by simp) (by simp)]
    calc owedPins { (applyUpdate u s.snt).1 with updates := rest }
        = pinCount (applyUpdate u s.snt).1 + pinsInTransit { s.snt with updates := rest } := rfl
      _ ≤ pinCount s.snt + pinsOf u + pinsInTransit { s.snt with updates := rest } := Nat.add_le_add_right hpin _
      _ = pinCount s.snt + pinsInTransit s.snt := by rw [hcons, Nat.add_assoc, Nat.add_comm (pinsOf u)]

theorem deliverSome_owedPins {s : State} (hs : seenRule s.snt) (hl : s.snt.records.length ≤ Config.seenRecords)
    (hp : owedPins s.snt ≤ Config.pinned) (n : Nat) :
    owedPins (deliverSome n s).snt ≤ owedPins s.snt ∧ (deliverSome n s).snt.records.length ≤ Config.seenRecords := by
  induction n generalizing s with
  | zero => exact ⟨Nat.le_refl _, hl⟩
  | succ n ih =>
    obtain ⟨hp', hl'⟩ := deliverUpdate_owedPins hs hl hp
    obtain ⟨hp'', hl''⟩ := ih (seenRule_deliverUpdate hs) hl' (hp'.trans hp)
    exact ⟨hp''.trans hp', hl''⟩

theorem deliverUpdates_owedPins {s : State} (hs : seenRule s.snt) (hl : s.snt.records.length ≤ Config.seenRecords)
    (hp : owedPins s.snt ≤ Config.pinned) :
    owedPins (deliverUpdates s).snt ≤ owedPins s.snt ∧ (deliverUpdates s).snt.records.length ≤ Config.seenRecords :=
  deliverSome_owedPins hs hl hp _

end Sys2Proof.Proofs.Pins
end

section
/-! SUPPORT. The sessions of the card hold and the pins they may come to make (R47, R55, R88, R97): only the head goes beyond
WAITING FIELD, and the records pinned, those about to be, and the one the head may yet pin, stay within 32. -/

namespace Sys2Proof.Proofs.Bounds

open Sys2Proof Sys2Proof.Machine Sys2Proof.Proofs.SeenRule Sys2Proof.Proofs.Pins Sys2Proof.Proofs.Slots

/-- The hold with the session of a slot set. -/
abbrev holdWith (i : Nat) (x : Session) (l : List HeldTask) : List HeldTask :=
  l.map fun t => if t.slot = i then { t with session := x } else t

/-- The held tasks and the Seen Table, within their bounds. -/
structure Bounded (l : List HeldTask) (t : SeenTable) : Prop where
  slots : (l.map HeldTask.slot).Nodup
  tail : ∀ x ∈ l.tail, waitsOrCloses x.session = true
  seen : seenRule t
  fits : t.records.length ≤ Config.seenRecords
  pins : owedPins t + bit (l.any fun x => mayStamp x.session) ≤ Config.pinned

theorem mayStamp_of_waitsOrCloses {x : Session} (h : waitsOrCloses x = true) : mayStamp x = false := by
  cases x with
  | waitingField | closing _ _ _ => rfl
  | presence | reading | asking _ | deciding _ _ _ | stamping _ _ _ => cases h

theorem bit_mono {a b : Bool} (h : a = true → b = true) : bit a ≤ bit b := by
  cases a with
  | false => exact Nat.zero_le _
  | true => rw [h rfl]

theorem any_mayStamp {t : HeldTask} {rest : List HeldTask} (h : ∀ x ∈ rest, waitsOrCloses x.session = true) :
    ((t :: rest).any fun x => mayStamp x.session) = mayStamp t.session := by
  rw [List.any_cons, List.any_eq_false.mpr, Bool.or_false]
  exact fun x hx => by simp [mayStamp_of_waitsOrCloses (h x hx)]

theorem holdWith_head {t : HeldTask} {rest : List HeldTask} (x : Session) (hn : ((t :: rest).map HeldTask.slot).Nodup) :
    holdWith t.slot x (t :: rest) = { t with session := x } :: rest := by
  have h : holdWith t.slot x rest = rest := by
    refine (List.map_congr_left fun a ha => ?_).trans (List.map_id rest)
    rw [if_neg]
    · rfl
    · exact fun hs => (List.nodup_cons.mp hn).1 (List.mem_map.mpr ⟨a, ha, hs⟩)
  simpa [holdWith] using h

namespace Bounded

variable {l : List HeldTask} {t : SeenTable}

theorem owed (h : Bounded l t) : owedPins t ≤ Config.pinned := (Nat.le_add_right _ _).trans h.pins

/-- Work of the table that owes no further pin. -/
theorem table (h : Bounded l t) {t' : SeenTable} (hs : seenRule t') (hf : t'.records.length ≤ Config.seenRecords)
    (hp : owedPins t' ≤ owedPins t) : Bounded l t' :=
  ⟨h.slots, h.tail, hs, hf, (Nat.add_le_add_right hp _).trans h.pins⟩

/-- A session, of the head or another, that closes, or waits. -/
theorem closes (h : Bounded l t) (i : Nat) {x : Session} (hx : waitsOrCloses x = true) : Bounded (holdWith i x l) t where
  slots := by simpa using h.slots
  tail := by
    rw [← List.map_tail]
    intro y hy
    obtain ⟨z, hz, rfl⟩ := List.mem_map.mp hy
    split
    · exact hx
    · exact h.tail z hz
  seen := h.seen
  fits := h.fits
  pins := by
    refine (Nat.add_le_add_left (bit_mono fun ha => ?_) _).trans h.pins
    obtain ⟨y, hy, hm⟩ := List.any_eq_true.mp ha
    obtain ⟨z, hz, rfl⟩ := List.mem_map.mp hy
    split at hm
    · rw [mayStamp_of_waitsOrCloses hx] at hm
      cases hm
    · exact List.any_eq_true.mpr ⟨z, hz, hm⟩

/-- The head's session goes on: what it may pin was room kept for it before, or there is room now. -/
theorem heads {x : HeldTask} {rest : List HeldTask} (h : Bounded (x :: rest) t) {t' : SeenTable} {y : Session}
    (hs : seenRule t') (hf : t'.records.length ≤ Config.seenRecords)
    (hp : owedPins t' + bit (mayStamp y) ≤ Config.pinned) : Bounded (holdWith x.slot y (x :: rest)) t' := by
  rw [holdWith_head y h.slots]
  exact ⟨h.slots, h.tail, hs, hf, by rw [any_mayStamp (rest := rest) h.tail]; exact hp⟩

theorem headPins {x : HeldTask} {rest : List HeldTask} (h : Bounded (x :: rest) t) :
    owedPins t + bit (mayStamp x.session) ≤ Config.pinned := by
  have hp := h.pins
  rwa [any_mayStamp (rest := rest) h.tail] at hp

/-- The head's session goes on, and may pin no more than before. -/
theorem headGoesOn {x : HeldTask} {rest : List HeldTask} (h : Bounded (x :: rest) t) {y : Session}
    (hm : mayStamp y = true → mayStamp x.session = true) : Bounded (holdWith x.slot y (x :: rest)) t :=
  h.heads h.seen h.fits ((Nat.add_le_add_left (bit_mono hm) _).trans h.headPins)

end Bounded

/-- The bounds of a state. -/
abbrev Fine (s : State) : Prop := Bounded s.clk.hold s.snt

theorem Fine.of_eq {s u : State} (h : Fine s) (hh : u.clk.hold = s.clk.hold) (ht : u.snt = s.snt) : Fine u := by
  unfold Fine
  rw [hh, ht]
  exact h

theorem owedPins_sendUpdate (u : SeenUpdate) (s : State) :
    owedPins (sendUpdate u s).snt = owedPins s.snt + pinsOf u := by
  have h := pinsInTransit_concat s.snt u
  calc owedPins (sendUpdate u s).snt
      = pinCount s.snt + pinsInTransit { s.snt with updates := s.snt.updates ++ [u] } := rfl
    _ = owedPins s.snt + pinsOf u := by rw [h, owedPins, Nat.add_assoc]

theorem pinsOf_le (u : SeenUpdate) : pinsOf u ≤ 1 := by
  unfold pinsOf
  split <;> decide

theorem Fine.sends {s : State} (h : Fine s) {u : SeenUpdate} (hu : pinsOf u = 0) : Fine (sendUpdate u s) :=
  h.table h.seen h.fits (by rw [owedPins_sendUpdate, hu, Nat.add_zero])

/-! ### Sessions that close -/

theorem handOver_fine_of {s : State} {t : HeldTask}
    (h : ∀ x, waitsOrCloses x = true → Bounded (holdWith t.slot x s.clk.hold) s.snt) (e : SessionEnd) :
    Fine (handOver t e s) := by
  have hc := h (.closing e {} .writeAnswer) rfl
  simpa [Fine, handOver] using hc

theorem closeHead_fine_of {s : State} {t : HeldTask}
    (h : ∀ x, waitsOrCloses x = true → Bounded (holdWith t.slot x s.clk.hold) s.snt) (e : SessionEnd) (o : Owed) :
    Fine (closeHead t e o s) := by
  simp only [closeHead]
  split
  · exact handOver_fine_of (by simpa using h) e
  · have hc := h (.closing e o .awaitJournal) rfl
    simpa [Fine] using hc

theorem handOver_fine {s : State} (h : Fine s) (t : HeldTask) (e : SessionEnd) : Fine (handOver t e s) :=
  handOver_fine_of (fun _ hx => h.closes t.slot hx) e

theorem closeHead_fine {s : State} (h : Fine s) (t : HeldTask) (e : SessionEnd) (o : Owed) : Fine (closeHead t e o s) :=
  closeHead_fine_of (fun _ hx => h.closes t.slot hx) e o

theorem endAsking_fine {s : State} (h : Fine s) (t : HeldTask) (c : Completion) : Fine (endAsking t c s) :=
  closeHead_fine (h.of_eq (by simp) (by simp)) t _ _

theorem endDeciding_fine {s : State} (h : Fine s) (t : HeldTask) (p : RidePlan) (c : Completion) (v : VoidCause) :
    Fine (endDeciding t p c v s) := closeHead_fine (h.of_eq (by simp) (by simp)) t _ _

/-- R101: the head's stamp is settled: room was kept for the record its update may pin. -/
theorem settleStamp_fine {s : State} {t : HeldTask} {rest : List HeldTask} (h : Fine s) (hh : s.clk.hold = t :: rest)
    (ht : mayStamp t.session = true) (d : Draft) (p : RidePlan) (o : StampOutcome) : Fine (settleStamp t d p o s) := by
  simp only [settleStamp]
  split
  · exact h
  case h_2 ps _ =>
    have hb : Bounded (t :: rest) s.snt := hh ▸ h
    have hroom := hb.headPins
    rw [ht] at hroom
    have hpin := pinsOf_le (outcomeUpdate o p ps)
    refine closeHead_fine_of (fun x hx => ?_) _ _
    simp only [arrive_keeps, sendUpdate_clk, hh]
    refine hb.heads h.seen h.fits ?_
    rw [owedPins_sendUpdate, mayStamp_of_waitsOrCloses hx]
    exact (Nat.add_le_add_left hpin _).trans hroom

/-- The head's session goes on. -/
theorem setHead_fine {s : State} {t : HeldTask} {rest : List HeldTask} (h : Fine s) (hh : s.clk.hold = t :: rest)
    {x : Session} (hx : mayStamp x = true → mayStamp t.session = true) : Fine (setSession t.slot x s) := by
  have hb : Bounded (t :: rest) s.snt := hh ▸ h
  have hc := hb.headGoesOn hx
  rw [← hh] at hc
  simpa [Fine] using hc

/-! ### The field and the head -/

theorem grantHead_fine {s : State} {t : HeldTask} {rest : List HeldTask} (h : Fine s) (hh : s.clk.hold = t :: rest) :
    Fine (grantHead t s) := by
  have hs := setHead_fine (x := .presence) h hh (by simp [mayStamp])
  refine hs.of_eq ?_ ?_ <;> simp [grantHead]

theorem beginHead_fine {s : State} (h : Fine s) : Fine (beginHead s) := by
  simp only [beginHead, beginSession]
  split
  · exact h
  · split
    · split
      · exact handOver_fine h _ _
      · split
        · exact grantHead_fine h ‹_›
        · exact h
    · exact h

theorem afterPulse_fine {s : State} (h : Fine s) : Fine (afterPulse s) := by
  simp only [afterPulse]
  split
  · exact beginHead_fine (h.of_eq (by simp) (by simp))
  · exact beginHead_fine h

theorem fieldFailed_fine {s : State} {t : HeldTask} {rest : List HeldTask} (h : Fine s) (hh : s.clk.hold = t :: rest) :
    Fine (fieldFailed t s) := by
  simp only [fieldFailed]
  split
  · exact closeHead_fine h _ _ _
  · exact closeHead_fine h _ _ _
  · exact endAsking_fine h _ _
  · exact endDeciding_fine h _ _ _ _
  · exact settleStamp_fine h hh (by simp [*, mayStamp]) _ _ _
  · exact h
  · exact h

theorem forceOff_fine {s : State} (h : Fine s) : Fine (forceOff s) := by
  have hoff : Fine (turnOff s) := h.of_eq (by simp) (by simp)
  simp only [forceOff]
  split
  · exact h
  · exact afterPulse_fine hoff
  · split
    · exact hoff
    · exact fieldFailed_fine hoff (by simpa using ‹s.clk.hold = _›)

theorem shutDown_fine {s : State} (h : Fine s) : Fine (shutDown s) := by
  have hf : Fine (forceOff (latchShutdown { s with fmn := { s.fmn with shutdownBlock := true } })) :=
    forceOff_fine (h.of_eq (by simp) (by simp))
  exact hf.of_eq (by simp [shutDown]) (by simp [shutDown])

theorem dieMoves_fine {s : State} (h : Fine s) (d : Int) : Fine (dieMoves d s) := by
  simp only [dieMoves]
  generalize hw : (if 105 ≤ clampTemp d then warm { s with fmn := { s.fmn with dieTemp := clampTemp d } }
    else { s with fmn := { s.fmn with dieTemp := clampTemp d } }) = w
  have hfine : Fine w := by subst hw; split <;> exact h.of_eq (by simp) (by simp)
  have hshut : Fine (if 125 ≤ clampTemp d then shutDown w else w) := by
    split
    · exact shutDown_fine hfine
    · exact hfine
  refine hshut.of_eq ?_ ?_
  all_goals
    repeat' split
    all_goals simp

theorem antennaLost_fine {s : State} (h : Fine s) : Fine (antennaLost s) := by
  simp only [antennaLost]
  split
  · exact forceOff_fine (h.of_eq (by simp) (by simp))
  · exact h.of_eq (by simp) (by simp)

theorem overcurrent_fine {s : State} (h : Fine s) : Fine (overcurrent s) :=
  forceOff_fine (h.of_eq (by simp) (by simp))

/-! ### HALTING -/

theorem haltHead_fine {s : State} (h : Fine s) : Fine (haltHead s) := by
  simp only [haltHead]
  split
  · exact h
  · split
    · exact handOver_fine h _ _
    · exact closeHead_fine h _ _ _
    · exact closeHead_fine h _ _ _
    · exact endAsking_fine h _ _
    · exact endDeciding_fine h _ _ _ _
    · exact settleStamp_fine h ‹_› (by simp [*, mayStamp]) _ _ _
    · exact h

theorem haltSecond_fine {s : State} (h : Fine s) : Fine (haltSecond s) := by
  simp only [haltSecond]
  repeat' split
  · exact h
  · exact h
  · exact handOver_fine h _ _
  · exact h

theorem enterHalting_fine {s : State} (h : Fine s) : Fine (enterHalting s) :=
  haltHead_fine (haltSecond_fine (h.of_eq rfl rfl))

theorem sweepFrom_fine {s : State} (h : Fine s) (i : Nat) : Fine (sweepFrom i s) := by
  simp only [sweepFrom]
  split
  · exact enterHalting_fine h
  · split <;> exact h.of_eq (by simp) (by simp)

theorem haltRunning_fine {s : State} (h : Fine s) : Fine (haltRunning s) := by
  simp only [haltRunning]
  split
  · exact enterHalting_fine h
  · exact enterHalting_fine h
  · exact enterHalting_fine (h.of_eq (by simp) (by simp))
  · exact h.of_eq rfl rfl

theorem startUpGoesOn_fine {s : State} (h : Fine s) (p : StartPhase) (data : List Byte) :
    Fine (startUpGoesOn p data s) := by
  simp only [startUpGoesOn, checkSetup]
  repeat' split
  · exact h.of_eq (by simp) (by simp)
  · exact sweepFrom_fine (h.of_eq (by simp) (by simp)) 0
  · exact h.of_eq (by simp) (by simp)
  · exact sweepFrom_fine h _
  · exact h.of_eq (by simp) (by simp)
  · exact h.of_eq (by simp) (by simp)
  · exact sweepFrom_fine (h.of_eq (by simp) (by simp)) _

/-! ### Exchanges with the card -/

theorem exhausted_fine {s : State} {t : HeldTask} {rest : List HeldTask} (h : Fine s) (hh : s.clk.hold = t :: rest) :
    Fine (exhausted t s) := by
  simp only [exhausted]
  split
  · exact closeHead_fine h _ _ _
  case h_2 d p hx =>
    have hs := setHead_fine (x := .stamping .check d p) h hh fun _ => by simp [hx, mayStamp]
    refine hs.of_eq ?_ ?_ <;> simp
  case h_3 => exact settleStamp_fine h hh (by simp [*, mayStamp]) _ _ _
  all_goals exact h

theorem tryFails_fine {s : State} {t : HeldTask} {rest : List HeldTask} (h : Fine s) (hh : s.clk.hold = t :: rest) :
    Fine (tryFails t s) := by
  simp only [tryFails]
  split
  · exact h.of_eq (by simp) (by simp)
  · exact exhausted_fine h hh

theorem replyFails_fine {s : State} (h : Fine s) : Fine (replyFails s) := by
  simp only [replyFails]
  split
  · exact h
  · split
    · exact h.of_eq (by simp) (by simp)
    · exact tryFails_fine h ‹_›
    · exact tryFails_fine h ‹_›
    all_goals exact h

theorem helloTaken_fine {s : State} {t : HeldTask} {rest : List HeldTask} (h : Fine s) (hh : s.clk.hold = t :: rest)
    (link : LinkStatus) (c : Cred) (filled : Byte) (stamp : Bool) : Fine (helloTaken t link c filled stamp s) := by
  simp only [helloTaken]
  repeat' split
  · exact closeHead_fine h _ _ _
  · have hs := setHead_fine (x := .reading) h hh (by simp [mayStamp])
    refine hs.of_eq ?_ ?_ <;> simp
  · exact h.of_eq (by simp) (by simp)

theorem checkTaken_fine {s : State} {t : HeldTask} {rest : List HeldTask} (h : Fine s) (hh : s.clk.hold = t :: rest)
    (ht : mayStamp t.session = true) (d : Draft) (p : RidePlan) (r : StampStanding) : Fine (checkTaken t d p r s) := by
  simp only [checkTaken]
  split
  · exact h
  · exact settleStamp_fine h hh ht _ _ _

theorem refuseRide_fine_of {s : State} {t : HeldTask}
    (h : ∀ x, waitsOrCloses x = true → Bounded (holdWith t.slot x s.clk.hold) s.snt) (d : Draft) (p : RidePlan)
    (w : VerdictReason) (o : Owed) : Fine (refuseRide t d p w o s) := by
  simp only [refuseRide]
  refine closeHead_fine_of (s := sendUpdate _ s) (fun x hx => (h x hx).table (h x hx).seen (h x hx).fits ?_) _ _
  rw [owedPins_sendUpdate]
  exact Nat.le_refl _

theorem refuseRide_fine {s : State} (h : Fine s) (t : HeldTask) (d : Draft) (p : RidePlan)
    (w : VerdictReason) (o : Owed) : Fine (refuseRide t d p w o s) :=
  refuseRide_fine_of (fun _ hx => h.closes t.slot hx) d p w o

/-! ### The decision point -/

/-- The decision point in an asking session: room for the pin that the ride may come to make. -/
structure Roomed (x : Asked) : Prop where
  seen : seenRule x.state.snt
  fits : x.state.snt.records.length ≤ Config.seenRecords
  pins : owedPins x.state.snt + bit (mayStamp (.asking x.asking)) ≤ Config.pinned

theorem askContext_roomed {x : Asked} (h : Roomed x) (yes : Bool) : Roomed (askContext yes x) := by
  simp only [askContext]
  split
  · exact ⟨h.seen, h.fits, h.pins⟩
  · exact h

theorem askDenyList_roomed {x : Asked} (h : Roomed x) (yes : Bool) : Roomed (askDenyList yes x) := by
  simp only [askDenyList]
  split
  · exact ⟨h.seen, h.fits, h.pins⟩
  · exact h

/-- A count of the pins below 32, with none in transit, leaves room for one. -/
theorem room_of_count {t : SeenTable} (hu : t.updates = []) (hp : pinCount t ≤ Config.pinned) :
    owedPins t + bit (decide (pinCount t < Config.pinned)) ≤ Config.pinned := by
  have hz : pinsInTransit t = 0 := by simp [pinsInTransit, hu]
  unfold owedPins
  by_cases hlt : pinCount t < Config.pinned
  · simp only [hz, hlt, decide_true, bit, if_true]
    omega
  · simp only [hz, hlt, decide_false, bit]
    simpa using hp

/-- R22: the consult counts the pins after every update sent before, so the count it gives leaves the room it says. -/
theorem askSeenTable_roomed {x : Asked} (h : Roomed x) (yes : Bool) : Roomed (askSeenTable yes x) := by
  simp only [askSeenTable]
  split
  · have howed : owedPins x.state.snt ≤ Config.pinned := (Nat.le_add_right _ _).trans h.pins
    have hseen := seenRule_deliverUpdates h.seen
    obtain ⟨hp, hf⟩ := deliverUpdates_owedPins h.seen h.fits howed
    have hroomy : Roomy (deliverUpdates x.state).snt := ⟨hseen, hf, (Nat.le_add_right _ _).trans (hp.trans howed)⟩
    have hc := consult_roomy hroomy x.asking.inspection (contextAnswer (deliverUpdates x.state).rcx)
    obtain ⟨hcp, hcf, hcu⟩ := hc
    have hcount := hcp.trans hroomy.pinned
    rw [deliverUpdates_updates] at hcu
    exact ⟨seenRule_consult hseen _ _, hcf, room_of_count hcu hcount⟩
  · exact h

theorem askSeenTable_owedPins {x : Asked} (hs : seenRule x.state.snt)
    (hf : x.state.snt.records.length ≤ Config.seenRecords) (hp : owedPins x.state.snt ≤ Config.pinned) (yes : Bool) :
    owedPins (askSeenTable yes x).state.snt ≤ owedPins x.state.snt ∧
      (askSeenTable yes x).state.snt.records.length ≤ Config.seenRecords := by
  simp only [askSeenTable]
  split
  · obtain ⟨hdp, hdf⟩ := deliverUpdates_owedPins hs hf hp
    have hroomy : Roomy (deliverUpdates x.state).snt :=
      ⟨seenRule_deliverUpdates hs, hdf, (Nat.le_add_right _ _).trans (hdp.trans hp)⟩
    obtain ⟨hcp, hcf, hcu⟩ := consult_roomy hroomy x.asking.inspection (contextAnswer (deliverUpdates x.state).rcx)
    exact ⟨(owedPins_le hcp hcu).trans hdp, hcf⟩
  · exact ⟨Nat.le_refl _, hf⟩

theorem askBlocks_owedPins {s : State} (hs : seenRule s.snt) (hf : s.snt.records.length ≤ Config.seenRecords)
    (hp : owedPins s.snt ≤ Config.pinned) (w : Asks) (a : Asking) :
    owedPins (askBlocks w a s).state.snt ≤ owedPins s.snt ∧
      (askBlocks w a s).state.snt.records.length ≤ Config.seenRecords := by
  have hsnt : (askDenyList w.denyList (askContext w.context ⟨a, [], s⟩)).state.snt = s.snt := by
    rw [askDenyList_snt, askContext_state]
  have h := askSeenTable_owedPins (x := askDenyList w.denyList (askContext w.context ⟨a, [], s⟩)) (by rwa [hsnt])
    (by rwa [hsnt]) (by rwa [hsnt]) w.seenTable
  rwa [hsnt] at h

theorem askBlocks_roomed {s : State} {a : Asking} (h : Roomed ⟨a, [], s⟩) (w : Asks) : Roomed (askBlocks w a s) :=
  askSeenTable_roomed (askDenyList_roomed (askContext_roomed h _) _) _

theorem noteRuling_owedPins {t : SeenTable} (h : Roomy t) (a : Asking) (ctx : ContextAnswer) (r : Ruling) :
    owedPins (noteRuling a ctx r t) ≤ owedPins t ∧ (noteRuling a ctx r t).records.length ≤ Config.seenRecords := by
  simp only [noteRuling]
  split
  · obtain ⟨hp, hf, hu⟩ := noteInspection_roomy h _ _ _
    exact ⟨owedPins_le hp hu, hf⟩
  · exact ⟨Nat.le_refl _, h.fits⟩
  · exact ⟨Nat.le_refl _, h.fits⟩

/-- The end of a decision point leaves the room it had. -/
theorem conclude_roomed {x : Asked} (h : Roomed x) (r : Replies) (l : List JournalJob) :
    Roomed ⟨x.asking, [], (conclude x.asking r l x.state).1⟩ := by
  have howed : owedPins x.state.snt ≤ Config.pinned := (Nat.le_add_right _ _).trans h.pins
  obtain ⟨hp, hf⟩ := noteRuling_owedPins ⟨h.seen, h.fits, (Nat.le_add_right _ _).trans howed⟩ x.asking
    (contextAnswer r.context) (rule x.asking.inspection x.state.ven r)
  exact ⟨seenRule_conclude h.seen _ _ _, by simpa [conclude] using hf,
    (Nat.add_le_add_right (by simpa [conclude] using hp) _).trans h.pins⟩

theorem replies_seen {a : Asking} {r : Replies} (h : a.replies = some r) : a.seen = some r.seen := by
  simp only [Asking.replies] at h
  split at h
  · cases h
    assumption
  · cases h

/-! ### A card's decision point -/

/-- The room of an asking session, in the hold. -/
theorem roomed_of_fine {s : State} {t : HeldTask} {rest : List HeldTask} {a : Asking} (h : Fine s)
    (hh : s.clk.hold = t :: rest) (ha : mayStamp (.asking a) = true → mayStamp t.session = true) :
    Roomed ⟨a, [], s⟩ := by
  have hb : Bounded (t :: rest) s.snt := hh ▸ h
  exact ⟨h.seen, h.fits, (Nat.add_le_add_left (bit_mono ha) _).trans hb.headPins⟩

/-- The head's session goes on from its decision point, into one that may pin no more than that. -/
theorem setHead_of_roomed {s : State} {x : Asked} {t : HeldTask} {rest : List HeldTask} (h : Fine s)
    (hh : s.clk.hold = t :: rest) (hr : Roomed x) {y : Session}
    (hy : mayStamp y = true → mayStamp (.asking x.asking) = true) :
    Bounded (holdWith t.slot y s.clk.hold) x.state.snt := by
  have hb : Bounded (t :: rest) s.snt := hh ▸ h
  rw [hh]
  exact hb.heads hr.seen hr.fits ((Nat.add_le_add_left (bit_mono hy) _).trans hr.pins)

theorem seekReservation_fine {u : State} {t : HeldTask} {d : Draft} {p : RidePlan} {x : Decided}
    (h : ∀ y, (mayStamp y = true → x.pins < Config.pinned) → Bounded (holdWith t.slot y u.clk.hold) u.snt) :
    Fine (seekReservation t x d p u) := by
  simp only [seekReservation]
  split
  · exact refuseRide_fine_of (fun y hy => h y (by simp [mayStamp_of_waitsOrCloses hy])) _ _ _ _
  · have hlt : x.pins < Config.pinned := Nat.lt_of_not_le ‹_›
    split
    · have hb := h (.deciding d p .awaitResolved) fun _ => hlt
      simpa [Fine] using hb
    · have hb := h (.deciding d p .awaitReservation) fun _ => hlt
      simpa [Fine] using hb

theorem decideCard_fine {s : State} {x : Asked} {t : HeldTask} {rest : List HeldTask} (h : Fine s)
    (hh : s.clk.hold = t :: rest) (hr : Roomed x) (hx : x.state.clk = s.clk) {r : Replies}
    (hy : x.asking.replies = some r) (l : List JournalJob) : Fine (decideCard t x.asking r l x.state) := by
  have hseen := replies_seen hy
  have hset : ∀ y, (mayStamp y = true → r.seen.pins < Config.pinned) →
      Bounded (holdWith t.slot y (conclude x.asking r l x.state).1.clk.hold) (conclude x.asking r l x.state).1.snt := by
    intro y hm
    have hb := setHead_of_roomed (y := y) h hh (conclude_roomed hr r l) fun ha => by simp [mayStamp, hseen, hm ha]
    simpa [hx] using hb
  simp only [decideCard]
  split
  · exact closeHead_fine_of (fun y hw => hset y (by simp [mayStamp_of_waitsOrCloses hw])) _ _
  · exact seekReservation_fine hset

theorem askCard_fine {s : State} {t : HeldTask} {rest : List HeldTask} {a : Asking} (h : Fine s)
    (hh : s.clk.hold = t :: rest) (ha : mayStamp (.asking a) = true → mayStamp t.session = true) (w : Asks) :
    Fine (askCard t w a s) := by
  have hr := askBlocks_roomed (roomed_of_fine h hh ha) w
  simp only [askCard]
  split
  · have hb := setHead_of_roomed (y := .asking (askBlocks w a s).asking) h hh hr id
    simpa [Fine] using hb
  · exact decideCard_fine h hh hr (by simp) ‹_› _

/-! ### The Journal Writer and those it answers -/

theorem closeIfReady_fine {s : State} (h : Fine s) (t : HeldTask) (e : SessionEnd) (o : Owed) :
    Fine (closeIfReady t e o s) := by
  simp only [closeIfReady]
  split
  · exact handOver_fine h _ _
  · have hc := h.closes t.slot (x := .closing e o .awaitJournal) rfl
    simpa [Fine] using hc

theorem mayStamp_noteResolved (n : Option Word) (a : Asking) :
    mayStamp (.asking (noteResolved n a)) = mayStamp (.asking a) := by
  simp only [mayStamp, noteResolved]
  cases a.seen with
  | none => rfl
  | some x =>
    simp only [Option.map_some, Option.any_some]
    split <;> rfl

theorem cardEntryServed_fine {s : State} (h : Fine s) (k : EntryKind) (n : Option Word) : Fine (cardEntryServed k n s) := by
  simp only [cardEntryServed]
  split
  · exact h
  · split
    · exact closeIfReady_fine h _ _ _
    case h_2 t rest hh _ a hx =>
      split
      · exact setHead_fine h hh (by rw [mayStamp_noteResolved, hx]; exact id)
      · exact h
    case h_3 t rest hh _ d p hx =>
      have hs := setHead_fine (x := .deciding (noteEntry k n d) p .awaitReservation) h hh (by simp [hx, mayStamp])
      refine hs.of_eq ?_ ?_ <;> simp
    all_goals exact h

theorem fillServed_fine {s : State} (h : Fine s) : Fine (fillServed s) := by
  simp only [fillServed]
  split
  · exact h
  · split
    · exact closeIfReady_fine h _ _ _
    all_goals exact h

theorem reservationRefused_fine {s : State} (h : Fine s) : Fine (reservationRefused s) := by
  simp only [reservationRefused]
  split
  · exact h
  · split
    · exact refuseRide_fine h _ _ _ _ _
    all_goals exact h

theorem beginStamping_fine {s : State} (h : Fine s) (n : Word) : Fine (beginStamping n s) := by
  simp only [beginStamping]
  split
  · exact h
  · split
    case h_1 t rest hh _ d p hx =>
      have hs := setHead_fine (x := .stamping .put d p) h hh (by simp [hx, mayStamp])
      refine hs.of_eq ?_ ?_ <;> simp
    all_goals exact h

theorem pinsOf_tokenRideUpdate (p : RidePlan) (n : Option Word) : pinsOf (tokenRideUpdate p n) = 0 := by
  cases n <;> rfl

theorem tokenEntryServed_fine {s : State} (h : Fine s) (n : Option Word) : Fine (tokenEntryServed n s) := by
  simp only [tokenEntryServed]
  split
  · exact h.of_eq (by simp) (by simp)
  case h_2 sc t d p _ =>
    have hs := h.sends (pinsOf_tokenRideUpdate p n)
    exact hs.of_eq (by simp) (by simp)
  · exact h

theorem entryServed_fine {s : State} (h : Fine s) (k : EntryKind) (w : ClaimFor) (n : Option Word) :
    Fine (entryServed k w n s) := by
  cases w with
  | nobody => exact h
  | card => exact cardEntryServed_fine h k n
  | token => exact tokenEntryServed_fine h n
  | note => exact h.of_eq (by simp [entryServed]) (by simp [entryServed])

theorem serveClaim_fine {s : State} (h : Fine s) (j : JournalJob) (m : Byte) (ring : Ring) :
    Fine (serveClaim j m ring s) := by
  simp only [serveClaim]
  split
  · simp only [grantClaim]
    split
    · exact h.of_eq (by simp) (by simp)
    · exact beginStamping_fine (h.of_eq (by simp) (by simp)) _
    · exact h.of_eq (by simp) (by simp)
    · exact h.of_eq (by simp) (by simp)
  · simp only [refuseClaim]
    split
    · exact entryServed_fine (h.of_eq (by simp) (by simp)) _ _ _
    · exact reservationRefused_fine (h.of_eq (by simp) (by simp))
    · exact h.of_eq (by simp) (by simp)
    · exact h.of_eq (by simp) (by simp)

theorem journalGoesOn_fine {s : State} (h : Fine s) (data : List Byte) : Fine (journalGoesOn data s) := by
  simp only [journalGoesOn]
  split
  · exact h.of_eq rfl rfl
  · exact h.of_eq (by simp) (by simp)
  · simp only [entryWritten]
    split
    · exact entryServed_fine (h.of_eq (by simp) (by simp)) _ _ _
    · exact fillServed_fine (h.of_eq (by simp) (by simp))
    · exact h.of_eq (by simp) (by simp)
    · exact h.of_eq (by simp) (by simp)
  · exact h

/-! ### Tasks -/

/-- Work of a task with the table, that owes no further pin. -/
theorem Fine.table {s u : State} (h : Fine s) (hh : u.clk.hold = s.clk.hold) (hs : seenRule u.snt)
    (hf : u.snt.records.length ≤ Config.seenRecords) (hp : owedPins u.snt ≤ owedPins s.snt) : Fine u := by
  unfold Fine
  rw [hh]
  exact Bounded.table h hs hf hp

theorem decideToken_table {s : State} (sc : Scan) (t : Task) (a : Asking) (r : Replies) (l : List JournalJob) :
    (decideToken sc t a r l s).snt = (conclude a r l s).1.snt ∧ (decideToken sc t a r l s).clk = s.clk := by
  simp only [decideToken]
  repeat' split
  all_goals simp

theorem askToken_fine {s : State} (h : Fine s) (sc : Scan) (t : Task) (w : Asks) (a : Asking) :
    Fine (askToken sc t w a s) := by
  obtain ⟨hp, hf⟩ := askBlocks_owedPins h.seen h.fits h.owed w a
  have hs := seenRule_askBlocks h.seen w a
  simp only [askToken]
  split
  · exact h.table (by simp) (by simpa using hs) (by simpa using hf) (by simpa using hp)
  case h_2 r _ =>
    obtain ⟨hcp, hcf⟩ := noteRuling_owedPins ⟨hs, hf, (Nat.le_add_right _ _).trans (hp.trans h.owed)⟩
      (askBlocks w a s).asking (contextAnswer r.context)
      (rule (askBlocks w a s).asking.inspection (askBlocks w a s).state.ven r)
    obtain ⟨ht, hc⟩ := decideToken_table (s := (askBlocks w a s).state) sc t (askBlocks w a s).asking r
      (askBlocks w a s).claims
    refine h.table (by rw [hc]; simp) ?_ ?_ ?_
    all_goals rw [ht]
    · exact seenRule_conclude hs _ _ _
    · simpa [conclude] using hcf
    · exact (show _ ≤ _ by simpa [conclude] using hcp).trans hp

theorem notesDue_fine {s : State} (h : Fine s) (sc : Scan) (t : Task) (notes : List PeerNote) :
    Fine (notesDue sc t notes s) := by
  have hroomy : Roomy s.snt := ⟨h.seen, h.fits, (Nat.le_add_right _ _).trans h.owed⟩
  obtain ⟨hr, hp, hu⟩ := mergeNotes_roomy hroomy s.rcx notes
  simp only [notesDue, notesMerged]
  repeat' split
  · exact h.of_eq rfl rfl
  all_goals exact h.table (by simp) (by simpa using hr.seen) (by simpa using hr.fits) (by simpa using owedPins_le hp hu)

theorem deliverUpdate_fine {s : State} (h : Fine s) : Fine (deliverUpdate s) := by
  obtain ⟨hp, hf⟩ := deliverUpdate_owedPins h.seen h.fits h.owed
  exact h.table (by simp) (seenRule_deliverUpdate h.seen) hf hp

/-- R39, R57: an emptying marks a decision point; what it may pin stays. -/
theorem markHeld_session (t : SeenTable) (x : HeldTask) :
    mayStamp (markHeld t x).session = mayStamp x.session ∧
      waitsOrCloses (markHeld t x).session = waitsOrCloses x.session := by
  simp only [markHeld]
  split
  case h_1 a hx => simp [hx, mayStamp, waitsOrCloses]
  all_goals exact ⟨rfl, rfl⟩

theorem emptySeen_owedPins (t : SeenTable) : owedPins (emptySeen t) ≤ owedPins t :=
  Nat.add_le_add_right (Nat.zero_le _) _

theorem emptyForTrip_fine {s : State} (h : Fine s) : Fine (emptyForTrip s) where
  slots := by simpa using h.slots
  tail := by
    simp only [emptyForTrip, ← List.map_tail]
    intro y hy
    obtain ⟨z, hz, rfl⟩ := List.mem_map.mp hy
    rw [(markHeld_session s.snt z).2]
    exact h.tail z hz
  seen := seenRule_emptySeen s.snt
  fits := Nat.zero_le _
  pins := by
    have hany : ((emptyForTrip s).clk.hold.any fun x => mayStamp x.session) =
        s.clk.hold.any fun x => mayStamp x.session := by
      simp [emptyForTrip, List.any_map, Function.comp_def, markHeld_session]
    rw [hany]
    exact (Nat.add_le_add_right (emptySeen_owedPins s.snt) _).trans h.pins

theorem routeServed_fine {s : State} (h : Fine s) (sc : Scan) (t : Task) (r : RouteRequest) (data : List Byte) :
    Fine (routeServed sc t r data s) := by
  simp only [routeServed]
  split
  · exact h.of_eq rfl rfl
  · exact (emptyForTrip_fine h).of_eq rfl rfl
  · exact h.of_eq rfl rfl

/-- R88: a task enters the hold behind those in it. -/
theorem Bounded.enters {l : List HeldTask} {t : SeenTable} (h : Bounded l t) {x : HeldTask}
    (hx : x.slot ∉ l.map HeldTask.slot) (hw : x.session = .waitingField) : Bounded (l ++ [x]) t where
  slots := by
    rw [List.map_append, List.nodup_append]
    exact ⟨h.slots, by simp, fun a ha b hb hab => hx (by simp_all)⟩
  tail := by
    cases l with
    | nil => simp
    | cons y l =>
      intro z hz
      obtain hz | hz := List.mem_append.mp hz
      · exact h.tail z hz
      · rw [List.mem_singleton.mp hz, hw]
        rfl
  seen := h.seen
  fits := h.fits
  pins := by simpa [List.any_append, hw, mayStamp] using h.pins

theorem enterHold_fine {s : State} (h : Fine s) {i : Nat} (hi : i ∉ heldSlots s) (g : Half) (r : CardRequest) :
    Fine (enterHold i g r s) := by
  have hin : Fine { s with clk := { s.clk with hold := s.clk.hold ++ [⟨i, g, r, .waitingField⟩] } } :=
    Bounded.enters h hi rfl
  simp only [enterHold]
  split
  · exact handOver_fine hin _ _
  · split
    · exact beginHead_fine hin
    · exact hin

theorem filter_tail {l : List HeldTask} (p : HeldTask → Bool) {x : HeldTask} (h : x ∈ (l.filter p).tail) : x ∈ l.tail := by
  cases l with
  | nil => cases h
  | cons y l =>
    rw [List.filter_cons] at h
    split at h
    · exact (List.mem_filter.mp h).1
    · exact (List.mem_filter.mp (List.mem_of_mem_tail h)).1

/-- R102: a task leaves the hold. -/
theorem Bounded.leaves {l : List HeldTask} {t : SeenTable} (h : Bounded l t) (p : HeldTask → Bool) :
    Bounded (l.filter p) t where
  slots := h.slots.sublist (List.filter_sublist.map _)
  tail := fun x hx => h.tail x (filter_tail p hx)
  seen := h.seen
  fits := h.fits
  pins := by
    refine (Nat.add_le_add_left (bit_mono fun ha => ?_) _).trans h.pins
    obtain ⟨y, hy, hm⟩ := List.any_eq_true.mp ha
    exact List.any_eq_true.mpr ⟨y, (List.mem_filter.mp hy).1, hm⟩

theorem leaveHold_fine {s : State} (h : Fine s) (i : Nat) : Fine (leaveHold i s) := by
  simp only [leaveHold]
  split
  · exact beginHead_fine (Bounded.leaves h _)
  · exact Bounded.leaves h _

theorem cardGoesOn_fine {s : State} (h : Fine s) (i : Nat) : Fine (cardGoesOn i s) := by
  simp only [cardGoesOn]
  split
  · exact h
  · split
    case h_1 t _ _ e o _ =>
      have hc := h.closes i (x := .closing e o .writeDone) rfl
      simpa [Fine] using hc
    · have hl := leaveHold_fine (s := raiseEvent evTaskDone s) h i
      exact hl.of_eq (by simp) (by simp)
    all_goals exact h

theorem cancelHeld_fine {s : State} (h : Fine s) (t : HeldTask) : Fine (cancelHeld t s) := by
  simp only [cancelHeld]
  split
  · exact handOver_fine h _ _
  · exact closeHead_fine h _ _ _
  · exact closeHead_fine h _ _ _
  · exact endAsking_fine h _ _
  · exact endDeciding_fine h _ _ _ _
  all_goals exact h

theorem cancelTaken_fine {s : State} (h : Fine s) (sc : Scan) (g : Half) (n : Nat) (x k : Byte) :
    Fine (cancelTaken sc g n x k s) := by
  simp only [cancelTaken, cancelOfHeld]
  repeat' split
  · exact h.of_eq rfl rfl
  · exact h.of_eq rfl rfl
  · exact cancelHeld_fine (s := serveOn sc _ _ s) (h.of_eq rfl rfl) _
  · exact h.of_eq (by simp) (by simp)

end Sys2Proof.Proofs.Bounds
end

section
/-! SUPPORT. Obligation O57: the card hold and the pins (R49, R55, R88, R127). -/

namespace Sys2Proof.Proofs.HoldRule

open Sys2Proof Sys2Proof.Machine Sys2Proof.Proofs.Cases Sys2Proof.Proofs.Slots Sys2Proof.Proofs.Scans
open Sys2Proof.Proofs.Pins Sys2Proof.Proofs.Bounds

/-- A CARD INSPECT taken, or handed over, and not yet in the hold. -/
def comes : ScanPhase → Bool
  | .writeTaken _ (.good (.cardInspect _)) | .handed ⟨_, .cardInspect _⟩ => true
  | _ => false

/-- The slot in hand is not held, and a card on its way finds a place. -/
def Clear (held : List Nat) (o : Option Scan) : Prop :=
  ∀ sc, o = some sc → sc.index ∉ held ∧ (comes sc.phase = true → held.length < Config.holdPlaces)

theorem clear_none (held : List Nat) : Clear held none := fun _ h => by cases h

theorem clear_some {held : List Nat} {sc : Scan} :
    Clear held (some sc) ↔ sc.index ∉ held ∧ (comes sc.phase = true → held.length < Config.holdPlaces) := by
  simp [Clear]

theorem comes_of_idle {p : ScanPhase} (h : idlePhase p = true) : comes p = false := by
  cases p with
  | readState | writeAnswer _ _ => rfl
  | readHead | readRequest _ | writeTaken _ _ | handed _ | serving _ _ | writeDone _ => cases h

theorem clear_of_moves {held : List Nat} {o p : Option Scan} (h : ScanMoves held o p) (ho : Clear held o) :
    Clear held p := by
  cases h with
  | same => exact ho
  | ends => exact clear_none held
  | idles p he hp => exact clear_some.mpr ⟨(ho _ he).1, by simp [comes_of_idle hp]⟩
  | stays g' he _ _ => exact clear_some.mpr ⟨(ho _ he).1, by simp [comes]⟩
  | fresh hi hp => exact clear_some.mpr ⟨hi, by simp [comes_of_idle hp]⟩

/-- A task leaves: fewer slots are held. -/
theorem clear_of_sublist {held held' : List Nat} {o : Option Scan} (h : Clear held o) (hs : held'.Sublist held) :
    Clear held' o := fun sc ho =>
  ⟨fun hi => (h sc ho).1 (hs.subset hi), fun hc => (hs.length_le).trans_lt ((h sc ho).2 hc)⟩

theorem cardComing_eq (s : State) : cardComing s = s.ssc.scan.any fun sc => comes sc.phase := by
  simp only [cardComing]
  cases s.ssc.scan with
  | none => rfl
  | some sc =>
    simp only [Option.map_some, Option.any_some, comes]
    cases sc.phase with
    | writeTaken g p =>
      cases p with
      | good r => cases r <;> rfl
      | badKind | badField _ => rfl
    | handed t =>
      obtain ⟨g, r⟩ := t
      cases r <;> rfl
    | readState | readHead | readRequest _ | serving _ _ | writeAnswer _ _ | writeDone _ => rfl

/-- What O57 says of a state, and the order of the Seen Table. -/
structure Kept (s : State) : Prop where
  fine : Fine s
  two : (heldSlots s).length ≤ Config.holdPlaces
  clear : Clear (heldSlots s) s.ssc.scan

theorem kept_iff (s : State) : Kept s ↔ holdRule s = true ∧ pinRule s = true ∧ seenRule s.snt := by
  have hclear : Clear (heldSlots s) s.ssc.scan ↔ (s.ssc.scan.all fun sc => !(heldSlots s).contains sc.index) = true ∧
      (cardComing s = true → s.clk.hold.length < Config.holdPlaces) := by
    rw [cardComing_eq]
    cases s.ssc.scan with
    | none => simp [Clear]
    | some sc => simp [clear_some, heldSlots]
  have hlen : (heldSlots s).length = s.clk.hold.length := List.length_map _
  have htail : (s.clk.hold.tail.all fun t => waitsOrCloses t.session) = true ↔
      ∀ t ∈ s.clk.hold.tail, waitsOrCloses t.session = true := List.all_eq_true
  simp only [holdRule, pinRule, Bool.and_eq_true, Bool.or_eq_true, Bool.not_eq_true', decide_eq_true_eq, htail]
  constructor
  · rintro ⟨⟨hn, ht, hs, hf, hp⟩, hl, hc⟩
    obtain ⟨hi, hcome⟩ := hclear.mp hc
    exact ⟨⟨⟨⟨⟨hlen ▸ hl, Decidable.or_iff_not_imp_left.mpr fun h => hcome (by simpa using h)⟩, hn⟩, hi⟩, ht⟩, ⟨hp, hf⟩, hs⟩
  · rintro ⟨⟨⟨⟨⟨hl, hcome⟩, hn⟩, hi⟩, ht⟩, ⟨hp, hf⟩, hs⟩
    exact ⟨⟨hn, ht, hs, hf, hp⟩, hlen ▸ hl, hclear.mpr ⟨hi, fun h => hcome.resolve_left (by simp [h])⟩⟩

theorem Kept.of_moves {s u : State} (h : Kept s) (hf : Fine u) (hs : heldSlots u = heldSlots s) (hm : Moves s u) :
    Kept u :=
  ⟨hf, hs ▸ h.two, hs ▸ clear_of_moves hm h.clear⟩

/-- The task in hand stays at its slot, past its taking. -/
def Stands (sc : Scan) (u : State) : Prop :=
  ∃ sc', u.ssc.scan = some sc' ∧ sc'.index = sc.index ∧ comes sc'.phase = false

theorem Kept.of_stands {s u : State} {sc : Scan} (h : Kept s) (hf : Fine u) (hs : heldSlots u = heldSlots s)
    (hsc : s.ssc.scan = some sc) (hu : Stands sc u) : Kept u := by
  obtain ⟨sc', hp, hi, hc⟩ := hu
  refine ⟨hf, hs ▸ h.two, ?_⟩
  rw [hp, hs, clear_some]
  exact ⟨hi ▸ (h.clear sc hsc).1, by simp [hc]⟩

theorem stands_askToken (sc : Scan) (t : Task) (w : Asks) (a : Asking) (s : State) : Stands sc (askToken sc t w a s) := by
  obtain ⟨g, hs, -⟩ | ⟨g, c, hs⟩ := ContextRule.askToken_scan sc t w a s
  · exact ⟨_, hs, rfl, rfl⟩
  · exact ⟨_, hs, rfl, rfl⟩

theorem stands_notesDue (sc : Scan) (t : Task) (notes : List PeerNote) (s : State) : Stands sc (notesDue sc t notes s) := by
  simp only [notesDue, notesMerged]
  repeat' split
  · exact ⟨_, rfl, rfl, rfl⟩
  · exact ⟨_, rfl, rfl, rfl⟩
  · simp [Stands, comes]

theorem stands_exportNext (sc : Scan) (t : Task) (a : Word) (l : List SeenRecord) (n : Nat) (b : AnswerBody) (s : State) :
    Stands sc (exportNext sc t a l n b s) := by
  simp only [exportNext]
  split <;> exact ⟨_, rfl, rfl, rfl⟩

theorem stands_statusAsked (sc : Scan) (t : Task) (a : Word) (d : Int) (b : Bool) (l m : List StatusBlock)
    (r : StatusRecord) (s : State) : Stands sc (statusAsked sc t a d b l m r s) := by
  simp only [statusAsked]
  split <;> exact ⟨_, rfl, rfl, rfl⟩

theorem stands_cancelTaken (sc : Scan) (g : Half) (n : Nat) (x k : Byte) (s : State) :
    Stands sc (cancelTaken sc g n x k s) := by
  simp only [cancelTaken, cancelOfHeld, cancelOfSlot]
  repeat' split
  · exact ⟨_, rfl, rfl, rfl⟩
  · exact ⟨_, rfl, rfl, rfl⟩
  · simp [Stands, comes]
  · exact ⟨_, rfl, rfl, rfl⟩
  · exact ⟨_, rfl, rfl, rfl⟩

theorem stands_fieldTested (sc : Scan) (g : Half) (s : State) : Stands sc (fieldTested sc g s) := by
  simp only [fieldTested]
  repeat' split
  all_goals exact ⟨_, rfl, rfl, rfl⟩

theorem stands_servingGoesOn {sc : Scan} {t : Task} {g : ServeStage} {s : State} (hi : Serving sc t g s)
    (data : List Byte) : Stands sc (servingGoesOn sc t g data s) := by
  obtain ⟨hs, hp⟩ := hi
  have hstay : Stands sc s := ⟨sc, hs, rfl, by rw [hp]; rfl⟩
  simp only [servingGoesOn]
  split
  case h_1 =>
    simp only [tokenServed]
    split <;> exact ⟨_, rfl, rfl, rfl⟩
  case h_2 =>
    simp only [routeServed]
    split <;> exact ⟨_, rfl, rfl, rfl⟩
  case h_5 =>
    simp only [notesServed]
    split
    · exact ⟨_, rfl, rfl, rfl⟩
    · exact stands_notesDue _ _ _ _
  case h_6 => exact stands_exportNext _ _ _ _ _ _ _
  case h_8 =>
    simp only [keyServed]
    split <;> exact ⟨_, rfl, rfl, rfl⟩
  case h_13 => exact hstay
  all_goals exact ⟨_, rfl, rfl, rfl⟩

theorem servingGoesOn_slots (sc : Scan) (t : Task) (g : ServeStage) (data : List Byte) (s : State) :
    heldSlots (servingGoesOn sc t g data s) = heldSlots s := by
  simp only [servingGoesOn]
  split
  case h_2 =>
    simp only [routeServed, heldSlots]
    split
    · rfl
    · exact emptyForTrip_slots s
    · rfl
  all_goals simp [heldSlots]

theorem servingGoesOn_fine {s : State} (h : Fine s) (sc : Scan) (t : Task) (g : ServeStage) (data : List Byte) :
    Fine (servingGoesOn sc t g data s) := by
  simp only [servingGoesOn]
  split
  case h_2 => exact routeServed_fine h _ _ _ _
  case h_5 =>
    simp only [notesServed]
    split
    · exact h.of_eq rfl rfl
    · exact notesDue_fine h _ _ _
  all_goals exact h.of_eq (by simp) (by simp)

/-- The scan in hand ends, or goes on to the next slot. -/
theorem kept_goOn {s u : State} (h : Kept s) (sc : Scan) (hc : u.clk = s.clk) (ht : u.snt = s.snt) : Kept (goOn sc u) :=
  ⟨h.fine.of_eq (by simp [hc]) (by simp [ht]), by simpa [heldSlots, hc] using h.two,
    by
      have hm := clear_of_moves (goOn_moves sc u) (clear_none _)
      simpa [heldSlots] using hm⟩

theorem kept_endScan {s : State} (h : Kept s) (sc : Scan) : Kept (endScan sc s) :=
  ⟨h.fine.of_eq (by simp) (by simp), by simpa [heldSlots] using h.two,
    by
      have hm := clear_of_moves (endScan_moves sc s) (clear_none _)
      simpa [heldSlots] using hm⟩

theorem kept_takeSlot {s : State} {sc : Scan} (h : Kept s) (hs : s.ssc.scan = some sc) (g : Half) {p : Parsed}
    (hp : comes (.writeTaken g p) = true → s.clk.hold.length < Config.holdPlaces) : Kept (takeSlot sc g p s) := by
  refine ⟨h.fine.of_eq (by simp) (by simp), by simpa [heldSlots] using h.two, ?_⟩
  rw [ContextRule.takeSlot_scan, clear_some]
  exact ⟨by simpa [heldSlots] using (h.clear sc hs).1, by simpa [heldSlots] using hp⟩

theorem kept_powerDone {s : State} (h : Kept s) (sc : Scan) (c : PowerChange) : Kept (powerDone sc c s) := by
  have hp : ∀ u : State, u.clk = s.clk → u.snt = s.snt → u.ssc.scan = none → Kept (enterPower c u) := fun u hc ht hn =>
    ⟨h.fine.of_eq (by simp [hc]) (by simp [ht]), by simpa [heldSlots, hc] using h.two, by
      rw [show (enterPower c u).ssc.scan = none by simpa using hn]
      exact clear_none _⟩
  simp only [powerDone, endScanInto]
  split
  · split
    · split
      · have hk := hp (closeScan sc { s with ssc := { s.ssc with extraScan := false } }) rfl rfl rfl
        exact hk.of_moves (hk.fine.of_eq (by simp) (by simp)) (heldSlots_congr (by simp)) (nudge_moves _)
      · exact hp _ rfl rfl rfl
    · exact kept_goOn h sc rfl rfl
  · refine ⟨h.fine.of_eq (by simp) (by simp), by simpa [heldSlots] using h.two, ?_⟩
    have hm := clear_of_moves (goOn_moves sc (enterPower c s)) (clear_none _)
    simpa [heldSlots] using hm

/-- R127: a CARD INSPECT not passed over finds a place in the hold. -/
theorem room_of_not_passed {sc : Scan} {g : Half} {p : Parsed} {s : State} (hc : comes (.writeTaken g p) = true)
    (h : ¬ passOver sc p s = true) : s.clk.hold.length < Config.holdPlaces := by
  cases p with
  | good r =>
    cases r with
    | cardInspect r =>
      simp only [passOver, Bool.or_eq_true, decide_eq_true_eq, not_or, Nat.not_le] at h
      exact h.1
    | _ => cases hc
  | badKind | badField _ => cases hc

theorem comes_taken (g h : Half) (r : Request) : comes (.writeTaken g (.good r)) = comes (.handed ⟨h, r⟩) := by
  cases r <;> rfl

theorem kept_scanGoesOn {s : State} {sc : Scan} (h : Kept s) (hs : s.ssc.scan = some sc) (data : List Byte) :
    Kept (scanGoesOn sc data s) := by
  simp only [scanGoesOn]
  split
  · simp only [stateRead]
    repeat' split
    · exact kept_goOn h sc rfl rfl
    · exact h.of_stands (h.fine.of_eq rfl rfl) rfl hs ⟨_, rfl, rfl, rfl⟩
    · exact kept_endScan h _
  · simp only [headRead]
    repeat' split
    · exact kept_endScan h _
    · exact kept_takeSlot h hs _ (by simp [comes])
    · exact h.of_stands (h.fine.of_eq rfl rfl) rfl hs ⟨_, rfl, rfl, rfl⟩
  · simp only [requestRead]
    repeat' split
    · exact kept_endScan h _
    · exact kept_goOn h _ rfl rfl
    · exact kept_takeSlot h hs _ fun hc => room_of_not_passed hc ‹¬ passOver _ _ _ = true›
  · simp only [slotTakenWritten]
    split
    · exact h.of_stands (h.fine.of_eq rfl rfl) rfl hs ⟨_, rfl, rfl, rfl⟩
    · exact h.of_stands (h.fine.of_eq rfl rfl) rfl hs ⟨_, rfl, rfl, rfl⟩
    case h_3 tag r hph =>
      obtain ⟨hi, hcome⟩ := h.clear sc hs
      refine ⟨h.fine.of_eq rfl rfl, h.two, clear_some.mpr ⟨hi, fun hc => hcome ?_⟩⟩
      rw [hph, comes_taken]
      exact hc
  · exact h
  · exact h.of_stands (servingGoesOn_fine h.fine _ _ _ _) (servingGoesOn_slots _ _ _ _ s) hs
      (stands_servingGoesOn ⟨hs, ‹_›⟩ data)
  · simp only [answerWritten]
    split <;> exact h.of_stands (h.fine.of_eq rfl rfl) rfl hs ⟨_, rfl, rfl, rfl⟩
  · simp only [doneWritten]
    split
    · exact kept_goOn h sc rfl rfl
    · exact kept_powerDone (s := raiseEvent evTaskDone s) ⟨h.fine, h.two, h.clear⟩ sc _

/-! ### Every command -/

theorem leaveHold_slots (i : Nat) (s : State) : heldSlots (leaveHold i s) = (heldSlots s).filter (· != i) := by
  have he : (s.clk.hold.filter fun t => t.slot != i).map HeldTask.slot = (heldSlots s).filter (· != i) := by
    simp only [heldSlots, List.filter_map]
    rfl
  rw [← he]
  simp only [leaveHold, heldSlots]
  split
  · simp
  · rfl

theorem kept_leaves {s : State} (h : Kept s) (i : Nat) (hf : Fine (cancelServed i (leaveHold i (raiseEvent evTaskDone s)))) :
    Kept (cancelServed i (leaveHold i (raiseEvent evTaskDone s))) := by
  have hslots := leaveHold_slots i (raiseEvent evTaskDone s)
  have hsub : ((heldSlots s).filter (· != i)).Sublist (heldSlots s) := List.filter_sublist
  have hl : Clear ((heldSlots s).filter (· != i)) (leaveHold i (raiseEvent evTaskDone s)).ssc.scan :=
    clear_of_moves (leaveHold_moves i (raiseEvent evTaskDone s)) (clear_of_sublist h.clear hsub)
  have hleft : Kept (leaveHold i (raiseEvent evTaskDone s)) :=
    ⟨leaveHold_fine (s := raiseEvent evTaskDone s) h.fine i, hslots ▸ hsub.length_le.trans h.two, hslots ▸ hl⟩
  exact hleft.of_moves hf (heldSlots_congr (by simp)) (cancelServed_moves i _)

theorem kept_cardGoesOn {s : State} (h : Kept s) (i : Nat) : Kept (cardGoesOn i s) := by
  have hf := cardGoesOn_fine h.fine i
  simp only [cardGoesOn] at hf ⊢
  split at hf
  · exact h
  · split at hf
    · exact h.of_moves hf (heldSlots_congr (by simp)) (.of_eq rfl)
    · exact kept_leaves h i hf
    all_goals exact h

theorem kept_resume {s : State} (h : Kept s) (c : Client) (data : List Byte) : Kept (resume c data s) := by
  simp only [resume]
  split
  · exact h.of_moves (startUpGoesOn_fine h.fine _ _) (heldSlots_congr (by simp)) (startUpGoesOn_moves _ _ _)
  · exact h
  · exact kept_scanGoesOn h ‹_› _
  · exact h
  · exact kept_cardGoesOn h _
  · exact h.of_moves (journalGoesOn_fine h.fine _) (heldSlots_congr (by simp)) (journalGoesOn_moves _ _)

/-- A part without held tasks, with an ordered Seen Table within its bounds. -/
theorem kept_empty {s : State} (hh : s.clk.hold = []) (hsc : s.ssc.scan = none) (hs : seenRule s.snt)
    (hf : s.snt.records.length ≤ Config.seenRecords) (hp : owedPins s.snt ≤ Config.pinned) : Kept s := by
  have hnil : heldSlots s = [] := by simp [heldSlots, hh]
  refine ⟨⟨by simp [hh], by simp [hh], hs, hf, by simpa [hh, bit] using hp⟩, by simp [hnil], ?_⟩
  rw [hsc]
  exact clear_none _

theorem kept_direct {s t : State} (h : Kept s) (hd : Direct s t) : Kept t := by
  cases hd
  case reset d =>
    have ht : (resetPart d s).snt = {} := by simp [resetPart, State.reset]
    have hz : owedPins {} ≤ Config.pinned := by decide
    exact kept_empty (by simp [resetPart, State.reset]) (by simp [resetPart, State.reset])
      (ht ▸ SeenRule.seenRule_emptySeen {}) (ht ▸ Nat.zero_le _) (ht ▸ hz)
  case fault =>
    obtain ⟨hp, hf⟩ := deliverUpdates_owedPins h.fine.seen h.fine.fits h.fine.owed
    exact kept_empty rfl rfl (SeenRule.seenRule_deliverUpdates h.fine.seen) hf (hp.trans h.fine.owed)
  case wake => exact h.of_moves (h.fine.of_eq (by simp) (by simp)) (heldSlots_congr (by simp)) (.of_eq (by simp))
  case stampAck t rest d p hh hx =>
    have hs := setHead_fine (x := .stamping .check d p) h.fine hh fun _ => by rw [hx]; rfl
    exact h.of_moves (hs.of_eq (by simp) (by simp)) (heldSlots_congr (by simp)) (.of_eq (by simp))
  all_goals exact h.of_moves (h.fine.of_eq (by simp) (by simp)) (heldSlots_congr (by simp)) (.of_eq (by simp))

/-- R88, R127: the CARD INSPECT in hand enters the hold, where its taking left a place for it. -/
theorem kept_cardInspect {s : State} {sc : Scan} {g : Half} {r : CardRequest} (h : Kept s)
    (hi : InHand sc ⟨g, .cardInspect r⟩ s) : Kept (goOn sc (enterHold sc.index g r s)) := by
  obtain ⟨hs, hp⟩ := hi
  obtain ⟨hfree, hplace⟩ := h.clear sc hs
  have hlt := hplace (by rw [hp]; rfl)
  have hslots : heldSlots (enterHold sc.index g r s) = heldSlots s ++ [sc.index] := by
    simp only [enterHold]
    repeat' split
    all_goals simp [heldSlots]
  have hfine := enterHold_fine h.fine hfree g r
  have hgo : heldSlots (goOn sc (enterHold sc.index g r s)) = heldSlots (enterHold sc.index g r s) :=
    heldSlots_congr (by simp)
  refine ⟨hfine.of_eq (by simp) (by simp), ?_, ?_⟩
  · rw [hgo, hslots, List.length_append]
    exact hlt
  · rw [hgo]
    exact clear_of_moves (goOn_moves sc _) (clear_none _)

theorem kept_settles {s u : State} (h : Kept s) (hu : Settles s u) : Kept u := by
  cases hu
  case halt hr => exact h.of_moves (haltRunning_fine h.fine) (heldSlots_congr (by simp)) (.of_eq (haltRunning_scan s))
  case answered a data hf ha => exact kept_resume (s := { s with mpt := freeBus s }) ⟨h.fine, h.two, h.clear⟩ a.client data
  case pulseEnd m hh =>
    have hm : (senseMeasured m (turnOff s)).clk.hold = s.clk.hold ∧ (senseMeasured m (turnOff s)).snt = s.snt ∧
        (senseMeasured m (turnOff s)).ssc.scan = s.ssc.scan := by
      simp only [senseMeasured, wakeByCard]
      repeat' split
      all_goals simp
    obtain ⟨hh, ht, hs⟩ := hm
    exact h.of_moves (afterPulse_fine (h.fine.of_eq hh ht)) (heldSlots_congr (by simp))
      ((afterPulse_moves _).after hs (heldSlots_congr (by simp)))
  case wakeToHalt =>
    exact h.of_moves (enterHalting_fine (h.fine.of_eq (by simp) (by simp))) (heldSlots_congr (by simp))
      ((Moves.of_eq (enterHalting_scan _)).after (by simp) (heldSlots_congr (by simp)))
  case antennaLost => exact h.of_moves (antennaLost_fine h.fine) (heldSlots_congr (by simp)) (antennaLost_moves s)
  case overcurrent => exact h.of_moves (overcurrent_fine h.fine) (heldSlots_congr (by simp)) (overcurrent_moves s)
  case dieMoves d => exact h.of_moves (dieMoves_fine h.fine d) (heldSlots_congr (by simp)) (dieMoves_moves d s)
  case nudge hr => exact h.of_moves (h.fine.of_eq (by simp) (by simp)) (heldSlots_congr (by simp)) (nudge_moves s)
  case poll ha hn => exact h.of_moves (h.fine.of_eq (by simp) (by simp)) (heldSlots_congr (by simp)) (beginScan_moves s)
  case wakeTimer n _ _ _ =>
    exact h.of_moves (h.fine.of_eq (by simp) (by simp)) (heldSlots_congr (by simp)) (wakeExpires_moves n s)
  case sense => exact h.of_moves (h.fine.of_eq (by simp) (by simp)) (heldSlots_congr (by simp)) (turnOn_moves .sense s)
  case checkEnd use carried d hu =>
    exact h.of_moves (h.fine.of_eq (by simp) (by simp)) (heldSlots_congr (by simp))
      ((passiveEnds_moves use carried _).after (by simp) (heldSlots_congr (by simp)))
  case wakeToScan =>
    exact h.of_moves (h.fine.of_eq (by simp) (by simp)) (heldSlots_congr (by simp))
      ((nudgeAwake_moves _).after (by simp) (heldSlots_congr (by simp)))
  case start hr =>
    exact h.of_moves (h.fine.of_eq (by simp) (by simp)) (heldSlots_congr (by simp))
      (.of_eq (by simp [startPart]; split <;> rfl))
  case deadline => exact h.of_moves (closeHead_fine h.fine _ _ _) (heldSlots_congr (by simp)) (.of_eq (by simp))
  case replyFails => exact h.of_moves (replyFails_fine h.fine) (heldSlots_congr (by simp)) (.of_eq (by simp))
  case hello hh hx => exact h.of_moves (helloTaken_fine h.fine hh _ _ _ _) (heldSlots_congr (by simp)) (.of_eq (by simp))
  case area t rest id records stamp w hh hx =>
    have hf := askCard_fine (s := sendTry 0 s) (a := cardAsking t id records stamp)
      (h.fine.of_eq (by simp) (by simp)) (by simpa using hh) (by simp [mayStamp, cardAsking]) w
    exact h.of_moves hf (heldSlots_congr (by simp)) (.of_eq (by simp))
  case asking t rest a w hh hx =>
    exact h.of_moves (askCard_fine h.fine hh (by rw [hx]; exact id) w) (heldSlots_congr (by simp)) (.of_eq (by simp))
  case checkReply hh hx =>
    exact h.of_moves (checkTaken_fine h.fine hh (by rw [hx]; rfl) _ _ _) (heldSlots_congr (by simp)) (.of_eq (by simp))
  case cardInspect sc g r hi => exact kept_cardInspect h hi
  case tokenAsk sc t a w hi =>
    exact h.of_stands (askToken_fine h.fine sc t w a) (heldSlots_congr (by simp)) hi.1 (stands_askToken sc t w a s)
  case notesWait sc t notes hi =>
    exact h.of_stands (notesDue_fine h.fine sc t notes) (heldSlots_congr (by simp)) hi.1 (stands_notesDue sc t notes s)
  case seenExport sc g after capacity address hi =>
    exact h.of_stands (h.fine.of_eq (by simp) (by simp)) (heldSlots_congr (by simp)) hi.1 (stands_exportNext _ _ _ _ _ _ _)
  case fieldTest sc g d hi =>
    exact h.of_stands (h.fine.of_eq (by simp) (by simp)) (heldSlots_congr (by simp)) hi.1 (stands_fieldTested _ _ _)
  case cancel sc g n x k hi =>
    exact h.of_stands (cancelTaken_fine h.fine sc g n x k) (heldSlots_congr (by simp)) hi.1 (stands_cancelTaken _ _ _ _ _ _)
  case status sc g address d high asks hi =>
    exact h.of_stands (h.fine.of_eq (by simp) (by simp)) (heldSlots_congr (by simp)) hi.1
      (stands_statusAsked _ _ _ _ _ _ _ _ _)
  case statusAsk sc g address left r d high asks hi =>
    exact h.of_stands (h.fine.of_eq (by simp) (by simp)) (heldSlots_congr (by simp)) hi.1
      (stands_statusAsked _ _ _ _ _ _ _ _ _)
  case journalClaim mark j rest ring _ _ _ _ =>
    exact h.of_moves (serveClaim_fine h.fine j mark ring) (heldSlots_congr (by simp)) (serveClaim_moves j mark ring s)
  case fill => exact h.of_moves (h.fine.of_eq (by simp) (by simp)) (heldSlots_congr (by simp)) (.of_eq (by simp))
  case seenUpdate => exact h.of_moves (deliverUpdate_fine h.fine) (heldSlots_congr (by simp)) (.of_eq (by simp))
  case route sc g r hi =>
    refine h.of_stands (h.fine.of_eq (by simp) (by simp)) (heldSlots_congr (by simp)) hi.1 ?_
    simp only [routeTaken]
    split <;> exact ⟨_, rfl, rfl, rfl⟩
  case tokenRead hi | routeInstall hi | position hi | replaceEmpty hi | replaceRead hi | deltaEmpty hi | deltaRead hi
      | prune hi | notesRead hi | powerBusy hi _ | power hi _ _ | keyLoad hi | keyClear hi | identify hi =>
    exact h.of_stands (h.fine.of_eq rfl rfl) rfl hi.1 ⟨_, rfl, rfl, rfl⟩

/-- Settles O57: the head alone may pin a record, and room for it is kept from its consult on; the scan keeps clear of the
slots held. -/
theorem holdAndPinsStayWithinBounds : Obligations.HoldAndPinsStayWithinBounds := by
  unfold Obligations.HoldAndPinsStayWithinBounds
  intro s t hh hp hs hst
  have hk : Kept t := step_keeps (P := Kept) hst ((kept_iff s).mpr ⟨hh, hp, hs⟩) (fun _ h => ⟨h.fine, h.two, h.clear⟩)
    (fun _ _ h hd => kept_direct h hd) fun _ u h hu => by
      have hk := kept_settles h hu
      exact hk.of_moves (hk.fine.of_eq (by simp) (by simp)) (heldSlots_congr (by simp)) (.of_eq (by simp))
  obtain ⟨hh, hp, -⟩ := (kept_iff t).mp hk
  exact ⟨hh, hp⟩

end Sys2Proof.Proofs.HoldRule
end

section
/-! SUPPORT. The register window and reset (R114, R120, R139, R145, R166 to R169, R178): obligations O3, O4, O6, O7 and O54. -/

namespace Sys2Proof.Proofs.Window

open Sys2Proof Sys2Proof.Machine

/-! ### Reset -/

/-- Settles O3: the table entries are the fields of the state after reset. -/
theorem resetStateIsThatOfTheTables : Obligations.ResetStateIsThatOfTheTables := by
  unfold Obligations.ResetStateIsThatOfTheTables
  have hfilter : ∀ k : Fin 4096, State.reset.dnl.filter[k] = 0 := fun k => by simp [State.reset]
  refine ⟨by decide, by decide, by decide, by decide, ⟨rfl, rfl, rfl, rfl, rfl, rfl, rfl, hfilter⟩, by decide, by decide,
    by decide, by decide, by decide, rfl⟩

theorem denyRule_reset : denyRule State.reset.dnl := by
  have hfilter : filterRule State.reset.dnl := fun k => .inr (by simp [State.reset, inCell])
  have hstate : denyStateRule State.reset.dnl := ⟨by decide, by decide, fun _ => rfl⟩
  exact ⟨List.Pairwise.nil, by decide, hfilter, by simp [highestRule, State.reset], hstate, by simp [State.reset]⟩

/-- Settles O54: an empty part keeps every rule. -/
theorem resetIsWithinEveryRule : Obligations.ResetIsWithinEveryRule :=
  ⟨by decide, by decide, by decide, by decide, by decide, by decide, by decide, by decide, by decide,
    SeenRule.seenRule_emptySeen {}, denyRule_reset⟩

/-- Settles O6: a die found hot latches its flags; nothing else of the state before is left. -/
theorem resetReturnsEveryBlock : Obligations.ResetReturnsEveryBlock := by
  unfold Obligations.ResetReturnsEveryBlock
  intro d s
  refine ⟨rfl, _, rfl, ?_⟩
  by_cases hwarm : 105 ≤ clampTemp d
  · by_cases hshut : 125 ≤ clampTemp d
    · simp [resetPart, latchHotDie, warm, latchWarning, latchShutdown, reportLatch, State.reset, hwarm, hshut, raiseEvent]
    · simp [resetPart, latchHotDie, warm, latchWarning, reportLatch, State.reset, hwarm, hshut]
  · have hshut : ¬ 125 ≤ clampTemp d := by omega
    simp [resetPart, latchHotDie, State.reset, hwarm, hshut]

/-! ### CLEAR FAULTS (R120) -/

/-- A lifted block makes the sense reference none in DOZE; otherwise it stays. -/
def referenceAfter (lifts : Bool) (p : PowerEvents) : Option Nat :=
  if p.power = .doze ∧ lifts = true then none else p.senseReference

theorem blockLifted_eq (s : State) :
    blockLifted s = { s with pev := { s.pev with senseReference := referenceAfter true s.pev } } := by
  simp only [blockLifted, referenceAfter]
  split <;> simp_all

theorem referenceAfter_false (p : PowerEvents) : { p with senseReference := referenceAfter false p } = p := by
  simp [referenceAfter]

/-- Whether CLEAR FAULTS clears ANTENNA OPEN. -/
def openGoes (f : FieldMonitor) : Bool := f.antennaOpen && f.finding != .openAntenna

theorem clearOpen_eq (s : State) :
    clearOpen s = { s with
      fmn := { s.fmn with
        antennaOpen := s.fmn.antennaOpen && s.fmn.finding == .openAntenna, openBlock := s.fmn.openBlock && !openGoes s.fmn }
      pev := { s.pev with senseReference := referenceAfter (openGoes s.fmn && s.fmn.openBlock) s.pev } } := by
  by_cases h : s.fmn.antennaOpen = true ∧ s.fmn.finding ≠ .openAntenna
  · have hgoes : openGoes s.fmn = true := by simpa [openGoes] using h
    have hstays : (s.fmn.antennaOpen && s.fmn.finding == .openAntenna) = false := by simp [h.2]
    simp only [clearOpen, if_pos h, hgoes, hstays, blockLifted_eq]
    cases s.fmn.openBlock <;> simp [referenceAfter]
  · have hgoes : openGoes s.fmn = false := by simpa [openGoes] using h
    have hstays : (s.fmn.antennaOpen && s.fmn.finding == .openAntenna) = s.fmn.antennaOpen := by
      cases ha : s.fmn.antennaOpen <;> simp_all
    simp [clearOpen, h, hgoes, hstays, referenceAfter]

theorem clearOvercurrent_eq (s : State) :
    clearOvercurrent s = { s with
      fmn := { s.fmn with overcurrent := false, overcurrentBlock := s.fmn.overcurrentBlock && !s.fmn.overcurrent }
      pev := { s.pev with senseReference := referenceAfter (s.fmn.overcurrent && s.fmn.overcurrentBlock) s.pev } } := by
  simp only [clearOvercurrent, blockLifted_eq]
  cases hc : s.fmn.overcurrent
  · have he : { s.fmn with overcurrent := false } = s.fmn := by rw [← hc]
    simp [referenceAfter, he]
  · cases s.fmn.overcurrentBlock <;> simp [referenceAfter]

theorem referenceAfter_twice (a b : Bool) (p : PowerEvents) :
    referenceAfter b { p with senseReference := referenceAfter a p } = referenceAfter (a || b) p := by
  by_cases hp : p.power = .doze
  · cases a <;> cases b <;> simp [referenceAfter, hp]
  · simp [referenceAfter, hp]

theorem clearFaults_eq (s : State) :
    clearFaults s = { s with
      fmn := { s.fmn with
        antennaOpen := s.fmn.antennaOpen && s.fmn.finding == .openAntenna, openBlock := s.fmn.openBlock && !openGoes s.fmn
        overcurrent := false, overcurrentBlock := s.fmn.overcurrentBlock && !s.fmn.overcurrent
        thermalWarning := s.fmn.thermalWarning && s.fmn.reducedDuty
        thermalShutdown := s.fmn.thermalShutdown && s.fmn.shutdownBlock }
      pev := { s.pev with
        senseReference := referenceAfter
          (openGoes s.fmn && s.fmn.openBlock || s.fmn.overcurrent && s.fmn.overcurrentBlock) s.pev } } := by
  simp only [clearFaults, clearOpen_eq, clearOvercurrent_eq, clearThermal, referenceAfter_twice]

/-- Settles O7: each flag by whether it is set and its condition stands. -/
theorem clearFaultsTestsEachFlag : Obligations.ClearFaultsTestsEachFlag := by
  unfold Obligations.ClearFaultsTestsEachFlag
  intro s
  simp only [exec, execClearFaults, clearFaults_eq]
  rfl

/-! ### The registers (R139, R166, R169, R178) -/

theorem marks_getLsbD (a b c d : Bool) (i : Nat) (hi : i < 8) :
    (marks [a, b, c, d]).getLsbD i = (i == 0 && a || i == 1 && b || i == 2 && c || i == 3 && d) := by
  revert i
  cases a <;> cases b <;> cases c <;> cases d <;> decide

theorem code_testBit {n : Nat} (h : n < 4) {i : Nat} (hi : 2 ≤ i) : n.testBit i = false :=
  Nat.testBit_lt_two_pow (h.trans_le (Nat.pow_le_pow_right (by decide) hi : 2 ^ 2 ≤ 2 ^ i))

theorem runStateCode_lt (r : RunState) : runStateCode r < 4 := by cases r <;> decide
theorem haltCauseCode_lt (c : HaltCause) : haltCauseCode c < 4 := by cases c <;> decide
theorem powerCode_lt (p : PowerState) : powerCode p < 4 := by cases p <;> decide

/-- R169: the fields of CONTROL, each at its bits. -/
theorem readControl_getLsbD (s : State) (i : Nat) (hi : i < 32) :
    (readControl s).getLsbD i =
      (decide (16 ≤ i) && (runStateCode s.mpt.runState).testBit (i - 16)
        || decide (18 ≤ i) && (haltCauseCode s.mpt.haltCause).testBit (i - 18)
        || decide (20 ≤ i) && (powerCode s.pev.power).testBit (i - 20)
        || decide (24 ≤ i) && (latchedFlags s.fmn).getLsbD (i - 24)) := by
  have hlt : ∀ k, i - k < 32 := fun k => by omega
  have hle : ∀ k, (!decide (i < k)) = decide (k ≤ i) := fun k => by rw [← decide_not, decide_eq_decide, Nat.not_lt]
  simp only [readControl, BitVec.getLsbD_or, BitVec.getLsbD_shiftLeft, BitVec.getLsbD_ofNat, BitVec.getLsbD_setWidth, hi,
    hlt, hle, decide_true, Bool.true_and]

/-- R169: CONTROL reads 0 outside its fields, so a value read carries no command. -/
theorem readControl_zero (s : State) {i : Nat} (h : i < 16 ∨ i = 22 ∨ i = 23 ∨ 28 ≤ i) :
    (readControl s).getLsbD i = false := by
  by_cases hi : i < 32
  · rw [readControl_getLsbD s i hi]
    obtain h | h | h | h := h
    · simp [Nat.not_le.mpr h, Nat.not_le.mpr (h.trans (by decide : 16 < 18)), Nat.not_le.mpr (h.trans (by decide : 16 < 20)),
        Nat.not_le.mpr (h.trans (by decide : 16 < 24))]
    · subst h
      simp [code_testBit, runStateCode_lt, haltCauseCode_lt, powerCode_lt]
    · subst h
      simp [code_testBit, runStateCode_lt, haltCauseCode_lt, powerCode_lt]
    · have hm : (latchedFlags s.fmn).getLsbD (i - 24) = false := by
        rw [latchedFlags, marks_getLsbD _ _ _ _ _ (by omega)]
        have : i - 24 ≠ 0 ∧ i - 24 ≠ 1 ∧ i - 24 ≠ 2 ∧ i - 24 ≠ 3 := by omega
        simp [this]
      rw [hm, code_testBit (runStateCode_lt _) (by omega), code_testBit (haltCauseCode_lt _) (by omega),
        code_testBit (powerCode_lt _) (by omega)]
      simp
  · exact BitVec.getLsbD_of_ge _ _ (Nat.not_lt.mp hi)

theorem readControl_fields (s : State) :
    (readControl s).extractLsb' 16 2 = BitVec.ofNat 2 (runStateCode s.mpt.runState) ∧
      (readControl s).extractLsb' 18 2 = BitVec.ofNat 2 (haltCauseCode s.mpt.haltCause) ∧
      (readControl s).extractLsb' 20 2 = BitVec.ofNat 2 (powerCode s.pev.power) := by
  have hcode := fun k (h : 2 ≤ k) => code_testBit (runStateCode_lt s.mpt.runState) h
  have hcause := fun k (h : 2 ≤ k) => code_testBit (haltCauseCode_lt s.mpt.haltCause) h
  refine ⟨?_, ?_, ?_⟩
  all_goals
    refine BitVec.eq_of_getLsbD_eq fun i hi => ?_
    rw [BitVec.getLsbD_extractLsb', readControl_getLsbD s _ (by omega), BitVec.getLsbD_ofNat]
    obtain rfl | rfl : i = 0 ∨ i = 1 := by omega
    all_goals simp [hcode, hcause]

theorem readControl_flags (s : State) :
    (readControl s).getLsbD 24 = s.fmn.antennaOpen ∧ (readControl s).getLsbD 25 = s.fmn.overcurrent ∧
      (readControl s).getLsbD 26 = s.fmn.thermalWarning ∧ (readControl s).getLsbD 27 = s.fmn.thermalShutdown := by
  refine ⟨?_, ?_, ?_, ?_⟩
  all_goals
    rw [readControl_getLsbD s _ (by decide), latchedFlags, marks_getLsbD _ _ _ _ _ (by decide)]
    simp [code_testBit, runStateCode_lt, haltCauseCode_lt, powerCode_lt]

theorem readControl_mask (s : State) : readControl s &&& 0xF0C0FFFF = 0 := by
  refine BitVec.eq_of_getLsbD_eq fun i hi => ?_
  rw [BitVec.getLsbD_and]
  by_cases h : i < 16 ∨ i = 22 ∨ i = 23 ∨ 28 ≤ i
  · simp [readControl_zero s h]
  · have hmask : ∀ j : Fin 32, ¬ (j.val < 16 ∨ j.val = 22 ∨ j.val = 23 ∨ 28 ≤ j.val) →
        (0xF0C0FFFF : Word).getLsbD j.val = false := by decide
    rw [show (0xF0C0FFFF : Word).getLsbD i = false from hmask ⟨i, hi⟩ h, Bool.and_false]
    simp

theorem controlWrite_reads (b : Bool) (d : Int) (s : State) : controlWrite b d (readControl s) = [] := by
  have hz : ∀ i < 16, (readControl s).getLsbD i = false := fun i hi => readControl_zero s (.inl hi)
  simp only [controlWrite, hz 0 (by decide), hz 1 (by decide), hz 2 (by decide), hz 3 (by decide), hz 7 (by decide)]
  simp

/-- Settles O4: the fields of the registers, and the commands of a write. -/
theorem registersReadAndCommand : Obligations.RegistersReadAndCommand := by
  unfold Obligations.RegistersReadAndCommand
  refine ⟨fun v s => ⟨⟨_, rfl, fun i hi => ?_⟩, fun i hi => ?_, _, rfl, rfl, rfl⟩, fun s => ?_,
    fun b d v => ⟨fun h => by simp only [controlWrite, h]; rfl, fun h => ?_⟩⟩
  · have h32 : i < 32 := by omega
    simp [hi, h32]
  · rw [readEvents, BitVec.getLsbD_setWidth]
    by_cases h8 : i < 8
    · simp [hi, h8]
    · simp [h8, BitVec.getLsbD_of_ge s.pev.events i (Nat.not_lt.mp h8)]
  · obtain ⟨hr, hc, hp⟩ := readControl_fields s
    obtain ⟨ho, hi, hw, ht⟩ := readControl_flags s
    exact ⟨hr, hc, hp, ho, hi, hw, ht, readControl_mask s, fun b d => controlWrite_reads b d s⟩
  · simp only [controlWrite, h]
    generalize v.getLsbD 0 = start
    generalize v.getLsbD 1 = halt
    generalize v.getLsbD 2 = nudge
    generalize v.getLsbD 3 = clear
    revert b start halt nudge clear
    simp only [Bool.forall_bool]
    simp

end Sys2Proof.Proofs.Window
end

section
/-! SUPPORT. Obligations O2 and O59: every command ends in a next state (log 33), and every step keeps the field, the die, the bus
and the layout within their rules (R86, R116, R118, R119, R125, R144, R146). -/

namespace Sys2Proof.Proofs.FieldRule

open Sys2Proof Sys2Proof.Machine Sys2Proof.Proofs.Cases

/-! ### Commands complete -/

theorem exec_next (c : Instr) (s : State) : ∃ t, exec c s = .next t := by
  cases c
  all_goals
    simp only [exec, execAntennaOpenDetection, execAntennaCurrentRise, execOvercurrentDetection, execThermalWarning,
      execReducedDutyLift, execThermalShutdown, execShutdownBlockLift, execPassiveCheckEnd, execPresenceIntervalExpiry,
      execPresentationDeadline, execReplyLimitExpiry, execHello, execArea, execStampAck, execCheckStampReply,
      execCardInspect, execTokenInspect, execRoute, execPosition, execDenyReplace, execDenyDelta, execDenyPrune,
      execPeerNotes, execSeenExport, execFieldTest, execPower, execCancel, execKeyLoad, execKeyClear, execStatus,
      execIdentify, execJournalClaim, execReservationFill, execSeenUpdate, execStart, execHaltingEnd, execNudge, execHalt,
      execPollTimerExpiry, execMinuteTimerExpiry, execWakeTimerExpiry, execSenseTimerExpiry, execSensePulseEnd,
      execSettlingEnd, execMemoryResponse, execMemoryFault, execEventsWrite, execEventEnableWrite, execSetupAddressWrite,
      execReset, execResetLine, execClearFaults, settled]
    repeat' split
    all_goals exact ⟨_, rfl⟩

theorem pending_direct {s t : State} (h : Direct s t) : t.pending = s.pending := by
  cases h
  case reset => simp [resetPart, State.reset]
  all_goals simp

theorem pending_settles {s u : State} (h : Settles s u) : u.pending = s.pending := by cases h <;> simp

/-- Settles O2: each arm of the dispatch ends in a next state, and none touches the queue. -/
theorem everyCommandCompletes : Obligations.EveryCommandCompletes := by
  unfold Obligations.EveryCommandCompletes
  intro c s
  obtain ⟨t, ht⟩ := exec_next c s
  refine ⟨t, ht, ?_⟩
  obtain hd | ⟨u, hu, rfl⟩ := exec_cases ht
  · exact pending_direct hd
  · simpa using pending_settles hu

/-! ### Operations that leave the holder of the field -/

@[simp] theorem handOver_holder (t : HeldTask) (e : SessionEnd) (s : State) :
    (handOver t e s).clk.holder = s.clk.holder := by
  simp only [handOver]
  simp

@[simp] theorem haltSecond_holder (s : State) : (haltSecond s).clk.holder = s.clk.holder := by
  simp only [haltSecond]
  repeat' split
  all_goals simp

@[simp] theorem beginStamping_holder (n : Word) (s : State) :
    (beginStamping n s).clk.holder = s.clk.holder := by
  simp only [beginStamping]
  repeat' split
  all_goals simp

@[simp] theorem closeIfReady_holder (t : HeldTask) (e : SessionEnd) (o : Owed) (s : State) :
    (closeIfReady t e o s).clk.holder = s.clk.holder := by
  simp only [closeIfReady]
  repeat' split
  all_goals simp

@[simp] theorem cardEntryServed_holder (k : EntryKind) (n : Option Word) (s : State) :
    (cardEntryServed k n s).clk.holder = s.clk.holder := by
  simp only [cardEntryServed]
  repeat' split
  all_goals simp

@[simp] theorem fillServed_holder (s : State) : (fillServed s).clk.holder = s.clk.holder := by
  simp only [fillServed]
  repeat' split
  all_goals simp

@[simp] theorem entryServed_holder (k : EntryKind) (w : ClaimFor) (n : Option Word) (s : State) :
    (entryServed k w n s).clk.holder = s.clk.holder := by
  simp only [entryServed]
  repeat' split
  all_goals simp

@[simp] theorem grantClaim_holder (j : JournalJob) (r : Ring) (s : State) :
    (grantClaim j r s).clk.holder = s.clk.holder := by
  simp only [grantClaim]
  repeat' split
  all_goals simp

@[simp] theorem entryWritten_holder (j : JournalJob) (n : Word) (s : State) :
    (entryWritten j n s).clk.holder = s.clk.holder := by
  simp only [entryWritten]
  repeat' split
  all_goals simp

@[simp] theorem journalGoesOn_holder (b : List Byte) (s : State) :
    (journalGoesOn b s).clk.holder = s.clk.holder := by
  simp only [journalGoesOn]
  repeat' split
  all_goals simp

@[simp] theorem emptyForTrip_holder (s : State) : (emptyForTrip s).clk.holder = s.clk.holder := rfl

@[simp] theorem routeServed_holder (sc : Scan) (t : Task) (r : RouteRequest) (b : List Byte) (s : State) :
    (routeServed sc t r b s).clk.holder = s.clk.holder := by
  simp only [routeServed]
  split
  all_goals simp

@[simp] theorem servingGoesOn_holder (sc : Scan) (t : Task) (g : ServeStage) (b : List Byte) (s : State) :
    (servingGoesOn sc t g b s).clk.holder = s.clk.holder := by
  simp only [servingGoesOn]
  split
  all_goals simp

/-! ### The field and its blocks -/

/-- R86, R116: no field under a block, and no passive check under a field. -/
structure FieldOk (s : State) : Prop where
  unblocked : s.clk.holder ≠ .none → fieldBlocked s = false
  passive : s.fmn.passive.isSome = true → s.clk.holder = .none

theorem fieldRule_iff (s : State) : fieldRule s = true ↔ FieldOk s := by
  simp only [fieldRule, Bool.and_eq_true, Bool.or_eq_true, beq_iff_eq, Bool.not_eq_true', Option.isNone_iff_eq_none]
  constructor
  · rintro ⟨hb, hp⟩
    exact ⟨hb.resolve_left, fun h => hp.resolve_left (Option.isSome_iff_ne_none.mp h)⟩
  · rintro ⟨hb, hp⟩
    refine ⟨Decidable.or_iff_not_imp_left.mpr hb, ?_⟩
    cases hs : s.fmn.passive with
    | none => exact .inl rfl
    | some p => exact .inr (hp (by simp [hs]))

/-- A field that is off is within the rule. -/
theorem FieldOk.off {s : State} (h : s.clk.holder = .none) : FieldOk s := ⟨fun hn => absurd h hn, fun _ => h⟩

theorem fieldBlocked_congr {s u : State} (ho : u.fmn.openBlock = s.fmn.openBlock)
    (hc : u.fmn.overcurrentBlock = s.fmn.overcurrentBlock) (hs : u.fmn.shutdownBlock = s.fmn.shutdownBlock) :
    fieldBlocked u = fieldBlocked s := by
  simp only [fieldBlocked, ho, hc, hs]

theorem FieldOk.of_eq {s u : State} (h : FieldOk s) (hc : u.clk.holder = s.clk.holder)
    (hb : fieldBlocked u = fieldBlocked s) (hp : u.fmn.passive = s.fmn.passive) : FieldOk u :=
  ⟨by rw [hc, hb]; exact h.unblocked, by rw [hc, hp]; exact h.passive⟩

theorem FieldOk.of_fmn {s u : State} (h : FieldOk s) (hc : u.clk.holder = s.clk.holder) (hf : u.fmn = s.fmn) : FieldOk u :=
  h.of_eq hc (by simp only [fieldBlocked, hf]) (by rw [hf])

theorem turnOff_holder (s : State) : (turnOff s).clk.holder = .none := rfl

@[simp] theorem latchOpen_fmn (s : State) : (latchOpen s).fmn = { s.fmn with antennaOpen := true } := by simp [latchOpen]

@[simp] theorem latchOvercurrent_fmn (s : State) : (latchOvercurrent s).fmn = { s.fmn with overcurrent := true } := by
  simp [latchOvercurrent]

@[simp] theorem latchWarning_fmn (s : State) : (latchWarning s).fmn = { s.fmn with thermalWarning := true } := by
  simp [latchWarning]

@[simp] theorem latchShutdown_fmn (s : State) : (latchShutdown s).fmn = { s.fmn with thermalShutdown := true } := by
  simp [latchShutdown]

@[simp] theorem warm_fmn (s : State) : (warm s).fmn = { s.fmn with thermalWarning := true, reducedDuty := true } := by
  simp [warm]

theorem releaseHead_fieldOk {s : State} (h : FieldOk s) : FieldOk (releaseHead s) := by
  simp only [releaseHead]
  split
  · exact .off rfl
  · exact h.of_fmn rfl rfl

theorem closeHead_fieldOk {s : State} (h : FieldOk s) (t : HeldTask) (e : SessionEnd) (o : Owed) :
    FieldOk (closeHead t e o s) := by
  have hr := releaseHead_fieldOk h
  simp only [closeHead]
  split
  · exact hr.of_fmn (by simp) (by simp)
  · exact hr.of_fmn (by simp) (by simp)

theorem endAsking_fieldOk {s : State} (h : FieldOk s) (t : HeldTask) (c : Completion) : FieldOk (endAsking t c s) :=
  closeHead_fieldOk (h.of_fmn (by simp) (by simp)) _ _ _

theorem endDeciding_fieldOk {s : State} (h : FieldOk s) (t : HeldTask) (p : RidePlan) (c : Completion) (v : VoidCause) :
    FieldOk (endDeciding t p c v s) := closeHead_fieldOk (h.of_fmn (by simp) (by simp)) _ _ _

theorem settleStamp_fieldOk {s : State} (h : FieldOk s) (t : HeldTask) (d : Draft) (p : RidePlan) (o : StampOutcome) :
    FieldOk (settleStamp t d p o s) := by
  simp only [settleStamp]
  split
  · exact h
  · exact closeHead_fieldOk (h.of_fmn (by simp) (by simp)) _ _ _

theorem abandonPassive_fmn (r : FieldTestResult) (s : State) : (abandonPassive r s).fmn = { s.fmn with passive := none } := by
  simp only [abandonPassive]
  split
  · rw [← ‹s.fmn.passive = none›]
  · simp
  · simp

theorem abandonPassive_fieldOk {s : State} (h : s.clk.holder ≠ .none → fieldBlocked s = false) (r : FieldTestResult) :
    FieldOk (abandonPassive r s) := by
  have hc : (abandonPassive r s).clk = s.clk := by simp
  have hb : fieldBlocked (abandonPassive r s) = fieldBlocked s := by simp only [fieldBlocked, abandonPassive_fmn]
  exact ⟨by rw [hc, hb]; exact h, by simp [abandonPassive_fmn]⟩

theorem turnOn_fieldOk {s : State} (hb : fieldBlocked s = false) (h : FieldHolder) : FieldOk (turnOn h s) := by
  have hpre : ∀ u : State, u.fmn.openBlock = s.fmn.openBlock → u.fmn.overcurrentBlock = s.fmn.overcurrentBlock →
      u.fmn.shutdownBlock = s.fmn.shutdownBlock → FieldOk (abandonPassive .busy u) := fun u ho hc hs =>
    abandonPassive_fieldOk (fun _ => (fieldBlocked_congr ho hc hs).trans hb) .busy
  exact hpre _ rfl rfl rfl

theorem beginHead_fieldOk {s : State} (h : FieldOk s) : FieldOk (beginHead s) := by
  simp only [beginHead, beginSession]
  split
  · exact h
  · split
    · split
      · exact h.of_fmn (by simp) (by simp)
      · split
        · have hn := turnOn_fieldOk (Bool.eq_false_iff.mpr ‹¬ fieldBlocked s = true›) .session
          exact hn.of_fmn (by simp [grantHead]) (by simp [grantHead])
        · exact h
    · exact h

/-- R162: with the field off, a waiting check may begin. -/
theorem afterPulse_fieldOk {s : State} (h : s.clk.holder = .none) : FieldOk (afterPulse s) := by
  simp only [afterPulse]
  split
  · exact beginHead_fieldOk (.off (by simpa using h))
  · exact beginHead_fieldOk (.off h)

theorem fieldFailed_fieldOk {s : State} (h : FieldOk s) (t : HeldTask) : FieldOk (fieldFailed t s) := by
  simp only [fieldFailed]
  split
  · exact closeHead_fieldOk h _ _ _
  · exact closeHead_fieldOk h _ _ _
  · exact endAsking_fieldOk h _ _
  · exact endDeciding_fieldOk h _ _ _ _
  · exact settleStamp_fieldOk h _ _ _ _
  · exact h
  · exact h

/-- R87: whatever blocks have come in force, a field forced off is within the rule. -/
theorem forceOff_fieldOk (s : State) : FieldOk (forceOff s) := by
  have hoff : FieldOk (turnOff s) := .off rfl
  simp only [forceOff]
  split
  · exact .off ‹_›
  · exact afterPulse_fieldOk rfl
  · split
    · exact hoff
    · exact fieldFailed_fieldOk hoff _

theorem shutDown_fieldOk (s : State) : FieldOk (shutDown s) :=
  abandonPassive_fieldOk (forceOff_fieldOk _).unblocked .skipped

/-- A block that lifts. -/
theorem FieldOk.lifts {s u : State} (h : FieldOk s) (hc : u.clk.holder = s.clk.holder)
    (hb : fieldBlocked s = false → fieldBlocked u = false) (hp : u.fmn.passive = s.fmn.passive) : FieldOk u :=
  ⟨by rw [hc]; exact fun hn => hb (h.unblocked hn), by rw [hc, hp]; exact h.passive⟩

theorem liftShutdown_fieldOk {s : State} (h : FieldOk s) : FieldOk (liftShutdown s) := by
  simp only [liftShutdown]
  split
  · refine h.lifts (by simp) ?_ (by simp)
    simp only [fieldBlocked, blockLifted_keeps]
    simp +contextual
  · exact h

theorem dieMoves_fieldOk {s : State} (h : FieldOk s) (d : Int) : FieldOk (dieMoves d s) := by
  simp only [dieMoves]
  generalize hw : (if 105 ≤ clampTemp d then warm { s with fmn := { s.fmn with dieTemp := clampTemp d } }
    else { s with fmn := { s.fmn with dieTemp := clampTemp d } }) = w
  have hwarm : FieldOk w := by
    subst hw
    split
    · exact h.of_eq (by simp) (by simp [fieldBlocked]) (by simp)
    · exact h.of_eq rfl rfl rfl
  have hshut : FieldOk (if 125 ≤ clampTemp d then shutDown w else w) := by
    split
    · exact shutDown_fieldOk w
    · exact hwarm
  generalize (if 125 ≤ clampTemp d then shutDown w else w) = x at hshut
  have hlift : FieldOk (if clampTemp d < 110 then liftShutdown x else x) := by
    split
    · exact liftShutdown_fieldOk hshut
    · exact hshut
  split
  · exact hlift.of_eq (by simp) (by simp [fieldBlocked]) (by simp)
  · exact hlift

theorem antennaLost_fieldOk {s : State} (h : FieldOk s) : FieldOk (antennaLost s) := by
  simp only [antennaLost]
  split
  · exact forceOff_fieldOk _
  · exact h.of_eq (by simp) (by simp [fieldBlocked]) (by simp)

theorem overcurrent_fieldOk (s : State) : FieldOk (overcurrent s) := forceOff_fieldOk _

/-! ### Sessions and HALTING -/

theorem exhausted_fieldOk {s : State} (h : FieldOk s) (t : HeldTask) : FieldOk (exhausted t s) := by
  simp only [exhausted]
  split
  · exact closeHead_fieldOk h _ _ _
  · exact h.of_fmn (by simp) (by simp)
  · exact settleStamp_fieldOk h _ _ _ _
  all_goals exact h

theorem tryFails_fieldOk {s : State} (h : FieldOk s) (t : HeldTask) : FieldOk (tryFails t s) := by
  simp only [tryFails]
  split
  · exact h.of_fmn (by simp) (by simp)
  · exact exhausted_fieldOk h t

theorem replyFails_fieldOk {s : State} (h : FieldOk s) : FieldOk (replyFails s) := by
  simp only [replyFails]
  split
  · exact h
  · split
    · exact h.of_fmn (by simp) (by simp)
    · exact tryFails_fieldOk h _
    · exact tryFails_fieldOk h _
    all_goals exact h

theorem helloTaken_fieldOk {s : State} (h : FieldOk s) (t : HeldTask) (l : LinkStatus) (c : Cred) (f : Byte) (b : Bool) :
    FieldOk (helloTaken t l c f b s) := by
  simp only [helloTaken]
  repeat' split
  · exact closeHead_fieldOk h _ _ _
  · exact h.of_fmn (by simp) (by simp)
  · exact h.of_fmn (by simp) (by simp)

theorem checkTaken_fieldOk {s : State} (h : FieldOk s) (t : HeldTask) (d : Draft) (p : RidePlan) (r : StampStanding) :
    FieldOk (checkTaken t d p r s) := by
  simp only [checkTaken]
  split
  · exact h
  · exact settleStamp_fieldOk h _ _ _ _

theorem refuseRide_fieldOk {s : State} (h : FieldOk s) (t : HeldTask) (d : Draft) (p : RidePlan) (w : VerdictReason)
    (o : Owed) : FieldOk (refuseRide t d p w o s) := closeHead_fieldOk (s := sendUpdate _ s) (h.of_fmn rfl rfl) _ _ _

theorem decideCard_fieldOk {s : State} (h : FieldOk s) (t : HeldTask) (a : Asking) (r : Replies) (l : List JournalJob) :
    FieldOk (decideCard t a r l s) := by
  have hc : FieldOk (conclude a r l s).1 := h.of_fmn (by simp) (by simp)
  simp only [decideCard, seekReservation]
  repeat' split
  · exact closeHead_fieldOk hc _ _ _
  · exact refuseRide_fieldOk hc _ _ _ _ _
  · exact hc.of_fmn (by simp) (by simp)
  · exact hc.of_fmn (by simp) (by simp)

theorem askCard_fieldOk {s : State} (h : FieldOk s) (t : HeldTask) (w : Asks) (a : Asking) : FieldOk (askCard t w a s) := by
  have hb : FieldOk (askBlocks w a s).state := h.of_fmn (by simp) (by simp)
  simp only [askCard]
  split
  · exact hb.of_fmn (by simp) (by simp)
  · exact decideCard_fieldOk hb _ _ _ _

theorem haltHead_fieldOk {s : State} (h : FieldOk s) : FieldOk (haltHead s) := by
  simp only [haltHead]
  split
  · exact h
  · split
    · exact h.of_fmn (by simp) (by simp)
    · exact closeHead_fieldOk h _ _ _
    · exact closeHead_fieldOk h _ _ _
    · exact endAsking_fieldOk h _ _
    · exact endDeciding_fieldOk h _ _ _ _
    · exact settleStamp_fieldOk h _ _ _ _
    · exact h

theorem haltSecond_fieldOk {s : State} (h : FieldOk s) : FieldOk (haltSecond s) := by
  simp only [haltSecond]
  repeat' split
  · exact h
  · exact h
  · exact h.of_fmn (by simp) (by simp)
  · exact h

theorem enterHalting_fieldOk {s : State} (h : FieldOk s) : FieldOk (enterHalting s) :=
  haltHead_fieldOk (haltSecond_fieldOk (h.of_fmn rfl rfl))

theorem cancelHeld_fieldOk {s : State} (h : FieldOk s) (t : HeldTask) : FieldOk (cancelHeld t s) := by
  simp only [cancelHeld]
  split
  · exact h.of_fmn (by simp) (by simp)
  · exact closeHead_fieldOk h _ _ _
  · exact closeHead_fieldOk h _ _ _
  · exact endAsking_fieldOk h _ _
  · exact endDeciding_fieldOk h _ _ _ _
  all_goals exact h

theorem cancelTaken_fieldOk {s : State} (h : FieldOk s) (sc : Scan) (g : Half) (n : Nat) (x k : Byte) :
    FieldOk (cancelTaken sc g n x k s) := by
  simp only [cancelTaken, cancelOfHeld]
  repeat' split
  · exact h.of_fmn rfl rfl
  · exact h.of_fmn rfl rfl
  · exact cancelHeld_fieldOk (s := serveOn sc _ _ s) (h.of_fmn rfl rfl) _
  · exact h.of_fmn (by simp) (by simp)

/-! ### The Journal Writer and those it answers -/

theorem reservationRefused_fieldOk {s : State} (h : FieldOk s) : FieldOk (reservationRefused s) := by
  simp only [reservationRefused]
  split
  · exact h
  · split
    · exact refuseRide_fieldOk h _ _ _ _ _
    all_goals exact h

theorem serveClaim_fieldOk {s : State} (h : FieldOk s) (j : JournalJob) (m : Byte) (ring : Ring) :
    FieldOk (serveClaim j m ring s) := by
  simp only [serveClaim, refuseClaim]
  repeat' split
  · exact h.of_fmn (by simp) (by simp)
  · exact h.of_fmn (by simp) (by simp)
  · exact reservationRefused_fieldOk (h.of_fmn (by simp) (by simp))
  · exact h.of_fmn (by simp) (by simp)
  · exact h.of_fmn (by simp) (by simp)

/-! ### Start-up, power and the hold -/

theorem sweepFrom_fieldOk {s : State} (h : FieldOk s) (i : Nat) : FieldOk (sweepFrom i s) := by
  simp only [sweepFrom]
  split
  · exact enterHalting_fieldOk h
  · split <;> exact h.of_fmn (by simp) (by simp)

theorem startUpGoesOn_fieldOk {s : State} (h : FieldOk s) (p : StartPhase) (data : List Byte) :
    FieldOk (startUpGoesOn p data s) := by
  simp only [startUpGoesOn, checkSetup]
  repeat' split
  · exact h.of_fmn (by simp) (by simp)
  · exact sweepFrom_fieldOk (h.of_eq (by simp) (by simp [handSetup, fieldBlocked]) (by simp [handSetup])) 0
  · exact h.of_fmn (by simp) (by simp)
  · exact sweepFrom_fieldOk h _
  · exact h.of_fmn (by simp) (by simp)
  · exact h.of_fmn (by simp) (by simp)
  · exact sweepFrom_fieldOk (h.of_fmn (by simp) (by simp)) _

theorem endPulse_fieldOk {s : State} (h : FieldOk s) : FieldOk (endPulse s) := by
  simp only [endPulse]
  split
  · exact .off rfl
  · exact h

theorem haltRunning_fieldOk {s : State} (h : FieldOk s) : FieldOk (haltRunning s) := by
  simp only [haltRunning]
  split
  · exact enterHalting_fieldOk h
  · exact enterHalting_fieldOk h
  · exact enterHalting_fieldOk (endPulse_fieldOk (h.of_fmn (by simp) (by simp)))
  · exact h.of_fmn rfl rfl

theorem enterPower_fieldOk {s : State} (h : FieldOk s) (c : PowerChange) : FieldOk (enterPower c s) := by
  have he := endPulse_fieldOk h
  simp only [enterPower]
  split
  · exact he.of_fmn rfl rfl
  · exact ⟨he.unblocked, fun hp => by cases hp⟩
  · exact h.of_fmn rfl rfl
  · exact h.of_fmn rfl rfl

theorem powerDone_fieldOk {s : State} (h : FieldOk s) (sc : Scan) (c : PowerChange) : FieldOk (powerDone sc c s) := by
  simp only [powerDone, endScanInto]
  split
  · split
    · have he := enterPower_fieldOk (s := closeScan sc { s with ssc := { s.ssc with extraScan := false } }) (h.of_fmn rfl rfl) c
      split
      · exact he.of_fmn (by simp) (by simp)
      · exact he
    · exact h.of_fmn (by simp) (by simp)
  · exact (enterPower_fieldOk h c).of_fmn (by simp) (by simp)

theorem scanGoesOn_fieldOk {s : State} (h : FieldOk s) (sc : Scan) (data : List Byte) : FieldOk (scanGoesOn sc data s) := by
  simp only [scanGoesOn]
  split
  case h_8 =>
    simp only [doneWritten]
    split
    · exact h.of_fmn (by simp) (by simp)
    · exact powerDone_fieldOk (h.of_fmn (by simp) (by simp)) _ _
  all_goals exact h.of_fmn (by simp) (by simp)

theorem enterHold_fieldOk {s : State} (h : FieldOk s) (i : Nat) (g : Half) (r : CardRequest) :
    FieldOk (enterHold i g r s) := by
  simp only [enterHold]
  split
  · exact h.of_fmn (by simp) (by simp)
  · split
    · exact beginHead_fieldOk (h.of_fmn rfl rfl)
    · exact h.of_fmn rfl rfl

theorem leaveHold_fieldOk {s : State} (h : FieldOk s) (i : Nat) : FieldOk (leaveHold i s) := by
  simp only [leaveHold]
  split
  · exact beginHead_fieldOk (h.of_fmn rfl rfl)
  · exact h.of_fmn rfl rfl

theorem cardGoesOn_fieldOk {s : State} (h : FieldOk s) (i : Nat) : FieldOk (cardGoesOn i s) := by
  simp only [cardGoesOn]
  split
  · exact h
  · split
    · exact h.of_fmn (by simp) (by simp)
    · exact (leaveHold_fieldOk (s := raiseEvent evTaskDone s) (h.of_fmn rfl rfl) i).of_fmn (by simp) (by simp)
    all_goals exact h

theorem resume_fieldOk {s : State} (h : FieldOk s) (c : Client) (data : List Byte) : FieldOk (resume c data s) := by
  simp only [resume]
  split
  · exact startUpGoesOn_fieldOk h _ _
  · exact h
  · exact scanGoesOn_fieldOk h _ _
  · exact h
  · exact cardGoesOn_fieldOk h _
  · exact h.of_fmn (by simp) (by simp)

theorem measure_fieldOk {s : State} (h : FieldOk s) (d : Int) : FieldOk (Machine.measure d s) := by
  simp only [Machine.measure]
  split <;> exact h.of_eq rfl rfl rfl

theorem statusAsked_fieldOk {s : State} (h : FieldOk s) (sc : Scan) (t : Task) (a : Word) (d : Int) (b : Bool)
    (l m : List StatusBlock) (r : StatusRecord) : FieldOk (statusAsked sc t a d b l m r s) := by
  have hm := measure_fieldOk h d
  simp only [statusAsked]
  generalize (m.filter fun b => statusDue l s b).contains .fieldMonitor = asked
  cases asked
  all_goals simp only [Bool.false_eq_true, if_true, if_false]
  all_goals split
  · exact h.of_fmn rfl rfl
  · exact h.of_fmn rfl rfl
  · exact hm.of_fmn rfl rfl
  · exact hm.of_fmn rfl rfl

/-! ### Every command -/

theorem fieldOk_direct {s t : State} (h : FieldOk s) (hd : Direct s t) : FieldOk t := by
  cases hd
  case reset d => exact .off (by simp [resetPart, State.reset])
  case fault => exact .off (by simp [memoryFaultHalts])
  case clearFaults =>
    rw [Window.clearFaults_eq]
    refine h.lifts rfl (fun hb => ?_) rfl
    simp only [fieldBlocked, Bool.or_eq_false_iff] at hb ⊢
    simp [hb]
  case currentRise => exact h.of_eq rfl rfl rfl
  all_goals exact h.of_fmn (by simp) (by simp)

theorem fieldOk_settles {s u : State} (h : FieldOk s) (hu : Settles s u) : FieldOk u := by
  cases hu
  case halt => exact haltRunning_fieldOk h
  case answered a data hf ha => exact resume_fieldOk (s := { s with mpt := freeBus s }) (h.of_fmn rfl rfl) a.client data
  case wakeTimer n hw hr hp =>
    simp only [wakeExpires]
    split
    · exact .off (by simpa using ‹s.clk.holder = .none›)
    · exact h.of_fmn rfl rfl
  case sense hr hp hh hb => exact turnOn_fieldOk hb .sense
  case pulseEnd m hh =>
    refine afterPulse_fieldOk ?_
    simp only [senseMeasured, wakeByCard]
    repeat' split
    all_goals rfl
  case checkEnd use carried d hu =>
    have hn : s.clk.holder = .none := h.passive (by simp [hu])
    exact .off (by simpa using hn)
  case wakeToHalt => exact enterHalting_fieldOk (h.of_fmn (by simp) (by simp))
  case deadline => exact closeHead_fieldOk h _ _ _
  case replyFails => exact replyFails_fieldOk h
  case antennaLost => exact antennaLost_fieldOk h
  case overcurrent => exact overcurrent_fieldOk s
  case dieMoves d => exact dieMoves_fieldOk h d
  case hello => exact helloTaken_fieldOk h _ _ _ _ _
  case area => exact askCard_fieldOk (s := sendTry 0 s) (h.of_fmn rfl rfl) _ _ _
  case asking => exact askCard_fieldOk h _ _ _
  case checkReply => exact checkTaken_fieldOk h _ _ _ _
  case cardInspect sc g r hi =>
    have he := enterHold_fieldOk h sc.index g r
    exact he.of_fmn (by simp) (by simp)
  case fieldTest sc g d hi =>
    simp only [fieldTested]
    repeat' split
    · exact (measure_fieldOk h d).of_fmn rfl rfl
    · exact (measure_fieldOk h d).of_fmn rfl rfl
    · exact .off (by simpa using ‹¬(Machine.measure d s).clk.holder ≠ .none›)
  case cancel => exact cancelTaken_fieldOk h _ _ _ _ _
  case status => exact statusAsked_fieldOk h _ _ _ _ _ _ _ _
  case statusAsk => exact statusAsked_fieldOk h _ _ _ _ _ _ _ _
  case journalClaim => exact serveClaim_fieldOk h _ _ _
  all_goals exact h.of_fmn (by simp) (by simp)

/-! ### The die (R112, R118, R119) -/

theorem heatRule_congr {s u : State} (h : heatRule s = true) (ht : u.fmn.dieTemp = s.fmn.dieTemp)
    (hb : u.fmn.shutdownBlock = s.fmn.shutdownBlock) (hr : u.fmn.reducedDuty = s.fmn.reducedDuty) : heatRule u = true := by
  simpa only [heatRule, tempQuiet, ht, hb, hr] using h

theorem clampTemp_range (d : Int) : -40 ≤ clampTemp d ∧ clampTemp d ≤ 150 := by
  unfold clampTemp
  omega

/-- A temperature with its blocks in step with it is within the rule. -/
theorem heatRule_of {s : State} {d : Int} (ht : s.fmn.dieTemp = clampTemp d)
    (hb : (s.fmn.shutdownBlock = true → 110 ≤ clampTemp d) ∧ (s.fmn.shutdownBlock = false → clampTemp d < 125))
    (hr : (s.fmn.reducedDuty = true → 95 < clampTemp d) ∧ (s.fmn.reducedDuty = false → clampTemp d < 105)) :
    heatRule s = true := by
  obtain ⟨hlow, hhigh⟩ := clampTemp_range d
  simp only [heatRule, tempQuiet, ht, Bool.and_eq_true, decide_eq_true_eq]
  refine ⟨⟨⟨hlow, hhigh⟩, ?_⟩, ?_⟩
  · split
    · simpa using hb.1 ‹_›
    · simpa using hb.2 (Bool.eq_false_iff.mpr ‹_›)
  · split
    · simpa using hr.1 ‹_›
    · simpa using hr.2 (Bool.eq_false_iff.mpr ‹_›)

/-- R118, R119: after a move of the die its blocks are in step. -/
theorem shutDown_shutdownBlock (s : State) : (shutDown s).fmn.shutdownBlock = true := by simp [shutDown]

theorem liftShutdown_fmn (s : State) : (liftShutdown s).fmn = { s.fmn with shutdownBlock := false } := by
  simp only [liftShutdown]
  split
  · simp
  · rw [← Bool.eq_false_iff.mpr ‹¬ s.fmn.shutdownBlock = true›]

theorem dieMoves_heatRule (d : Int) (s : State) : heatRule (dieMoves d s) = true := by
  simp only [dieMoves]
  generalize hw : (if 105 ≤ clampTemp d then warm { s with fmn := { s.fmn with dieTemp := clampTemp d } }
    else { s with fmn := { s.fmn with dieTemp := clampTemp d } }) = w
  have hwt : w.fmn.dieTemp = clampTemp d := by subst hw; split <;> simp
  have hwr : 105 ≤ clampTemp d → w.fmn.reducedDuty = true := fun hd => by subst hw; simp [hd]
  generalize hx : (if 125 ≤ clampTemp d then shutDown w else w) = x
  have hxt : x.fmn.dieTemp = clampTemp d := by subst hx; split <;> simp [hwt]
  have hxr : 105 ≤ clampTemp d → x.fmn.reducedDuty = true := fun hd => by subst hx; split <;> simp [hwr hd]
  have hxb : 125 ≤ clampTemp d → x.fmn.shutdownBlock = true := fun hd => by
    subst hx; simp [hd, shutDown_shutdownBlock]
  generalize hy : (if clampTemp d < 110 then liftShutdown x else x) = y
  have hyt : y.fmn.dieTemp = clampTemp d := by subst hy; split <;> simp [hxt, liftShutdown_fmn]
  have hyr : 105 ≤ clampTemp d → y.fmn.reducedDuty = true := fun hd => by
    subst hy; split <;> simp [hxr hd, liftShutdown_fmn]
  have hyb : (y.fmn.shutdownBlock = true → 110 ≤ clampTemp d) ∧ (y.fmn.shutdownBlock = false → clampTemp d < 125) := by
    subst hy
    split
    · exact ⟨by simp [liftShutdown_fmn], fun _ => by omega⟩
    · refine ⟨fun _ => by omega, fun hb => ?_⟩
      by_contra hn
      rw [hxb (by omega)] at hb
      cases hb
  split
  · exact heatRule_of (by simpa using hyt) (by simpa using hyb) (by simp; omega)
  · refine heatRule_of hyt hyb ⟨fun _ => by omega, fun hr => ?_⟩
    by_contra hn
    rw [hyr (by omega)] at hr
    cases hr

theorem measure_heatRule {s : State} (h : heatRule s = true) (d : Int) : heatRule (Machine.measure d s) = true := by
  simp only [Machine.measure]
  split
  · exact ‹tempQuiet d s.fmn = true›
  · exact h

theorem resetPart_heatRule (d : Int) (s : State) : heatRule (resetPart d s) = true := by
  have hr := Window.resetReturnsEveryBlock d s
  obtain ⟨-, t, ht, hf, -⟩ := hr
  cases ht
  refine heatRule_of (d := d) (by rw [hf]) ?_ ?_
  · rw [hf]
    exact ⟨fun hb => by have := of_decide_eq_true hb; omega, fun hb => by have := of_decide_eq_false hb; omega⟩
  · rw [hf]
    exact ⟨fun hb => by have := of_decide_eq_true hb; omega, fun hb => by have := of_decide_eq_false hb; omega⟩

theorem statusAsked_fmn (sc : Scan) (t : Task) (a : Word) (d : Int) (b : Bool) (l m : List StatusBlock) (r : StatusRecord)
    (s : State) :
    (statusAsked sc t a d b l m r s).fmn = s.fmn ∨ (statusAsked sc t a d b l m r s).fmn = (Machine.measure d s).fmn := by
  simp only [statusAsked]
  generalize (m.filter fun b => statusDue l s b).contains .fieldMonitor = asked
  cases asked
  · left
    split <;> rfl
  · right
    split <;> rfl

theorem statusAsked_heatRule {s : State} (h : heatRule s = true) (sc : Scan) (t : Task) (a : Word) (d : Int) (b : Bool)
    (l m : List StatusBlock) (r : StatusRecord) : heatRule (statusAsked sc t a d b l m r s) = true := by
  obtain he | he := statusAsked_fmn sc t a d b l m r s
  · simpa only [heatRule, he] using h
  · simpa only [heatRule, he] using measure_heatRule h d

theorem heatRule_direct {s t : State} (h : heatRule s = true) (hd : Direct s t) : heatRule t = true := by
  cases hd
  case reset d => exact resetPart_heatRule d s
  case fault => exact heatRule_congr h (by simp [memoryFaultHalts]) (by simp [memoryFaultHalts]) (by simp [memoryFaultHalts])
  case clearFaults =>
    rw [Window.clearFaults_eq]
    exact h
  all_goals exact heatRule_congr h (by simp) (by simp) (by simp)

theorem askCard_die (t : HeldTask) (w : Asks) (a : Asking) (s : State) :
    (askCard t w a s).fmn.dieTemp = s.fmn.dieTemp ∧ (askCard t w a s).fmn.shutdownBlock = s.fmn.shutdownBlock ∧
      (askCard t w a s).fmn.reducedDuty = s.fmn.reducedDuty := by
  simp only [askCard]
  split <;> simp

theorem askCard_heatRule {s : State} (h : heatRule s = true) (t : HeldTask) (w : Asks) (a : Asking) :
    heatRule (askCard t w a s) = true := by
  obtain ⟨ht, hb, hr⟩ := askCard_die t w a s
  exact heatRule_congr h ht hb hr

theorem heatRule_settles {s u : State} (h : heatRule s = true) (hu : Settles s u) : heatRule u = true := by
  cases hu
  case dieMoves d => exact dieMoves_heatRule d s
  case checkEnd use carried d hu =>
    have hm := measure_heatRule h d
    exact heatRule_congr hm (by simp) (by simp) (by simp)
  case fieldTest sc g d hi =>
    have hm := measure_heatRule h d
    exact heatRule_congr hm (by simp) (by simp) (by simp)
  case area => exact askCard_heatRule (s := sendTry 0 s) h _ _ _
  case asking => exact askCard_heatRule h _ _ _
  case status => exact statusAsked_heatRule h _ _ _ _ _ _ _ _
  case statusAsk => exact statusAsked_heatRule h _ _ _ _ _ _ _ _
  all_goals exact heatRule_congr h (by simp) (by simp) (by simp)

/-! ### The layout (R125, R132, R146, R147) -/

theorem layoutRule_congr {s u : State} (h : layoutRule s = true) (hs : u.ssc.sheet = s.ssc.sheet)
    (hp : u.ssc.pollInterval = s.ssc.pollInterval) (hr : u.jnw.ring = s.jnw.ring) (hc : u.jnw.cursor = s.jnw.cursor) :
    layoutRule u = true := by
  simpa only [layoutRule, hs, hp, hr, hc] using h

@[simp] theorem askCard_layout (t : HeldTask) (w : Asks) (a : Asking) (s : State) :
    (askCard t w a s).jnw.ring = s.jnw.ring ∧ (askCard t w a s).jnw.cursor = s.jnw.cursor := by
  simp only [askCard]
  split <;> simp

@[simp] theorem askToken_layout (sc : Scan) (t : Task) (w : Asks) (a : Asking) (s : State) :
    (askToken sc t w a s).jnw.ring = s.jnw.ring ∧ (askToken sc t w a s).jnw.cursor = s.jnw.cursor := by
  simp only [askToken]
  split <;> simp

theorem layoutRule_direct {s t : State} (h : layoutRule s = true) (hd : Direct s t) : layoutRule t = true := by
  cases hd
  case reset d =>
    exact layoutRule_congr (s := State.reset) (by decide) (by simp [resetPart, State.reset])
      (by simp [resetPart, State.reset]) (by simp [resetPart, State.reset]) (by simp [resetPart, State.reset])
  case fault =>
    exact layoutRule_congr h (by simp [memoryFaultHalts]) (by simp [memoryFaultHalts])
      (by simp [memoryFaultHalts, dropJournalWork]) (by simp [memoryFaultHalts, dropJournalWork])
  all_goals exact layoutRule_congr h (by simp) (by simp) (by simp) (by simp)

/-- R125, R146: a valid setup block gives a sheet and a ring within their ranges. -/
theorem readSetup_layout {data : List Byte} {b : Setup} (h : readSetup data = some b) :
    sheetOk b.sheet = true ∧ ringOk b.ring = true ∧ b.pollInterval ≤ 250 ∧ 0 < b.ring.entries := by
  simp only [readSetup] at h
  split at h
  · rename_i hok
    obtain ⟨hbase, hk, hk', hring, hj, hj', hpoll, -⟩ := hok
    cases h
    have h4 : 2 ^ 2 ≤ 2 ^ (byteAt data 4).toNat := Nat.pow_le_pow_right (by decide) hk
    have h256 : 2 ^ (byteAt data 4).toNat ≤ 2 ^ 8 := Nat.pow_le_pow_right (by decide) hk'
    have h8 : 2 ^ 3 ≤ 2 ^ (byteAt data 5).toNat := Nat.pow_le_pow_right (by decide) hj
    have h1024 : 2 ^ (byteAt data 5).toNat ≤ 2 ^ 10 := Nat.pow_le_pow_right (by decide) hj'
    exact ⟨by simp [sheetOk, hbase]; omega, by simp [ringOk, hring]; omega, hpoll, Nat.pos_of_ne_zero (by simp)⟩
  · cases h

theorem layoutRule_handSetup {s : State} {data : List Byte} {b : Setup} (h : readSetup data = some b) :
    layoutRule (handSetup b s) = true := by
  obtain ⟨hs, hr, hp, he⟩ := readSetup_layout h
  simp [layoutRule, handSetup, hs, hr, hp, he]

theorem layoutRule_startUpGoesOn {s : State} (h : layoutRule s = true) (p : StartPhase) (data : List Byte) :
    layoutRule (startUpGoesOn p data s) = true := by
  simp only [startUpGoesOn, checkSetup]
  repeat' split
  case h_2 hb => exact layoutRule_congr (layoutRule_handSetup (s := s) hb) (by simp) (by simp) (by simp) (by simp)
  all_goals exact layoutRule_congr h (by simp) (by simp) (by simp) (by simp)

theorem layoutRule_resume {s : State} (h : layoutRule s = true) (c : Client) (data : List Byte) :
    layoutRule (resume c data s) = true := by
  simp only [resume]
  split
  case h_1 => exact layoutRule_startUpGoesOn h _ _
  all_goals exact layoutRule_congr h (by simp) (by simp) (by simp) (by simp)

theorem grantClaim_cursor (j : JournalJob) (ring : Ring) (s : State) :
    (grantClaim j ring s).jnw.cursor = (s.jnw.cursor + 1) % ring.entries := by
  simp only [grantClaim]
  split
  all_goals simp [takeEntry]

/-- R147: the cursor goes round the ring. -/
theorem layoutRule_serveClaim {s : State} {ring : Ring} (h : layoutRule s = true) (hr : s.jnw.ring = some ring)
    (j : JournalJob) (m : Byte) : layoutRule (serveClaim j m ring s) = true := by
  simp only [serveClaim]
  split
  · simp only [layoutRule, hr, Bool.and_eq_true, Option.all_some, decide_eq_true_eq] at h
    obtain ⟨⟨⟨hs, hp⟩, hring⟩, -⟩ := h
    have hentries : 0 < ring.entries := by
      simp only [ringOk, Bool.and_eq_true, decide_eq_true_eq] at hring
      omega
    have hc : (s.jnw.cursor + 1) % ring.entries < ring.entries := Nat.mod_lt _ hentries
    simp [layoutRule, grantClaim_cursor, hr, hs, hp, hring, hc]
  · exact layoutRule_congr h (by simp) (by simp) (by simp) (by simp)

theorem layoutRule_settles {s u : State} (h : layoutRule s = true) (hu : Settles s u) : layoutRule u = true := by
  cases hu
  case answered a data hf ha => exact layoutRule_resume (s := { s with mpt := freeBus s }) h a.client data
  case journalClaim mark j rest ring hv hq hr hc => exact layoutRule_serveClaim h hr j mark
  all_goals exact layoutRule_congr h (by simp) (by simp) (by simp) (by simp)

theorem portRule_direct {s t : State} (h : portRule s = true) (hd : Direct s t) : portRule t = true := by
  cases hd
  case reset d => simp [portRule, resetPart, State.reset]
  case fault => simp [portRule, memoryFaultHalts]
  case haltingEnd => simpa [portRule, enterHalted] using h
  all_goals simpa [portRule] using h

/-- Settles O59: the field is off before a block or a check stands; the arbitration leaves no access waiting on a free bus. -/
theorem fieldDieAndBusStayRuled : Obligations.FieldDieAndBusStayRuled := by
  unfold Obligations.FieldDieAndBusStayRuled
  intro s t hs
  have hkeep : ∀ {P : State → Prop}, P s → (∀ rest u, P u → P { u with pending := rest }) →
      (∀ s t, P s → Direct s t → P t) → (∀ s u, P s → Settles s u → P (arbitrate u)) → P t := fun h hq hd hu =>
    step_keeps hs h (fun rest h => hq rest s h) hd hu
  refine ⟨fun h => ?_, fun h => ?_, fun h => ?_, fun h => ?_⟩
  · exact hkeep (P := fun s => portRule s = true) h (fun _ _ h => h) (fun _ _ => portRule_direct)
      fun _ u _ _ => arbitrate_portRule u
  · rw [fieldRule_iff] at h ⊢
    exact hkeep h (fun _ _ h => h.of_fmn rfl rfl) (fun _ _ => fieldOk_direct)
      fun _ u h hu => (fieldOk_settles h hu).of_fmn (by simp) (by simp)
  · exact hkeep (P := fun s => heatRule s = true) h (fun _ _ h => h) (fun _ _ => heatRule_direct)
      fun _ u h hu => heatRule_congr (heatRule_settles h hu) (by simp) (by simp) (by simp)
  · exact hkeep (P := fun s => layoutRule s = true) h (fun _ _ h => h) (fun _ _ => layoutRule_direct)
      fun _ u h hu => layoutRule_congr (layoutRule_settles h hu) (by simp) (by simp) (by simp) (by simp)

end Sys2Proof.Proofs.FieldRule
end

section
/-! SUPPORT. The verdict (R9 to R19, R28): obligations O15 to O18. -/

namespace Sys2Proof.Proofs.VerdictRules

open Sys2Proof Sys2Proof.Machine

/-! ### Coverage by zones (R13) -/

theorem stopIndex_eq_none {route : List Stop} {code : Half} :
    stopIndex route code = none ↔ code = 0 ∨ code ∉ route.map Stop.code := by
  simp only [stopIndex]
  split
  · simp [*]
  · simp only [List.findIdx?_eq_none_iff, List.mem_map, beq_eq_false_iff_ne]
    constructor
    · exact fun h => .inr fun ⟨s, hs, he⟩ => h s hs he
    · exact fun h s hs he => (h.resolve_left ‹_›) ⟨s, hs, he⟩

theorem covers_eq_coversByZones {route : List Stop} {cls : ProductClass} {r : FareRecord}
    (h : cls = .zonePass ∨ stopIndex route r.origin = none ∨ stopIndex route r.destination = none) (p : Position) :
    covers route p cls r = coversByZones route p r.zones := by
  simp only [covers]
  split
  · rfl
  · simp_all
  · rfl

theorem zoneCovered_iff (route : List Stop) (zones : Word) (k : Nat) :
    zoneCovered route zones k = true ↔ ∃ x, route[k]? = some x ∧ zones.getLsbD x.zone.toNat = true := by
  simp only [zoneCovered]
  cases route[k]? <;> simp

/-- An empty zone set covers nothing. -/
theorem coversByZones_zero (route : List Stop) (p : Position) : coversByZones route p 0 = false := by
  have h : ∀ k, zoneCovered route 0 k = false := fun k => by
    simp only [zoneCovered]
    split <;> simp
  rw [coversByZones, h, Bool.false_and]

/-- Settles O15: a record that is not judged by stops is judged by the zones of its segment. -/
theorem coverageByZones : Obligations.CoverageByZones := by
  unfold Obligations.CoverageByZones
  intro route cls r hroute
  refine ⟨fun h => ?_, fun p a b => ?_⟩
  · have hz : cls = .zonePass ∨ stopIndex route r.origin = none ∨ stopIndex route r.destination = none := by
      rw [stopIndex_eq_none, stopIndex_eq_none]
      tauto
    have hc := covers_eq_coversByZones hz
    refine ⟨fun k => ?_, fun k => ?_, fun h0 p => ?_⟩
    · rw [hc, coversByZones, Bool.and_eq_true, zoneCovered_iff, zoneCovered_iff]
      simp only [segmentFirst, segmentLast, and_self]
    · rw [hc, coversByZones, Bool.and_eq_true, zoneCovered_iff, zoneCovered_iff]
      rfl
    · rw [hc, h0, coversByZones_zero]
  · rw [covers_eq_coversByZones (.inl rfl), covers_eq_coversByZones (.inl rfl)]

/-! ### The tests (R4, R7, R9) -/

theorem productClass_isSome : ∀ c : Byte, (productClass c).isSome = true ↔ 1 ≤ c.toNat ∧ c.toNat ≤ 6 := by decide

theorem productClass_group : ∀ c : Byte, productClass c = some .group ↔ c = 6 := by decide

theorem productClass_carnet : ∀ c : Byte, productClass c = some .carnet ↔ c = 3 := by decide

theorem before_iff (d m d' m' : Half) :
    before d m d' m' = true ↔ d.toNat < d'.toNat ∨ (d = d' ∧ m.toNat < m'.toNat) := by
  simp [before]

/-- R4: the ranges, for a record of a class. -/
theorem fieldsInRange_iff (r : FareRecord) :
    fieldsInRange r = true ↔ ∃ cls, productClass r.classCode = some cls ∧ (r.travelClass = 1 ∨ r.travelClass = 2) ∧
      (cls = .group → 1 ≤ r.partySize.toNat ∧ r.partySize.toNat ≤ 9) ∧ (cls = .carnet → r.rides.toNat ≤ 99) ∧
      r.origin ≠ 65535 ∧ r.destination ≠ 65535 ∧ r.fromMinute.toNat ≤ 2879 ∧ r.untilMinute.toNat ≤ 2879 := by
  simp only [fieldsInRange]
  cases productClass r.classCode with
  | none => simp
  | some cls =>
    have hl : Config.lastMinute.toNat = 2879 := rfl
    simp [minuteOk, Config.invalidStop, hl, imp_iff_not_or, and_assoc]

theorem keyOf_eq_none {v : VerdictEngine} {i : Byte} (h : 7 < i.toNat ∨ v.keys[i.toNat]? = some none) :
    keyOf v i = none := by
  obtain h | h := h
  · rw [keyOf, Vector.getElem?_eq_none (by omega)]
    rfl
  · rw [keyOf, h]
    rfl

theorem testRecord_unknownKey {j : Judging} {r : FareRecord} (h : keyOf j.keys r.keyIndex = none) (place : Nat) :
    testRecord j place r = .failed .unknownKey := by
  simp only [testRecord, h]

theorem testRecord_forged {j : Judging} {r : FareRecord} {key : List Byte} (hk : keyOf j.keys r.keyIndex = some key)
    (h : ¬ (checkRight key r = true ∧ fieldsInRange r = true)) (place : Nat) :
    testRecord j place r = .failed .forged := by
  rw [← Bool.and_eq_true, Bool.not_eq_true] at h
  simp only [testRecord, hk, h]

/-- R9: a record of a key, in range, comes to the other tests. -/
theorem testRecord_inRange {j : Judging} {r : FareRecord} {key : List Byte} {cls : ProductClass}
    (hk : keyOf j.keys r.keyIndex = some key) (hc : checkRight key r = true) (hf : fieldsInRange r = true)
    (hcls : productClass r.classCode = some cls) (place : Nat) :
    testRecord j place r =
      if cls = .carnet ∧ j.stamp = .damaged then .failed .stampDamaged
      else if j.rcx.day.toNat < r.fromDay.toNat
          ∨ (j.rcx.day = r.fromDay ∧ j.rcx.minute.toNat < r.fromMinute.toNat) then .failed .notYetValid
      else if r.untilDay.toNat < j.rcx.day.toNat
          ∨ (r.untilDay = j.rcx.day ∧ r.untilMinute.toNat < j.rcx.minute.toNat) then .failed .expired
      else if j.seated = 1 ∧ r.travelClass = 2 then .failed .wrongClass
      else if covers j.rcx.route j.position cls r = false then .failed .wrongSegment
      else if cls = .carnet ∧ effectiveRides j.stamp place r = 0 ∧ j.rideShown = false then .failed .noRidesLeft
      else .usable := by
  simp only [testRecord, hk, hc, hf, Bool.and_self, hcls, before_iff]

theorem effectiveRides_stamped {st : StampRecord} {place : Nat} (h : st.place.toNat = place) (r : FareRecord) :
    effectiveRides (.intact st) place r = st.rides := if_pos h

theorem effectiveRides_other {stamp : StampStanding} {place : Nat} (r : FareRecord)
    (h : ∀ st, stamp = .intact st → st.place.toNat ≠ place) : effectiveRides stamp place r = r.rides := by
  cases stamp with
  | absent | damaged => rfl
  | intact st => exact if_neg (h st rfl)

theorem testPlaces_getElem? (j : Judging) (places : List (Option FareRecord)) (i : Nat) :
    (testPlaces j places)[i]? = places[i]?.map (testPlace j i) := List.getElem?_mapIdx

theorem mem_judgedPlaces {j : Judging} {places : List (Option FareRecord)} {x : Judged} :
    x ∈ judgedPlaces j places ↔
      places[x.place]? = some (some x.record) ∧ x.result = testRecord j x.place x.record := by
  simp only [judgedPlaces, List.mem_filterMap, id_eq, exists_eq_right, List.mem_mapIdx]
  constructor
  · rintro ⟨i, hi, he⟩
    obtain ⟨r, hr, rfl⟩ := Option.map_eq_some_iff.mp he
    exact ⟨List.getElem?_eq_some_iff.mpr ⟨hi, hr⟩, rfl⟩
  · rintro ⟨hx, hr⟩
    obtain ⟨hi, he⟩ := List.getElem?_eq_some_iff.mp hx
    exact ⟨x.place, hi, by rw [he, Option.map_some, ← hr]⟩

theorem judgedPlaces_ascending (j : Judging) (places : List (Option FareRecord)) :
    ((judgedPlaces j places).map Judged.place).Pairwise (fun a b => a < b) := by
  rw [List.pairwise_map, judgedPlaces, List.pairwise_filterMap, List.pairwise_iff_getElem]
  intro a b ha hb hab x hx y hy
  simp only [List.getElem_mapIdx, id_eq, Option.map_eq_some_iff] at hx hy
  obtain ⟨r, -, rfl⟩ := hx
  obtain ⟨q, -, rfl⟩ := hy
  exact hab

/-- Settles O16: the tests one after another, and the places one by one. -/
theorem testsInOrder : Obligations.TestsInOrder := by
  unfold Obligations.TestsInOrder
  intro j place r
  refine ⟨fun h => testRecord_unknownKey (keyOf_eq_none h) place, fun key hkey => ?_, fun st hst hp => ?_,
    effectiveRides_other r, fun places => ⟨List.length_mapIdx, fun h => ?_, fun h => ?_, fun x => mem_judgedPlaces,
      judgedPlaces_ascending j places⟩⟩
  · have hk : keyOf j.keys r.keyIndex = some key := by rw [keyOf, hkey]; rfl
    refine ⟨fun h => testRecord_forged hk ?_ place, fun cls hcheck hcls htc hparty hrides ho hd hf hu => ?_⟩
    · rw [fieldsInRange_iff]
      rintro ⟨hc, cls, hcls, htc, hp, hr, ho, hd, hf, hu⟩
      have hsome := (productClass_isSome r.classCode).mp (by rw [hcls]; rfl)
      have hg : r.classCode = 6 → cls = .group := fun h => by
        rw [← productClass_group, hcls] at h
        exact Option.some.inj h
      have hca : r.classCode = 3 → cls = .carnet := fun h => by
        rw [← productClass_carnet, hcls] at h
        exact Option.some.inj h
      have hc' : crc32 (key ++ r.covered) = r.check := by simpa [checkRight] using hc
      obtain h | h | h | h | h | h | h | h | h := h
      · exact h hc'
      · exact h hsome
      · exact htc.elim h.1 h.2
      · exact h.2 (hp (hg h.1))
      · exact absurd (hr (hca h.1)) (by omega)
      · exact ho h
      · exact hd h
      · omega
      · omega
    · exact testRecord_inRange hk (by simpa [checkRight] using hcheck)
        ((fieldsInRange_iff r).mpr ⟨cls, hcls, htc, hparty, hrides, ho, hd, hf, hu⟩) hcls place
  · rw [hst]
    exact effectiveRides_stamped hp r
  · rw [testPlaces_getElem?, h]
    rfl
  · rw [testPlaces_getElem?, h]
    rfl

/-! ### The choice among records (R14, R15) -/

/-- The first of these keys under which an entry is found, with the entry. -/
def ranked {κ : Type} (keys : List κ) (js : List Judged) (p : κ → Judged → Bool) : Option (Judged × κ) :=
  keys.findSome? fun c => (js.find? (p c)).map fun x => (x, c)

theorem rankFailure_eq (js : List Judged) :
    rankFailure js = ranked failureRank js fun f x => x.result == .failed f := rfl

theorem chooseUsable_eq (js : List Judged) :
    chooseUsable js = (ranked preference js fun c x =>
      x.result == .usable && productClass x.record.classCode == some c).map Prod.fst := by
  simp only [chooseUsable, ranked, List.map_findSome?, Option.map_map, Function.comp_def, Option.map_id']

theorem ranked_eq_none {κ : Type} {keys : List κ} {js : List Judged} {p : κ → Judged → Bool} :
    ranked keys js p = none ↔ ∀ c ∈ keys, ∀ x ∈ js, p c x = false := by
  simp [ranked, List.findSome?_eq_none_iff, List.find?_eq_none]

/-- The first entry found has the lowest place. -/
theorem find_first {js : List Judged} {p : Judged → Bool} {x : Judged}
    (hs : (js.map Judged.place).Pairwise fun a b => a < b) (h : js.find? p = some x) :
    ∀ y ∈ js, p y = true → x.place ≤ y.place := by
  induction js with
  | nil => cases h
  | cons z js ih =>
    obtain ⟨hz, hjs⟩ := List.pairwise_cons.mp hs
    intro y hy hpy
    by_cases hp : p z = true
    · rw [List.find?_cons_of_pos hp] at h
      cases h
      obtain rfl | hy := List.mem_cons.mp hy
      · exact Nat.le_refl _
      · exact Nat.le_of_lt (hz _ (List.mem_map_of_mem hy))
    · rw [List.find?_cons_of_neg hp] at h
      obtain rfl | hy := List.mem_cons.mp hy
      · exact absurd hpy hp
      · exact ih hjs h y hy hpy

/-- The entry found first stands before every other, by key and then by place. -/
theorem ranked_eq_some {κ : Type} [DecidableEq κ] {keys : List κ} {js : List Judged} {p : κ → Judged → Bool} {x : Judged}
    {c : κ} (hs : (js.map Judged.place).Pairwise fun a b => a < b) (h : ranked keys js p = some (x, c)) :
    x ∈ js ∧ p c x = true ∧
      ∀ y ∈ js, ∀ e ∈ keys, p e y = true → keys.idxOf c < keys.idxOf e ∨ (c = e ∧ x.place ≤ y.place) := by
  induction keys with
  | nil => cases h
  | cons k keys ih =>
    rw [ranked, List.findSome?_cons] at h
    cases hf : js.find? (p k) with
    | some z =>
      rw [hf] at h
      cases h
      refine ⟨List.mem_of_find?_eq_some hf, List.find?_some hf, fun y hy e he hp => ?_⟩
      by_cases hke : c = e
      · subst hke
        exact .inr ⟨rfl, find_first hs hf y hy hp⟩
      · exact .inl (by rw [List.idxOf_cons_self, List.idxOf_cons_ne _ hke]; exact Nat.succ_pos _)
    | none =>
      rw [hf] at h
      obtain ⟨hx, hp, hall⟩ := ih h
      have hnone : ∀ y ∈ js, ¬ p k y = true := List.find?_eq_none.mp hf
      have hne : k ≠ c := fun he => hnone x hx (he ▸ hp)
      refine ⟨hx, hp, fun y hy e he hpe => ?_⟩
      have hke : k ≠ e := fun hke => hnone y hy (hke ▸ hpe)
      rw [List.idxOf_cons_ne _ hne, List.idxOf_cons_ne _ hke]
      exact (hall y hy e ((List.mem_cons.mp he).resolve_left (Ne.symm hke)) hpe).imp_left Nat.succ_lt_succ

theorem mem_preference (c : ProductClass) : c ∈ preference := by cases c <;> decide

theorem mem_failureRank (f : RecordFailure) : f ∈ failureRank := by cases f <;> decide

theorem chooseUsable_eq_none {js : List Judged} :
    chooseUsable js = none ↔ ∀ x ∈ js, x.result = .usable → productClass x.record.classCode = none := by
  rw [chooseUsable_eq, Option.map_eq_none_iff, ranked_eq_none]
  constructor
  · intro h x hx hu
    cases hc : productClass x.record.classCode with
    | none => rfl
    | some c => simpa [hu, hc] using h c (mem_preference c) x hx
  · intro h c _ x hx
    by_cases hu : x.result = .usable
    · simp [h x hx hu]
    · simp [hu]

/-- Settles O17: the class, or the failure, found first in its order, and of one class the lowest place. -/
theorem choiceAndRanking : Obligations.ChoiceAndRanking := by
  unfold Obligations.ChoiceAndRanking
  refine ⟨rfl, rfl, fun js hs => ⟨chooseUsable_eq_none, fun x hx => ?_, ?_, fun x f hx => ?_⟩, fun x => ?_⟩
  · rw [chooseUsable_eq, Option.map_eq_some_iff] at hx
    obtain ⟨⟨z, c⟩, hr, rfl⟩ := hx
    obtain ⟨hm, hp, hall⟩ := ranked_eq_some hs hr
    simp only [Bool.and_eq_true, beq_iff_eq] at hp
    exact ⟨hm, hp.1, c, hp.2, fun y hy e hu he => hall y hy e (mem_preference e) (by simp [hu, he])⟩
  · rw [rankFailure_eq, ranked_eq_none]
    exact ⟨fun h x hx f he => by simpa [he] using h f (mem_failureRank f) x hx, fun h f _ x hx => by simpa using h x hx f⟩
  · rw [rankFailure_eq] at hx
    obtain ⟨hm, hp, hall⟩ := ranked_eq_some hs hx
    exact ⟨hm, by simpa using hp, fun y hy g hg => hall y hy g (mem_failureRank g) (by simp [hg])⟩
  · simp only [chosenOf, partyOf, productClass_group]

/-! ### The order of the verdict (R16, R18, R19, R28) -/

/-- Settles O18: the answers of the blocks decide the branch, and each branch is the rule's own. -/
theorem verdictOrder : Obligations.VerdictOrder := by
  unfold Obligations.VerdictOrder
  intro q v r flags serial seen
  refine ⟨fun e he => ?_, fun hd hc => ?_, ?_, ?_⟩
  · simp only [rule, he]
    rfl
  · simp only [rule, hd, hc]
    rfl
  · rintro p rfl
    exact ⟨by simp [notJudged], fun i => ⟨fun h => by simp [notJudged, h], fun x h => by simp [notJudged, h]⟩⟩
  · intro p hd hc hp shown j base
    have hrule : rule q v r = ruleRecords q j { base with places := some (notJudged q.places) } := by
      simp only [rule, hd, hc, hp]
      rfl
    refine ⟨?_, fun hx y f hf => ?_, fun hx hf => ?_⟩
    · intro x hx d
      have hchosen : rule q v r = ruleChosen q shown base x := by
        rw [hrule]
        simp only [ruleRecords, hx]
        rfl
      refine ⟨fun hc => ?_, fun hc => ⟨fun hs => ?_, fun hs hq => ?_, fun hs hq => ?_⟩⟩
      · rw [hchosen, ruleChosen, if_neg hc]
      · rw [hchosen, ruleChosen, if_pos hc, hs]
        rfl
      · rw [hchosen, ruleChosen, if_pos hc, hs, hq]
        rfl
      · rw [hchosen, ruleChosen, if_pos hc, hs, hq]
        rfl
    · rw [hrule]
      simp only [ruleRecords, hx, hf]
      rfl
    · rw [hrule]
      simp only [ruleRecords, hx, hf]
      rfl

end Sys2Proof.Proofs.VerdictRules
end

section
/-! SUPPORT. The decision point (R16, R17, R21, R22, R46, R51, R55, R56, R69, R103, R104; log 10): obligations O19 and O20. -/

namespace Sys2Proof.Proofs.DecisionPoint

open Sys2Proof Sys2Proof.Machine

/-! ### The three blocks -/

/-- The questions to the Running Context and the Deny List, before that to the Seen Table. -/
def askFirst (w : Asks) (a : Asking) (s : State) : Asked := askDenyList w.denyList (askContext w.context ⟨a, [], s⟩)

theorem askBlocks_eq (w : Asks) (a : Asking) (s : State) : askBlocks w a s = askSeenTable w.seenTable (askFirst w a s) := rfl

theorem askFirst_state (w : Asks) (a : Asking) (s : State) :
    (askFirst w a s).state = { s with dnl := (askFirst w a s).state.dnl } := by
  simp only [askFirst, askDenyList, askContext]
  repeat' split
  all_goals rfl

theorem askFirst_keeps (w : Asks) (a : Asking) (s : State) :
    (askFirst w a s).asking.inspection = a.inspection ∧ (askFirst w a s).asking.seen = a.seen ∧
      (askFirst w a s).asking.emptied = a.emptied ∧ (askFirst w a s).claims = [] := by
  simp only [askFirst, askDenyList, askContext]
  repeat' split
  all_goals exact ⟨rfl, rfl, rfl, rfl⟩

theorem askDenyList_context (yes : Bool) (x : Asked) : (askDenyList yes x).asking.context = x.asking.context := by
  simp only [askDenyList]
  split <;> rfl

theorem askFirst_context (w : Asks) (a : Asking) (s : State) :
    (w.context = true → a.context = none → (askFirst w a s).asking.context = some s.rcx) ∧
      (w.context = false ∨ a.context.isSome = true → (askFirst w a s).asking.context = a.context) := by
  rw [askFirst, askDenyList_context, askContext]
  constructor
  · intro hw ha
    simp [hw, ha]
  · intro h
    rw [if_neg (by cases hc : a.context <;> simp_all)]

theorem askFirst_denied (w : Asks) (a : Asking) (s : State) :
    (w.denyList = true → a.denied = none →
        (askFirst w a s).asking.denied = some ⟨s.dnl.state, lookup a.inspection.cred s.dnl⟩ ∧
          (askFirst w a s).state.dnl = afterLookup a.inspection.cred s.dnl) ∧
      (w.denyList = false ∨ a.denied.isSome = true →
        (askFirst w a s).asking.denied = a.denied ∧ (askFirst w a s).state.dnl = s.dnl) := by
  have hc : (askContext w.context ⟨a, [], s⟩).asking.denied = a.denied ∧
      (askContext w.context ⟨a, [], s⟩).asking.inspection = a.inspection ∧
      (askContext w.context ⟨a, [], s⟩).state = s := by
    simp only [askContext]
    split <;> exact ⟨rfl, rfl, rfl⟩
  obtain ⟨hd, hi, hs⟩ := hc
  simp only [askFirst, askDenyList, hd, hi, hs]
  constructor
  · intro hw ha
    simp [hw, ha]
  · intro h
    rw [if_neg (by cases hc : a.denied <;> simp_all)]
    exact ⟨hd, by rw [hs]⟩

theorem askSeenTable_keeps (yes : Bool) (x : Asked) :
    (askSeenTable yes x).asking.context = x.asking.context ∧ (askSeenTable yes x).asking.denied = x.asking.denied ∧
      (askSeenTable yes x).state.dnl = x.state.dnl := by
  simp only [askSeenTable]
  split
  · simp
  · exact ⟨rfl, rfl, rfl⟩

theorem deliverUpdate_dnl (d : DenyList) (s : State) :
    deliverUpdate { s with dnl := d } = { deliverUpdate s with dnl := d } := by
  simp only [deliverUpdate, arrive, serveNext]
  split
  · rfl
  · split <;> rfl

/-- The updates arrive whatever the Deny List holds. -/
theorem deliverUpdates_dnl (d : DenyList) (s : State) :
    deliverUpdates { s with dnl := d } = { deliverUpdates s with dnl := d } := by
  have h : ∀ n (s : State), deliverSome n { s with dnl := d } = { deliverSome n s with dnl := d } := by
    intro n
    induction n with
    | zero => exact fun _ => rfl
    | succ n ih => exact fun s => by rw [deliverSome, deliverUpdate_dnl, ih]; rfl
  exact h _ s

theorem deliverUpdates_eq (s : State) :
    deliverUpdates s =
      { s with mpt := (deliverUpdates s).mpt, snt := (deliverUpdates s).snt, jnw := (deliverUpdates s).jnw } := by
  obtain ⟨hssc, hrcx, hven, hdnl, hclk, hfmn, hpev, hdraws, hpending⟩ := deliverUpdates_keeps s
  rw [← hssc, ← hrcx, ← hven, ← hdnl, ← hclk, ← hfmn, ← hpev, ← hdraws, ← hpending]

/-- The Seen Table answers: the state it asks from, the updates sent before delivered. -/
theorem askBlocks_asks {w : Asks} {a : Asking} {s : State} (hw : w.seenTable = true) (ha : a.seen = none)
    (he : seenEngaged s = false) :
    askBlocks w a s =
      { asking := { (askFirst w a s).asking with
          seen := some ⟨findSeen a.inspection.cred (consult a.inspection (contextAnswer s.rcx) (deliverUpdates s).snt).1,
            pinCount (consult a.inspection (contextAnswer s.rcx) (deliverUpdates s).snt).1,
            if (consult a.inspection (contextAnswer s.rcx) (deliverUpdates s).snt).2.isSome then .waiting else .none⟩ }
        claims := (consult a.inspection (contextAnswer s.rcx) (deliverUpdates s).snt).2.getD []
        state := { deliverUpdates s with
          dnl := (askFirst w a s).state.dnl
          snt := (consult a.inspection (contextAnswer s.rcx) (deliverUpdates s).snt).1 } } := by
  obtain ⟨hi, hs, -, -⟩ := askFirst_keeps w a s
  have hstate := askFirst_state w a s
  have hd : deliverUpdates (askFirst w a s).state = { deliverUpdates s with dnl := (askFirst w a s).state.dnl } := by
    rw [hstate, deliverUpdates_dnl]
  have heng : seenEngaged (askFirst w a s).state = false := by
    rw [hstate]
    exact he
  have hrcx : (deliverUpdates s).rcx = s.rcx := by simp
  rw [askBlocks_eq, askSeenTable, if_pos (by simp [hw, hs, ha, heng]), hd, hi]
  simp only [hrcx]

/-- The Seen Table gives no answer: it was not asked, has answered, or is engaged. -/
theorem askBlocks_skips {w : Asks} {a : Asking} {s : State}
    (h : w.seenTable = false ∨ a.seen.isSome = true ∨ seenEngaged s = true) : askBlocks w a s = askFirst w a s := by
  obtain ⟨-, hs, -, -⟩ := askFirst_keeps w a s
  have heng : seenEngaged (askFirst w a s).state = seenEngaged s := by
    rw [askFirst_state w a s]
    rfl
  rw [askBlocks_eq, askSeenTable, if_neg]
  rw [hs, heng]
  obtain h | h | h := h
  · simp [h]
  · simp [Option.isSome_iff_ne_none.mp h]
  · simp [h]

theorem consult_none {q : Inspection} {ctx : ContextAnswer} {t : SeenTable}
    (h : q.card = false ∨ ∀ r, findSeen q.cred t = some r → r.stamp ≠ .uncertain) : consult q ctx t = (t, none) := by
  have hr : (if q.card then resolve q.cred q.stamp ctx t else none) = none := by
    split
    · simp only [resolve]
      split
      · rfl
      · exact if_neg ((h.resolve_left (by simp [*])) _ ‹_›)
    · rfl
  rw [consult, hr]

theorem consult_some {q : Inspection} {ctx : ContextAnswer} {t t' : SeenTable} {jobs : List JournalJob}
    (hc : q.card = true) (h : resolve q.cred q.stamp ctx t = some (t', jobs)) : consult q ctx t = (t', some jobs) := by
  rw [consult, if_pos hc, h]

theorem replies_eq_none {a : Asking} (h : a.context = none ∨ a.denied = none ∨ a.seen = none) : a.replies = none := by
  simp only [Asking.replies]
  split
  · simp_all
  · rfl

theorem replies_eq_some {a : Asking} {c : RunningContext} {d : DenyReply} {x : SeenReply} (hc : a.context = some c)
    (hd : a.denied = some d) (hx : a.seen = some x) : a.replies = some ⟨c, d, x⟩ := by
  simp only [Asking.replies, hc, hd, hx]

theorem seenEngaged_iff (s : State) : seenEngaged s = true ↔
    (∃ h ∈ s.clk.hold, ∃ a, h.session = .asking a ∧ a.seen.isSome = true)
    ∨ ∃ sc task a, s.ssc.scan = some sc ∧ sc.phase = .serving task (.tokenAsk a) ∧ a.seen.isSome = true := by
  have hheld : ∀ h : HeldTask, heldConsulted h = true ↔ ∃ a, h.session = .asking a ∧ a.seen.isSome = true := by
    intro h
    simp only [heldConsulted]
    split <;> simp_all [consulted]
  have hscan : ∀ sc : Scan, scanConsulted sc = true ↔ ∃ task a, sc.phase = .serving task (.tokenAsk a) ∧ a.seen.isSome = true := by
    intro sc
    simp only [scanConsulted]
    split
    · simp_all [consulted]
    · rename_i hne
      exact ⟨fun h => (by cases h), fun ⟨t, a, ha, _⟩ => absurd ha (hne t a)⟩
  rw [seenEngaged, Bool.or_eq_true, List.any_eq_true]
  simp only [hheld]
  cases hs : s.ssc.scan with
  | none => simp
  | some sc => simp [hscan]

/-! ### The end of the decision point -/

/-- R150: the claims that reach the Journal Writer wait behind those before; its service may begin. -/
theorem arrive_eq (js : List JournalJob) (s : State) :
    arrive js s = { s with
      mpt := (arrive js s).mpt
      jnw := { s.jnw with queue := s.jnw.queue ++ js, service := (arrive js s).jnw.service } } := by
  simp only [arrive, serveNext]
  split <;> rfl

theorem arrive_queue (js : List JournalJob) (s : State) : (arrive js s).jnw.queue = s.jnw.queue ++ js := by
  rw [arrive_eq]

theorem insertAt_nil (d : JournalJob) : insertAt 0 d [] = [d] := rfl

/-- The claim of another block takes a place among those of the Seen Table. -/
theorem joinClaims_some (n : Nat) (d : JournalJob) (jobs : List JournalJob) :
    ∃ k ≤ jobs.length, joinClaims n (some d) jobs = insertAt k d jobs := by
  cases jobs with
  | nil => exact ⟨0, Nat.le_refl _, rfl⟩
  | cons j js => exact ⟨_, Nat.le_of_lt_succ (Nat.mod_lt _ (Nat.succ_pos _)), rfl⟩

theorem noteRuling_final {a : Asking} (h : a.emptied = none) (d : Draft) (ctx : ContextAnswer) (t : SeenTable) :
    noteRuling a ctx (.final d) t = noteInspection a.inspection.cred d.verdict ctx t := by
  simp only [noteRuling, h]

theorem noteRuling_emptied {a : Asking} {n : Word} (h : a.emptied = some n) (d : Draft) (ctx : ContextAnswer)
    (t : SeenTable) : noteRuling a ctx (.final d) t = { t with evictions := n } := by
  simp only [noteRuling, h]

theorem conclude_state (a : Asking) (r : Replies) (claims : List JournalJob) (s : State) :
    (conclude a r claims s).1 =
      arrive (joinClaims s.draws (deniedClaim a.inspection r) claims)
        { s with
          snt := noteRuling a (contextAnswer r.context) (rule a.inspection s.ven r) s.snt, draws := s.draws + 1 } := rfl

/-- Settles O19: each block answers once; the Seen Table not while it is engaged; the end is the rule's. -/
theorem decisionPointConsultsTheBlocks : Obligations.DecisionPointConsultsTheBlocks := by
  unfold Obligations.DecisionPointConsultsTheBlocks
  refine ⟨fun w a s => ?_, seenEngaged_iff, fun a r claims s => ?_, fun c => ⟨fun h => ?_, fun h => ?_⟩⟩
  · intro c asksSeen x
    obtain ⟨hctx, hctx'⟩ := askFirst_context w a s
    obtain ⟨hden, hden'⟩ := askFirst_denied w a s
    obtain ⟨hi, hs, he, hcl⟩ := askFirst_keeps w a s
    obtain ⟨kc, kd, kl⟩ := askSeenTable_keeps w.seenTable (askFirst w a s)
    have hx : x = askSeenTable w.seenTable (askFirst w a s) := rfl
    refine ⟨fun hw ha => (hx ▸ kc).trans (hctx hw ha), fun h => (hx ▸ kc).trans (hctx' h), fun hw ha => ?_, fun h => ?_, ?_, ?_, ?_⟩
    · exact ⟨(hx ▸ kd).trans (hden hw ha).1, (hx ▸ kl).trans (hden hw ha).2⟩
    · exact ⟨(hx ▸ kd).trans (hden' h).1, (hx ▸ kl).trans (hden' h).2⟩
    · rintro ⟨hw, ha, hen⟩ u rfl
      have hasks : x = _ := askBlocks_asks hw ha hen
      rw [hasks]
      refine ⟨fun h => ?_, fun t jobs hc hr => ?_, by simp⟩
      · rw [consult_none h]
        exact ⟨rfl, rfl, rfl⟩
      · rw [consult_some hc hr]
        exact ⟨rfl, rfl, rfl⟩
    · intro h
      have hskips : x = askFirst w a s := askBlocks_skips h
      rw [hskips]
      exact ⟨hs, hcl, askFirst_state w a s⟩
    · obtain ⟨hi, he⟩ := askBlocks_inspection w a s
      exact ⟨hi, he, fun d e f hd he hf => replies_eq_some hd he hf, replies_eq_none⟩
  · intro q ctx x
    have hx : x.1 = _ := conclude_state a r claims s
    have hsnt : x.1.snt = noteRuling a ctx (rule q s.ven r) s.snt := by rw [hx]; simp; rfl
    refine ⟨rfl, rfl, rfl, beq_iff_eq, rfl, fun d hd ha => ?_, fun d n hd ha => ?_, fun d p n hd => ?_, fun hn => ?_,
      fun e he => ?_, ?_⟩
    · rw [hsnt, show rule q s.ven r = .final d from hd]
      exact noteRuling_final ha d ctx s.snt
    · rw [hsnt, show rule q s.ven r = .final d from hd]
      exact noteRuling_emptied ha d ctx s.snt
    · rw [hsnt, show rule q s.ven r = .ride d p n from hd, noteRuling]
    · rw [hx, arrive_queue, deniedClaim, hn]
      rfl
    · obtain ⟨k, hk, hj⟩ := joinClaims_some s.draws (.entry (deniedEntry q.cred ctx e) (if q.card then .card else .token)) claims
      refine ⟨k, hk, ?_⟩
      rw [hx, arrive_queue, deniedClaim, he, Option.map_some, ← hj]
    · rw [hx, arrive_eq]
  · simp only [contextAnswer, h]
  · simp only [contextAnswer, h]

/-! ### A doubtful stamp (R55, R56, R103, R104) -/

theorem resolve_uncertain {q : Inspection} {ctx : ContextAnswer} {t : SeenTable} {r : SeenRecord}
    (hf : findSeen q.cred t = some r) (hu : r.stamp = .uncertain) :
    resolve q.cred q.stamp ctx t =
      some (replaceSeen (resolvedRecord (resolutionOf q.stamp r.pendingSequence) r) t,
        .entry (resolvedEntry q.cred ctx r.place (resolvedRides (resolutionOf q.stamp r.pendingSequence) q.stamp)
            (resolutionOf q.stamp r.pendingSequence)) .card
          :: (if resolutionOf q.stamp r.pendingSequence = .landed then
              localConflict ctx r (resolvedRecord (resolutionOf q.stamp r.pendingSequence) r) else [])) := by
  simp only [resolve, hf, if_pos hu]

/-- The record put in place of another of its credential is the one then found. -/
theorem findSeen_replaceSeen {c : Cred} {t : SeenTable} {r r' : SeenRecord} (hf : findSeen c t = some r)
    (hc : r'.cred = r.cred) : findSeen c (replaceSeen r' t) = some r' := by
  obtain ⟨-, hrc⟩ := SeenRule.mem_of_findSeen hf
  have hp : ((fun r : SeenRecord => r.cred == c) ∘ fun x => if x.cred = r'.cred then r' else x) = fun r => r.cred == c := by
    funext x
    simp only [Function.comp_apply]
    split
    · rw [‹x.cred = r'.cred›]
    · rfl
  rw [findSeen, replaceSeen, List.find?_map, hp, show t.records.find? (fun r => r.cred == c) = some r from hf,
    Option.map_some, if_pos hc.symm]

theorem sublist_insertAt {α : Type} (k : Nat) (x : α) (l : List α) : List.Sublist l (insertAt k x l) := by
  have h : List.Sublist (l.take k ++ l.drop k) (l.take k ++ x :: l.drop k) :=
    List.Sublist.append_left (List.sublist_cons_self _ _) _
  rwa [List.take_append_drop] at h

theorem sublist_joinClaims (n : Nat) (d : Option JournalJob) (jobs : List JournalJob) :
    List.Sublist jobs (joinClaims n d jobs) := by
  cases d with
  | none => cases jobs <;> exact List.Sublist.refl _
  | some d =>
    obtain ⟨k, -, hj⟩ := joinClaims_some n d jobs
    rw [hj]
    exact sublist_insertAt k d jobs

/-- The draft of a ruling. -/
def draftOf : Ruling → Draft
  | .final d | .ride d _ _ => d

theorem rule_draft (q : Inspection) (v : VerdictEngine) (r : Replies) :
    (draftOf (rule q v r)).flags.uncertainResolved = (r.seen.claim != .none) ∧
      (draftOf (rule q v r)).flags.seenBefore = r.seen.record.isSome ∧
      (draftOf (rule q v r)).seen = r.seen.record.map detailsOf := by
  simp only [rule, ruleRecords, ruleChosen, ruleCarnet]
  repeat' split
  all_goals exact ⟨rfl, rfl, rfl⟩

theorem deliverUpdates_none {s : State} (h : s.snt.updates = []) : deliverUpdates s = s := by
  rw [deliverUpdates, h]
  rfl

/-- R55: the outcome of a card's stamp, as the statement names it. -/
theorem resolutionOf_eq (stamp : StampStanding) (p : Option Half) :
    resolutionOf stamp p = (match stamp with
      | .absent => .notLanded
      | .damaged => .damaged
      | .intact st => if p = some st.sequence then .landed else .notLanded) := by
  cases stamp <;> rfl

theorem localRide_eq (x : RideState) :
    localRide x = if x = .none ∨ x = .localRide then .localRide else .both := by cases x <;> rfl

theorem resolvedRecord_eq (o : Resolution) (r : SeenRecord) :
    resolvedRecord o r = { r with
      ride := if o = .landed then (if r.ride = .none ∨ r.ride = .localRide then .localRide else .both) else r.ride
      stamp := (match o with
        | .landed => .done
        | .notLanded => .none
        | .damaged => .damaged)
      pendingSequence := none } := by
  cases o with
  | landed => simp only [resolvedRecord, localRide_eq, if_true]
  | notLanded => rfl
  | damaged => rfl

theorem resolvedRides_eq (o : Resolution) (stamp : StampStanding) :
    resolvedRides o stamp = (match stamp with
      | .intact st => if o = .landed then some st.rides else none
      | .absent | .damaged => none) := by
  cases o <;> cases stamp <;> rfl

theorem resolutionCode_eq (o : Resolution) :
    resolutionCode o = (match o with
      | .landed => 1
      | .notLanded => 2
      | .damaged => 3) := by cases o <;> rfl

/-- Settles O20: the consult of a card resolves a record that stands UNCERTAIN, and no other; the decision point answers from
the record as resolved. -/
theorem doubtfulStampIsResolved : Obligations.DoubtfulStampIsResolved := by
  unfold Obligations.DoubtfulStampIsResolved
  refine ⟨fun q ctx t h => consult_none ?_, fun q s r hc hf hu => ?_⟩
  · obtain h | h | ⟨r, hr, hn⟩ := h
    · exact .inl h
    · exact .inr fun r hr => by rw [h] at hr; cases hr
    · exact .inr fun x hx => by rw [hr] at hx; cases hx; exact hn
  · intro ctx out after claims
    obtain ⟨-, hcred⟩ := SeenRule.mem_of_findSeen hf
    have hout : resolutionOf q.stamp r.pendingSequence = out := resolutionOf_eq _ _
    have hafter : resolvedRecord out r = after := resolvedRecord_eq out r
    have hres : resolve q.cred q.stamp ctx s.snt = some (replaceSeen after s.snt, claims) := by
      have hconf : (if out = .landed then localConflict ctx r after else []) =
          if out = .landed ∧ r.ride = .peer then
            [.entry ⟨.conflict, q.cred, ctx, r.place, none, r.peerConductor.getD 0⟩ .nobody] else [] := by
        rw [← hcred]
        by_cases hl : out = .landed <;> by_cases hp : r.ride = .peer <;> simp [localConflict, conflictEntry, hl, hp, after]
      rw [resolve_uncertain hf hu, hout, hafter, hconf]
      simp only [resolvedEntry, resolvedRides_eq, resolutionCode_eq]
      rfl
    have hconsult : consult q ctx s.snt = (replaceSeen after s.snt, some claims) := consult_some hc hres
    refine ⟨hconsult, fun hup hen => ?_⟩
    intro x y
    have hfound : findSeen q.cred (replaceSeen after s.snt) = some after := findSeen_replaceSeen hf rfl
    have hx : x = _ := askBlocks_asks (w := .all) (a := { inspection := q }) rfl rfl hen
    rw [deliverUpdates_none hup, hconsult] at hx
    have hctx : x.asking.context = some s.rcx := by rw [hx]; exact (askFirst_context .all { inspection := q } s).1 rfl rfl
    have hden : x.asking.denied = some ⟨s.dnl.state, lookup q.cred s.dnl⟩ := by
      rw [hx]
      exact ((askFirst_denied .all { inspection := q } s).1 rfl rfl).1
    have hseen : x.asking.seen = some ⟨some after, pinCount (replaceSeen after s.snt), .waiting⟩ := by
      rw [hx, ← hfound]
      rfl
    have hclaims : x.claims = claims := by rw [hx]; rfl
    refine ⟨replies_eq_some hctx hden hseen, hclaims, by rw [hx], rfl, rfl, ?_, fun d hd => ?_⟩
    · rw [conclude_state, arrive_queue, hclaims]
      exact (sublist_joinClaims _ _ _).trans (List.sublist_append_right _ _)
    · obtain ⟨hres, hbefore, hdet⟩ := rule_draft x.asking.inspection x.state.ven y
      have hdraft : draftOf (rule x.asking.inspection x.state.ven y) = d := by
        obtain h | ⟨p, n, h⟩ := hd
        · exact congrArg draftOf (h : rule _ _ _ = _)
        · exact congrArg draftOf (h : rule _ _ _ = _)
      rw [hdraft] at hres hbefore hdet
      exact ⟨hres, hbefore, hdet⟩

end Sys2Proof.Proofs.DecisionPoint
end

section
/-! SUPPORT. START, the sweep and the entries to HALTING and HALTED (R110, R111, R139 to R143; log 12, log 13, log 22):
obligations O8 to O13. -/

namespace Sys2Proof.Proofs.RunStates

open Sys2Proof Sys2Proof.Machine

/-! ### The bus -/

/-- One access asked for on a free bus goes out at once. -/
theorem settled_single {u : State} {a : Access} (hf : u.mpt.flight = none) (hw : u.mpt.waiting = [])
    (ha : u.mpt.asked = [a]) :
    settled u = .next { u with mpt := { u.mpt with flight := some (stampSummary u a), asked := [] } } := by
  rw [settled_eq u (by rw [ha]; exact Nat.le_refl 1), ha]
  simp only [busAfter, hf, hw, List.nil_append]

@[simp] theorem stampSummary_readOf (s : State) (c : Client) (a : Word) (n : Nat) :
    stampSummary s (readOf c a n) = readOf c a n := rfl

@[simp] theorem stampSummary_writeOf (s : State) (c : Client) (a : Word) (b : List Byte) :
    stampSummary s (writeOf c a b) = writeOf c a b := rfl

/-- The same, before the access is asked for. -/
theorem settled_ask {u : State} {a : Access} (hf : u.mpt.flight = none) (hw : u.mpt.waiting = []) (ha : u.mpt.asked = []) :
    settled (ask a u) = .next { u with mpt := { u.mpt with flight := some (stampSummary u a) } } := by
  rw [settled_single (u := ask a u) (a := a) hf hw (by simp [ha])]
  simp only [ask_mpt, ← ha]
  rfl

/-- One access asked for on any bus. -/
theorem settled_ask_bus {u : State} {a : Access} (ha : u.mpt.asked = []) :
    settled (ask a u) = .next { u with mpt := busAfter u u.mpt [a] } := by
  rw [settled_eq (ask a u) (by simp [ha])]
  have hm : { (ask a u).mpt with asked := [] } = u.mpt := by rw [← ha]; rfl
  have hl : (ask a u).mpt.asked = [a] := by simp [ha]
  rw [hm, hl]
  rfl

theorem settled_none {u : State} (ha : u.mpt.asked = []) (hf : u.mpt.flight.isSome = true ∨ u.mpt.waiting = []) :
    settled u = .next u := settled_idle u (by simpa [portRule, ha] using hf)

theorem exec_startUpAnswered {data : List Byte} {p : StartPhase} {s : State} (h : StartUpAnswered data s)
    (hp : s.ssc.startUp = some p) :
    exec (.memoryResponse data) s = settled (startUpGoesOn p data { s with mpt := freeBus s }) := by
  obtain ⟨a, hf, hc, ha⟩ := h
  simp only [exec, execMemoryResponse, hf, ha, if_true, hc, resume, hp, freeBus]

theorem portRule_iff (s : State) : portRule s = true ↔ s.mpt.asked = [] ∧ (s.mpt.flight.isSome = true ∨ s.mpt.waiting = []) := by
  simp [portRule]

/-! ### HALTING -/

/-- With no task held, HALTING changes the run state, and stops the scans and the start-up work. -/
theorem enterHalting_empty {s : State} (h : s.clk.hold = []) :
    enterHalting s = { s with
      mpt := { s.mpt with runState := .halting, haltPending := false }
      ssc := { s.ssc with pollTimer := none, extraScan := false, startUp := none } } := by
  simp only [enterHalting, haltSecond, haltHead, h]

/-! ### START and the setup block -/

theorem startPart_aligned {s : State} (h : s.mpt.setupAddress.toNat % 4 = 0) :
    startPart s = { s with
      mpt := { s.mpt with runState := .starting, asked := s.mpt.asked ++ [readOf .startUp s.mpt.setupAddress 32] }
      ssc := { s.ssc with startUp := some .setupRead } } := by
  simp only [startPart, if_pos h]
  rfl

theorem startPart_misaligned {s : State} (h : s.mpt.setupAddress.toNat % 4 ≠ 0) :
    startPart s = { s with
      mpt := { s.mpt with runState := .halted, haltCause := .setupInvalid, haltPending := false }
      ssc := { s.ssc with startUp := none }
      pev := { s.pev with events := s.pev.events ||| evHalted } } := by
  simp only [startPart, if_neg h]
  rfl

theorem execStart_cases (s : State) :
    (s.mpt.runState = .halted → exec .start s = settled (startPart s)) ∧
      (s.mpt.runState ≠ .halted → exec .start s = .next s) := by
  simp only [exec, execStart]
  cases s.mpt.runState <;> simp

theorem sweepFrom_halts {s : State} (h : s.mpt.haltPending = true) (hh : s.clk.hold = []) (i : Nat) :
    sweepFrom i s = { s with
      mpt := { s.mpt with runState := .halting, haltPending := false }
      ssc := { s.ssc with pollTimer := none, extraScan := false, startUp := none } } := by
  rw [sweepFrom, if_pos h, enterHalting_empty hh]

theorem sweepFrom_slot {s : State} (h : s.mpt.haltPending = false) {i : Nat} (hi : i < slotCount s) :
    sweepFrom i s = ask (readOf .startUp (slotAddress s i 0) 1)
      { s with ssc := { s.ssc with startUp := some (.sweepState i) } } := by
  rw [sweepFrom, if_neg (by simp [h]), if_pos hi]
  rfl

theorem sweepFrom_end {s : State} (h : s.mpt.haltPending = false) {i : Nat} (hi : ¬ i < slotCount s) :
    sweepFrom i s = enterRunning s := by
  rw [sweepFrom, if_neg (by simp [h]), if_neg hi]

theorem slots_pos {data : List Byte} {b : Setup} (h : readSetup data = some b) : 0 < b.sheet.slots := by
  obtain ⟨hs, -⟩ := FieldRule.readSetup_layout h
  simp only [sheetOk, Bool.and_eq_true, decide_eq_true_eq] at hs
  omega

/-- Settles O8: the run state decides START, and the setup block's check what follows its read. -/
theorem startTakesTheSetupBlock : Obligations.StartTakesTheSetupBlock := by
  unfold Obligations.StartTakesTheSetupBlock
  refine ⟨fun s hp => ?_, fun data s ha hasked hwait hst hhold => ?_⟩
  · obtain ⟨hasked, hbus⟩ := (portRule_iff s).mp hp
    obtain ⟨hhalted, hother⟩ := execStart_cases s
    refine ⟨fun hr h4 => ?_, fun hr h4 => ?_, hother⟩
    · rw [hhalted hr, startPart_aligned h4]
      exact settled_bus { s.mpt with runState := .starting } [readOf .startUp s.mpt.setupAddress 32] hasked (Nat.le_refl 1)
        (by rw [hasked]; rfl) fun t hm ht => ⟨hm, ht⟩
    · rw [hhalted hr, startPart_misaligned h4]
      exact settled_none hasked hbus
  · have hexec := exec_startUpAnswered ha hst
    simp only [startUpGoesOn, checkSetup] at hexec
    refine ⟨fun hb => ?_, fun b hb => ?_⟩
    · rw [hexec, hb]
      exact settled_none hasked (.inr hwait)
    · rw [hexec, hb]
      cases hp : s.mpt.haltPending with
      | false =>
        have hgo := sweepFrom_slot (s := handSetup b { s with mpt := freeBus s }) hp (i := 0) (slots_pos hb)
        have hfirst : slotAddress (handSetup b { s with mpt := freeBus s }) 0 0 = b.sheet.base := by
          simp [slotAddress, handSetup]
        rw [hfirst] at hgo
        refine ⟨_, (congrArg settled hgo).trans (settled_ask rfl hwait hasked), ?_⟩
        simp [handSetup, freeBus, hasked, hp]
      | true =>
        have hgo := sweepFrom_halts (s := handSetup b { s with mpt := freeBus s }) hp hhold 0
        refine ⟨_, (congrArg settled hgo).trans (settled_none hasked (.inr hwait)), ?_⟩
        simp [handSetup, freeBus, hasked, hp]

/-! ### The setup block (R140, R113) -/

theorem overlaps_iff {a la b lb : Nat} (hla : 0 < la) (hlb : 0 < lb) :
    overlaps a la b lb = true ↔ ∃ x, (a ≤ x ∧ x < a + la) ∧ (b ≤ x ∧ x < b + lb) := by
  simp only [overlaps, Bool.and_eq_true, decide_eq_true_eq]
  constructor
  · exact fun h => ⟨max a b, by omega⟩
  · rintro ⟨x, hx⟩
    omega

theorem pair_toNat (b : Byte) (shift : Nat) : ((b >>> shift) &&& 3).toNat = (b.extractLsb' shift 2).toNat := by
  have hmod : (b.toNat >>> shift) &&& 3 = (b.toNat >>> shift) % 4 := Nat.and_two_pow_sub_one_eq_mod _ 2
  simp [BitVec.toNat_and, BitVec.extractLsb'_toNat, hmod]

theorem reportOption_event (b : Byte) (shift : Nat) :
    reportOption b shift .answerOnly = .event ↔ b.extractLsb' shift 2 = 1 := by
  rw [reportOption, pair_toNat, ← BitVec.toNat_inj]
  split <;> simp_all

theorem reportOption_answerOnly (b : Byte) (shift : Nat) :
    reportOption b shift .event = .answerOnly ↔ b.extractLsb' shift 2 = 2 := by
  rw [reportOption, pair_toNat, ← BitVec.toNat_inj]
  split <;> simp_all

/-- Settles O9: the test is that of each field in turn, and two ranges meet at the greater of their starts. -/
theorem setupBlockIsValidExactlyWhen : Obligations.SetupBlockIsValidExactlyWhen := by
  unfold Obligations.SetupBlockIsValidExactlyWhen
  intro data
  have hmeet := overlaps_iff (a := (wordAt data 0).toNat) (b := (wordAt data 8).toNat)
    (la := 64 * 2 ^ (byteAt data 4).toNat) (lb := 32 * 2 ^ (byteAt data 5).toNat) (by positivity) (by positivity)
  refine ⟨?_, fun b hb => ?_⟩
  · rw [← hmeet, Bool.not_eq_true]
    simp only [readSetup, Option.isSome_ite, and_assoc]
  · simp only [readSetup, Option.ite_none_right_eq_some, Option.some.injEq] at hb
    obtain ⟨-, rfl⟩ := hb
    exact ⟨rfl, rfl, rfl, rfl, rfl, reportOption_event _ _, reportOption_answerOnly _ _, reportOption_answerOnly _ _,
      reportOption_answerOnly _ _⟩

/-! ### The sweep (R142) -/

/-- R133, R134: a scan that finds the slot of its cursor free begins there. -/
theorem beginScan_free {s : State} (hc : s.ssc.cursor < slotCount s) (hf : s.ssc.cursor ∉ heldSlots s) :
    beginScan s = ask (stateReadOf s s.ssc.cursor) { s with ssc := { s.ssc with
      pollTimer := none, extraScan := false, scan := some (scanFrom s s.ssc.cursor) } } := by
  have hnext : nextUnheld (heldSlots s) (slotCount s) s.ssc.cursor (slotCount s)
      = some (s.ssc.cursor, slotCount s - 1) := by
    have h := nextUnheld_free (heldSlots s) (slotCount s) (slotCount s) s.ssc.cursor 0 (Nat.mod_eq_of_lt hc) (by omega)
      (by simpa [Nat.mod_eq_of_lt hc] using hf) (fun m hm => absurd hm (Nat.not_lt_zero m))
    simpa [Nat.mod_eq_of_lt hc] using h
  simp only [beginScan]
  have hsame : nextUnheld (heldSlots { s with ssc := { s.ssc with pollTimer := none, extraScan := false } })
      (slotCount { s with ssc := { s.ssc with pollTimer := none, extraScan := false } }) s.ssc.cursor
      (slotCount { s with ssc := { s.ssc with pollTimer := none, extraScan := false } })
      = some (s.ssc.cursor, slotCount s - 1) := hnext
  rw [hsame]
  rfl

/-- R133, R134: a scan begins at a free slot, or there is none and what follows a scan follows. -/
theorem beginScan_cases (s : State) :
    (∃ sc, beginScan s = ask (stateReadOf s sc.index) { s with ssc := { s.ssc with
      pollTimer := none, extraScan := false, scan := some sc } }) ∨
    beginScan s = afterScan { s with ssc := { s.ssc with pollTimer := none, extraScan := false } } := by
  simp only [beginScan]
  split
  · exact .inr rfl
  · exact .inl ⟨_, rfl⟩

theorem enterRunning_empty {s : State} (hs : 0 < slotCount s) (hh : s.clk.hold = []) :
    enterRunning s = ask (readOf .scan (slotAddress s 0 0) 1) { s with
      mpt := { s.mpt with runState := .running }
      ssc := { s.ssc with
        startUp := none, cursor := 0, pollTimer := none, extraScan := false, scan := some (scanFrom s 0) } } := by
  rw [enterRunning, beginScan_free hs (by simp [heldSlots, hh])]
  rfl

/-- Settles O10: each phase of the sweep asks for one access, and the slot after the last is none. -/
theorem sweepAnswersTakenSlots : Obligations.SweepAnswersTakenSlots := by
  unfold Obligations.SweepAnswersTakenSlots
  intro data i s ha hasked hwait
  refine ⟨fun hp hd => ?_, fun hp => ?_, fun hp => ?_, fun hhalt => ⟨fun hp hd hi => ?_, fun hp hi => ?_, fun hp hi hh => ?_,
    fun hp hd hi hh => ?_⟩, fun hhalt hh => ⟨fun hp hd => ?_, fun hp => ?_⟩⟩
  all_goals
    have hexec := exec_startUpAnswered ha hp
    simp only [startUpGoesOn] at hexec
    rw [hexec]
  · rw [if_pos hd]
    exact settled_ask rfl hwait hasked
  · exact settled_ask rfl hwait hasked
  · exact settled_ask rfl hwait hasked
  · rw [if_neg hd, sweepFrom_slot (by exact hhalt) (by exact hi)]
    exact settled_ask rfl hwait hasked
  · rw [sweepFrom_slot (by exact hhalt) (by exact hi)]
    exact settled_ask rfl hwait hasked
  · rw [sweepFrom_end (by exact hhalt) (by exact hi.not_lt), enterRunning_empty (by exact hi ▸ Nat.succ_pos i) (by exact hh)]
    exact ⟨_, settled_ask rfl hwait hasked, rfl, rfl, rfl, rfl⟩
  · rw [if_neg hd, sweepFrom_end (by exact hhalt) (by exact hi.not_lt),
      enterRunning_empty (by exact hi ▸ Nat.succ_pos i) (by exact hh)]
    exact settled_ask rfl hwait hasked
  · rw [if_neg hd, sweepFrom_halts (by exact hhalt) (by exact hh)]
    exact settled_none hasked (.inr hwait)
  · rw [sweepFrom_halts (by exact hhalt) (by exact hh)]
    exact settled_none hasked (.inr hwait)

/-! ### HALT (R110, R139, R143) -/

/-- The arbitration touches the port and the draws alone. -/
theorem arbitrate_frame (u : State) : arbitrate u = { u with mpt := (arbitrate u).mpt, draws := (arbitrate u).draws } := by
  have h := arbitrate_keeps u
  cases hu : arbitrate u
  simp_all

theorem settled_next (u : State) : settled u = .next (arbitrate u) := rfl

/-- A held task as the HALT leaves it where it is the second: one that waits for the field is answered HALTED. -/
def haltedSecond (x : HeldTask) : HeldTask :=
  if x.session = .waitingField then { x with session := .closing (.coded .halted none) {} .writeAnswer } else x

theorem haltedSecond_slot (x : HeldTask) : (haltedSecond x).slot = x.slot := by
  unfold haltedSecond
  split <;> rfl

theorem haltedSecond_slots (rest : List HeldTask) : (rest.map haltedSecond).map HeldTask.slot = rest.map HeldTask.slot := by
  simp [haltedSecond_slot]

/-- The session of the second alone is set. -/
theorem setSession_second {s : State} {h y : HeldTask} (x : Session) (hh : s.clk.hold = [h, y]) (hn : h.slot ≠ y.slot) :
    setSession y.slot x s = { s with clk := { s.clk with hold := [h, { y with session := x }] } } := by
  simp [setSession, hh, hn]

theorem haltSecond_eq {s : State} {h : HeldTask} {rest : List HeldTask} (hh : s.clk.hold = h :: rest)
    (hlen : rest.length ≤ 1) (hn : h.slot ∉ rest.map HeldTask.slot) :
    ∃ asked, haltSecond s = { s with
      mpt := { s.mpt with asked := asked }
      clk := { s.clk with hold := h :: rest.map haltedSecond } } := by
  cases rest with
  | nil =>
    have hstays : haltSecond s = s := by simp only [haltSecond, hh]
    have hsame : { s.clk with hold := [h] } = s.clk := by rw [← hh]
    exact ⟨s.mpt.asked, hstays.trans (by rw [List.map_nil, hsame])⟩
  | cons y rest =>
    obtain rfl : rest = [] := by simpa using hlen
    have hy : h.slot ≠ y.slot := by simpa using hn
    by_cases hs : y.session = .waitingField
    · refine ⟨s.mpt.asked ++ [answerOf (.card y.slot) s y.slot y.tag (sessionAnswer (.coded .halted none))], ?_⟩
      simp only [haltSecond, hh, if_pos hs, handOver, setSession_second _ hh hy, List.map, haltedSecond]
      rfl
    · have hstays : haltSecond s = s := by simp only [haltSecond, hh, if_neg hs]
      have hsame : { s.clk with hold := [h, y] } = s.clk := by rw [← hh]
      exact ⟨s.mpt.asked, hstays.trans (by rw [List.map_singleton, haltedSecond, if_neg hs, hsame])⟩

/-- The state in which HALT meets the head. -/
def haltMeets (h : HeldTask) (rest : List HeldTask) (asked : List Access) (s : State) : State :=
  { s with
    mpt := { s.mpt with runState := .halting, haltPending := false, asked := asked }
    ssc := { s.ssc with pollTimer := none, extraScan := false, startUp := none }
    clk := { s.clk with hold := h :: rest.map haltedSecond } }

theorem exec_halt_hold {s : State} {h : HeldTask} {rest : List HeldTask} (hr : s.mpt.runState = .running)
    (hp : s.pev.power = .run ∨ s.pev.power = .reduced) (hh : s.clk.hold = h :: rest) (hlen : rest.length ≤ 1)
    (hn : h.slot ∉ rest.map HeldTask.slot) :
    ∃ asked, exec .halt s = .next (arbitrate (haltHead (haltMeets h rest asked s))) := by
  obtain ⟨asked, he⟩ := haltSecond_eq (s := { s with
    mpt := { s.mpt with runState := .halting, haltPending := false }
    ssc := { s.ssc with pollTimer := none, extraScan := false, startUp := none } }) hh hlen hn
  refine ⟨asked, ?_⟩
  have hrun : haltRunning s = haltHead (haltMeets h rest asked s) := by
    have hgo : haltRunning s = enterHalting s := by rcases hp with hp | hp <;> simp only [haltRunning, hp]
    rw [hgo, enterHalting, he]
    rfl
  simp only [exec, execHalt, hr, hrun, settled]

/-- Two states with the same blocks are the same. -/
theorem state_ext {s t : State} (mpt : s.mpt = t.mpt) (ssc : s.ssc = t.ssc) (rcx : s.rcx = t.rcx) (ven : s.ven = t.ven)
    (dnl : s.dnl = t.dnl) (snt : s.snt = t.snt) (clk : s.clk = t.clk) (fmn : s.fmn = t.fmn) (jnw : s.jnw = t.jnw)
    (pev : s.pev = t.pev) (draws : s.draws = t.draws) (pending : s.pending = t.pending) : s = t := by
  cases s
  cases t
  simp_all

/-- HALT ends a head that holds the field, with nothing owed it. -/
theorem closeHead_haltMeets {h : HeldTask} {rest : List HeldTask} {s : State} (e : SessionEnd) (asked : List Access)
    (hn : h.slot ∉ rest.map HeldTask.slot) (hf : s.clk.holder = .session) :
    closeHead h e {} (haltMeets h rest asked s) = ask (answerOf (.card h.slot) s h.slot h.tag (sessionAnswer e))
      { haltMeets h rest asked s with
        clk := { s.clk with
          holder := .none, deadline := none, tries := 0, pendingStamp := none
          hold := { h with session := .closing e {} .writeAnswer } :: rest.map haltedSecond }
        fmn := { s.fmn with detected := false } } :=
  closeHead_ready e rfl (by rwa [haltedSecond_slots]) hf

/-- R101: the head that holds the field is settled: its fill and its update are sent, and it closes. -/
theorem settleStamp_eq {s : State} {t : HeldTask} {rest : List HeldTask} {d : Draft} {p : RidePlan} {o : StampOutcome}
    {ps : PendingStamp} (hps : s.clk.pendingStamp = some ps) (hh : s.clk.hold = t :: rest)
    (hn : t.slot ∉ rest.map HeldTask.slot) (hf : s.clk.holder = .session) :
    settleStamp t d p o s = { arrive [.fill (outcomeEntry o p ps)] (sendUpdate (outcomeUpdate o p ps) s) with
      clk := { s.clk with
        holder := .none, deadline := none, tries := 0, pendingStamp := none
        hold := { t with session := .closing (.ok (outcomeDraft o d p ps)) { fill := true } .awaitJournal } :: rest }
      fmn := { s.fmn with detected := false } } := by
  have hclk : (arrive [.fill (outcomeEntry o p ps)] (sendUpdate (outcomeUpdate o p ps) s)).clk = s.clk := by simp [sendUpdate]
  have hfmn : (arrive [.fill (outcomeEntry o p ps)] (sendUpdate (outcomeUpdate o p ps) s)).fmn = s.fmn := by simp [sendUpdate]
  simp only [settleStamp, hps]
  rw [closeHead_waits _ (by decide) (by rw [hclk]; exact hh) hn (by rw [hclk]; exact hf), hclk, hfmn]

/-- Settles O11: the hold is brought to completion from its second to its head, and each session of the head ends as its
state requires. -/
theorem haltBringsThePartToHalting : Obligations.HaltBringsThePartToHalting := by
  unfold Obligations.HaltBringsThePartToHalting
  refine ⟨fun s hp => ?_, fun h rest s hp hr hpow hh hlen hn _ => ?_, fun void e who => ?_⟩
  · obtain ⟨hasked, hbus⟩ := (portRule_iff s).mp hp
    refine ⟨fun hr => ?_, fun hr => by simp only [exec, execHalt, hr], fun hr hpow hh => ?_, fun hr hpow hh => ?_,
      fun hr hpow => ?_⟩
    · rcases hr with hr | hr <;> simp only [exec, execHalt, hr]
    · have hgo : haltRunning s = enterHalting s := by rcases hpow with hpow | hpow <;> simp only [haltRunning, hpow]
      simp only [exec, execHalt, hr, hgo, enterHalting_empty hh]
      exact settled_none hasked hbus
    · simp only [exec, execHalt, hr, haltRunning, hpow]
      by_cases hs : s.clk.holder = .sense
      · have hend : endPulse (wakeToRun s) = turnOff (wakeToRun s) := if_pos hs
        rw [hend, enterHalting_empty (by exact hh)]
        exact ⟨_, settled_none hasked hbus, rfl, rfl, rfl, fun _ => ⟨rfl, rfl⟩, fun h => absurd hs h, rfl⟩
      · have hend : endPulse (wakeToRun s) = wakeToRun s := if_neg hs
        rw [hend, enterHalting_empty (by exact hh)]
        exact ⟨_, settled_none hasked hbus, rfl, rfl, rfl, fun h => absurd h hs, fun _ => ⟨rfl, rfl⟩, rfl⟩
    · simp only [exec, execHalt, hr, haltRunning, hpow]
      exact settled_none hasked hbus
  · obtain ⟨asked, hexec⟩ := exec_halt_hold hr hpow hh hlen hn
    have hn' : h.slot ∉ (rest.map haltedSecond).map HeldTask.slot := by rwa [haltedSecond_slots]
    refine ⟨fun hs => ?_, fun hs hf => ?_, fun a hs hf => ?_, fun d p g hs hf => ?_, fun x d p ps hs hps hf => ?_,
      fun e o g hs => ?_⟩
    · have hu : haltHead (haltMeets h rest asked s) = handOver h (.coded .halted none) (haltMeets h rest asked s) := by
        simp only [haltHead, haltMeets, hs]
      rw [hu, handOver, setSession_head _ rfl hn'] at hexec
      exact ⟨_, hexec, by simp [haltMeets], (by simp [haltMeets, haltedSecond]),
        by apply state_ext <;> simp [haltMeets]⟩
    · have hu : haltHead (haltMeets h rest asked s)
          = closeHead h (.coded .halted (cardIdOf s)) {} (haltMeets h rest asked s) := by
        rcases hs with hs | hs <;> simp only [haltHead, haltMeets, hs] <;> rfl
      rw [hu, closeHead_haltMeets _ _ hn hf] at hexec
      exact ⟨_, hexec, by simp [haltMeets], by simp [haltedSecond], by simp, by simp, by apply state_ext <;> simp [haltMeets]⟩
    · have hu : haltHead (haltMeets h rest asked s)
          = closeHead h (.coded .halted (cardIdOf s)) {} (haltMeets h rest asked (disownClaims s)) := by
        simp only [haltHead, haltMeets, hs, endAsking]
        rfl
      rw [hu, closeHead_haltMeets _ _ hn (by exact hf)] at hexec
      exact ⟨_, hexec, by simp [haltMeets], by simp [haltedSecond], by simp, by simp [haltMeets, disownClaims],
        by apply state_ext <;> simp [haltMeets, disownClaims]⟩
    · have hu : haltHead (haltMeets h rest asked s)
          = closeHead h (.coded .halted (cardIdOf s)) {} (haltMeets h rest asked (orphanClaims (voidEntry p .halted) s)) := by
        simp only [haltHead, haltMeets, hs, endDeciding]
        rfl
      rw [hu, closeHead_haltMeets _ _ hn (by exact hf)] at hexec
      exact ⟨_, hexec, by simp [haltMeets], by simp [haltedSecond], by simp, by simp [haltMeets, orphanClaims],
        by apply state_ext <;> simp [haltMeets, orphanClaims]⟩
    · have hu : haltHead (haltMeets h rest asked s) = settleStamp h d p .uncertain (haltMeets h rest asked s) := by
        simp only [haltHead, haltMeets, hs]
      rw [hu, settleStamp_eq (s := haltMeets h rest asked s) hps rfl hn' hf] at hexec
      exact ⟨_, hexec, by simp [haltMeets, sendUpdate], by simp [haltedSecond], by simp, by simp,
        by simp [DecisionPoint.arrive_queue, haltMeets, sendUpdate], by simp [haltMeets, sendUpdate]⟩
    · have hu : haltHead (haltMeets h rest asked s) = haltMeets h rest asked s := by simp only [haltHead, haltMeets, hs]
      rw [hu] at hexec
      exact ⟨_, hexec, by simp [haltMeets], by simp [haltMeets, haltedSecond]⟩
  · refine ⟨⟨rfl, rfl⟩, fun hw => ?_, rfl, fun j hj => ?_⟩
    · cases who <;> simp_all [disownJob, orphanJob]
    · rcases hj with rfl | rfl <;> exact ⟨rfl, rfl⟩

/-! ### The entries to HALTED (R111, R143, R144) -/

/-- From s to u the Seen Table and the journal's claims alone have moved. -/
structure Delivered (s u : State) : Prop where
  mpt : u.mpt = { s.mpt with asked := u.mpt.asked }
  jnw : u.jnw = { s.jnw with queue := u.jnw.queue, service := u.jnw.service }

theorem Delivered.trans {s u v : State} (h : Delivered s u) (h' : Delivered u v) : Delivered s v :=
  ⟨h'.mpt.trans (by rw [h.mpt]), h'.jnw.trans (by rw [h.jnw])⟩

theorem delivered_deliverUpdate (s : State) : Delivered s (deliverUpdate s) := by
  simp only [deliverUpdate, arrive, serveNext]
  split
  · exact ⟨rfl, rfl⟩
  · split <;> exact ⟨rfl, rfl⟩

theorem delivered_deliverUpdates (s : State) : Delivered s (deliverUpdates s) := by
  have h : ∀ n (s : State), Delivered s (deliverSome n s) := by
    intro n
    induction n with
    | zero => exact fun _ => ⟨rfl, rfl⟩
    | succ n ih => exact fun s => (delivered_deliverUpdate s).trans (ih _)
  exact h _ s

/-- Settles O12: HALTING ends where nothing is left, and a memory fault drops all but what the updates bring. -/
theorem entriesToHalted : Obligations.EntriesToHalted := by
  unfold Obligations.EntriesToHalted
  refine ⟨fun s hr => ⟨fun hn => ?_, fun hleft => ?_⟩, fun s hf => ?_⟩
  · simp only [exec, execHaltingEnd, if_pos (And.intro hr hn)]
    rfl
  · have hn : nothingLeft s = false := by
      simp only [nothingLeft, journalQuiet, ← Bool.not_eq_true, Bool.and_eq_true, List.isEmpty_iff, Option.isNone_iff_eq_none,
        beq_iff_eq]
      rintro ⟨⟨⟨⟨⟨⟨⟨hhold, hscan⟩, -⟩, ⟨hqueue, -⟩, hres⟩, -⟩, hholder⟩, -⟩, -⟩
      simp [hhold, hscan, hqueue, hres, hholder] at hleft
    simp only [exec, execHaltingEnd, hn, Bool.false_eq_true, and_false, if_false]
  · obtain ⟨hmpt, hjnw⟩ := delivered_deliverUpdates s
    obtain ⟨hssc, hrcx, hven, hdnl, hclk, hfmn, hpev, hdraws, hpending⟩ := deliverUpdates_keeps s
    have hfault : memoryFaultHalts s = { s with
        mpt := { s.mpt with
          runState := .halted, haltCause := .memoryFault, haltPending := false, flight := none, waiting := [], asked := [] }
        ssc := { s.ssc with scan := none, startUp := none, pollTimer := none, extraScan := false }
        snt := (deliverUpdates s).snt
        clk := {}
        fmn := { s.fmn with passive := none, detected := false }
        jnw := dropJournalWork s.jnw
        pev := { faultPower s.pev with events := s.pev.events ||| (evMemoryFault ||| evHalted) } } := by
      simp only [memoryFaultHalts, raiseEvent, dropJournalWork, hssc, hrcx, hven, hdnl, hfmn, hpev, hdraws, hpending]
      rw [hmpt, hjnw]
      rfl
    have hexec : exec .memoryFault s = .next (memoryFaultHalts s) := by simp only [exec, execMemoryFault, hf, if_true]
    refine ⟨_, hexec.trans (congrArg _ hfault), rfl, rfl, rfl, rfl, rfl,
      (BitVec.or_assoc ..).symm, rfl, fun hp => ?_, fun hp => if_pos hp, ⟨rfl, rfl, rfl, rfl, rfl, rfl⟩, rfl,
      deliverUpdates_updates s, rfl, rfl, rfl⟩
    rcases hp with hp | hp <;> simp [faultPower, hp]

/-! ### NUDGE (R133, R139, R164) -/

/-- Settles O13: the run state and the power state choose what a NUDGE does, and a scan in progress what begins. -/
theorem nudgeByRunAndPowerState : Obligations.NudgeByRunAndPowerState := by
  unfold Obligations.NudgeByRunAndPowerState
  intro s hp
  obtain ⟨hasked, hbus⟩ := (portRule_iff s).mp hp
  refine ⟨fun hr => by simp only [exec, execNudge, if_neg hr], fun hr hpow hscan => ?_, fun hr hpow => ?_, fun hr hpow => ?_⟩
  · have hgo : nudge s = nudgeAwake s := by rcases hpow with hpow | hpow <;> simp only [nudge, hpow]
    simp only [exec, execNudge, if_pos hr, hgo, nudgeAwake, hscan, if_true]
    exact settled_none hasked hbus
  · have hgo : nudge s = nudgeAwake (wakeToRun s) := by simp only [nudge, hpow]
    simp only [exec, execNudge, if_pos hr, hgo]
    cases hscan : s.ssc.scan with
    | some sc =>
      have hwoken : nudgeAwake (wakeToRun s)
          = { wakeToRun s with ssc := { (wakeToRun s).ssc with extraScan := true } } := by
        rw [nudgeAwake, if_pos (by simp [hscan])]
      rw [hwoken]
      exact ⟨_, settled_none hasked hbus, rfl, rfl, rfl, rfl, fun _ => ⟨rfl, by rw [← hscan]; rfl⟩, by simp⟩
    | none =>
      have hwoken : nudgeAwake (wakeToRun s) = beginScan (wakeToRun s) := by
        rw [nudgeAwake, if_neg (by simp [hscan])]
      rw [hwoken]
      by_cases hfree : s.ssc.cursor < slotCount s ∧ s.ssc.cursor ∉ heldSlots s
      · rw [beginScan_free (by exact hfree.1) (by exact hfree.2)]
        exact ⟨_, settled_ask_bus hasked, rfl, rfl, rfl, rfl, by simp, fun _ _ _ => ⟨rfl, rfl⟩⟩
      · have hnot : s.ssc.cursor < slotCount s → s.ssc.cursor ∉ heldSlots s → False := fun hc hh => hfree ⟨hc, hh⟩
        rcases beginScan_cases (wakeToRun s) with ⟨sc, hbegin⟩ | hbegin
        · rw [hbegin]
          exact ⟨_, settled_ask_bus hasked, rfl, rfl, rfl, rfl, by simp, fun hs hc hh => (hnot hc hh).elim⟩
        · have hawake : scansAllowed { wakeToRun s with
              ssc := { (wakeToRun s).ssc with pollTimer := none, extraScan := false } } = true := by
            simp [scansAllowed, wakeToRun, hr]
          rw [hbegin, afterScan, if_pos hawake]
          exact ⟨_, settled_none hasked hbus, rfl, rfl, rfl, rfl, by simp, fun hs hc hh => (hnot hc hh).elim⟩
  · have hgo : nudge s = nudgeAsleep s := by simp only [nudge, hpow]
    simp only [exec, execNudge, if_pos hr, hgo, nudgeAsleep]
    cases hset : s.pev.settling with
    | none => exact settled_none hasked hbus
    | some g =>
      have hsame : { s.pev with settling := some ((some g).getD .scan) } = s.pev := by rw [Option.getD_some, ← hset]
      rw [hsame]
      exact settled_none hasked hbus

end Sys2Proof.Proofs.RunStates
end

section
/-! SUPPORT. Scans, the clock and the settling (R34, R130, R133 to R137, R162, R164): obligations O21, O22 and O33. -/

namespace Sys2Proof.Proofs.ScanRules

open Sys2Proof Sys2Proof.Machine RunStates

/-! ### Where a scan begins -/

/-- A command that asks for nothing lets the bus go on. -/
theorem settled_bus_nil {u : State} (ha : u.mpt.asked = []) : settled u = .next { u with mpt := busAfter u u.mpt [] } := by
  rw [settled_eq u (by simp [ha]), ha]
  have hm : { u.mpt with asked := [] } = u.mpt := by rw [← ha]
  rw [hm]

/-- R133, R134: a scan begins at the first slot not held, from the cursor on. -/
theorem beginScan_free_at {s : State} {k : Nat} (hk : k < slotCount s) (hc : s.ssc.cursor < slotCount s)
    (hf : (s.ssc.cursor + k) % slotCount s ∉ heldSlots s) (hm : ∀ m < k, (s.ssc.cursor + m) % slotCount s ∈ heldSlots s) :
    beginScan s = ask (stateReadOf s ((s.ssc.cursor + k) % slotCount s)) { s with ssc := { s.ssc with
      pollTimer := none, extraScan := false
      scan := some { index := (s.ssc.cursor + k) % slotCount s, remaining := slotCount s - 1 - k, leftPosted := []
                     lastTaken := none, cardPassed := false, phase := .readState } } } := by
  have hnext := nextUnheld_free (heldSlots s) (slotCount s) (slotCount s) s.ssc.cursor k (Nat.mod_eq_of_lt hc) hk hf hm
  have hsame : nextUnheld (heldSlots { s with ssc := { s.ssc with pollTimer := none, extraScan := false } })
      (slotCount { s with ssc := { s.ssc with pollTimer := none, extraScan := false } }) s.ssc.cursor
      (slotCount { s with ssc := { s.ssc with pollTimer := none, extraScan := false } })
      = some ((s.ssc.cursor + k) % slotCount s, slotCount s - 1 - k) := hnext
  simp only [beginScan]
  rw [hsame]
  rfl

theorem scansAllowed_iff (s : State) :
    scansAllowed s = true ↔ s.mpt.runState = .running ∧ (s.pev.power = .run ∨ s.pev.power = .reduced) := by
  simp [scansAllowed]

theorem nudge_awake {s : State} (h : scansAllowed s = true) : exec .nudge s = settled (nudgeAwake s) := by
  obtain ⟨hr, hp⟩ := (scansAllowed_iff s).mp h
  have hgo : nudge s = nudgeAwake s := by rcases hp with hp | hp <;> simp only [nudge, hp]
  simp only [exec, execNudge, if_pos hr, hgo]

/-! ### Where a scan ends (R136) -/

/-- The scan cursor at the end of a scan, as ScanEnds gives it. -/
def endCursor (sc : Scan) (s : State) : Nat :=
  match sc.leftPosted, sc.lastTaken with
  | i :: _, _ => i
  | [], some i => (i + 1) % slotCount s
  | [], none => s.ssc.cursor

theorem closeScan_eq (sc : Scan) (s : State) :
    closeScan sc s = { s with ssc := { s.ssc with scan := none, cursor := endCursor sc s } } := by
  have hc : cursorAfter sc s = endCursor sc s := by
    unfold cursorAfter endCursor
    cases sc.leftPosted <;> cases sc.lastTaken <;> rfl
  rw [closeScan, hc]

/-- The end of a scan that no extra scan follows. -/
theorem endScan_last {sc : Scan} {s : State} (h : (scansAllowed s && s.ssc.extraScan) = false) :
    endScan sc s = afterScan (closeScan sc s) := by
  have hs : (scansAllowed (closeScan sc s) && (closeScan sc s).ssc.extraScan) = false := h
  simp only [endScan, hs, Bool.false_eq_true, if_false]

/-- The end of a scan that an extra scan follows. -/
theorem endScan_extra {sc : Scan} {s : State} (h : scansAllowed s = true) (he : s.ssc.extraScan = true) :
    endScan sc s = beginScan (closeScan sc s) := by
  have hs : (scansAllowed (closeScan sc s) && (closeScan sc s).ssc.extraScan) = true := by
    simpa [he] using (show scansAllowed (closeScan sc s) = true from h)
  simp only [endScan, hs, if_true]

theorem afterScan_awake {s : State} (h : scansAllowed s = true) : afterScan s = startPoll s := if_pos h

theorem afterScan_idle {s : State} (h : scansAllowed s = false) (hd : ∀ p, s.pev.dozeJob ≠ some (.scanning p)) :
    afterScan s = s := by
  rw [afterScan, if_neg (by simp [h])]
  split
  · exact absurd ‹_› (hd _)
  · rfl

theorem afterScan_scanning {s : State} (h : scansAllowed s = false) {p : Nat} (hd : s.pev.dozeJob = some (.scanning p)) :
    afterScan s = { s with pev := { s.pev with wakeTimer := some p, dozeJob := none } } := by
  rw [afterScan, if_neg (by simp [h]), hd]

theorem scanEnds_of_extra {sc : Scan} {s : State} (ha : s.mpt.asked = []) (hs : scansAllowed s = true)
    (he : s.ssc.extraScan = true) : ∃ t, settled (endScan sc s) = .next t ∧ ScanEnds sc s t := by
  obtain ⟨hr, hp⟩ := (scansAllowed_iff s).mp hs
  have hdoze : s.pev.power ≠ .doze := by rcases hp with hp | hp <;> simp [hp]
  have hhalt : s.mpt.runState ≠ .halting := by simp [hr]
  rw [endScan_extra hs he, closeScan_eq]
  by_cases hfree : endCursor sc s < slotCount s ∧ endCursor sc s ∉ heldSlots s
  · obtain ⟨hc, hf⟩ := hfree
    rw [beginScan_free (by exact hc) (by exact hf)]
    exact ⟨_, settled_ask_bus ha, rfl, fun _ _ => ⟨rfl, fun h => absurd (he.symm.trans h) (by decide), fun _ _ _ => ⟨rfl, rfl⟩⟩,
      fun _ _ h => absurd h hdoze, fun h => absurd h hhalt⟩
  · have hnot : endCursor sc s < slotCount s → endCursor sc s ∉ heldSlots s → False := fun hc hf => hfree ⟨hc, hf⟩
    rcases beginScan_cases { s with ssc := { s.ssc with scan := none, cursor := endCursor sc s } } with ⟨sc', hb⟩ | hb
    · rw [hb]
      exact ⟨_, settled_ask_bus ha, rfl, fun _ _ => ⟨rfl, fun h => absurd (he.symm.trans h) (by decide),
        fun _ hc hf => (hnot hc hf).elim⟩, fun _ _ h => absurd h hdoze, fun h => absurd h hhalt⟩
    · rw [hb, afterScan_awake (by exact hs)]
      exact ⟨_, settled_bus_nil ha, rfl, fun _ _ => ⟨rfl, fun h => absurd (he.symm.trans h) (by decide),
        fun _ hc hf => (hnot hc hf).elim⟩, fun _ _ h => absurd h hdoze, fun h => absurd h hhalt⟩

theorem pollPeriod_awake {s : State} (h : scansAllowed s = true) :
    pollPeriod s = if s.ssc.pollInterval = 0 then none
      else if s.pev.power = .reduced then some (4 * s.ssc.pollInterval) else some s.ssc.pollInterval := by
  simp [pollPeriod, h]

theorem scanEnds_of_last {sc : Scan} {s : State} (ha : s.mpt.asked = []) (h : (scansAllowed s && s.ssc.extraScan) = false) :
    ∃ t, settled (endScan sc s) = .next t ∧ ScanEnds sc s t := by
  rw [endScan_last h, closeScan_eq]
  cases hs : scansAllowed s with
  | true =>
    obtain ⟨hr, hp⟩ := (scansAllowed_iff s).mp hs
    have hextra : s.ssc.extraScan = false := by simpa [hs] using h
    have hdoze : s.pev.power ≠ .doze := by rcases hp with hp | hp <;> simp [hp]
    have hhalt : s.mpt.runState ≠ .halting := by simp [hr]
    rw [afterScan_awake (by exact hs), startPoll, pollPeriod_awake (by exact hs)]
    exact ⟨_, settled_bus_nil ha, rfl, fun _ _ => ⟨rfl, fun _ => ⟨rfl, rfl⟩, fun he => absurd (he.symm.trans hextra) (by decide)⟩,
      fun _ _ h => absurd h hdoze, fun h => absurd h hhalt⟩
  | false =>
    have hnot : s.mpt.runState = .running → s.pev.power = .run ∨ s.pev.power = .reduced → False := fun hr hp => by
      simp [(scansAllowed_iff s).mpr ⟨hr, hp⟩] at hs
    by_cases hd : ∃ p, s.pev.dozeJob = some (.scanning p)
    · obtain ⟨p, hd⟩ := hd
      rw [afterScan_scanning (by exact hs) (by exact hd)]
      refine ⟨_, settled_bus_nil ha, rfl, fun hr hp => (hnot hr hp).elim, fun q _ _ hq => ?_, fun _ hn => ?_⟩
      · obtain rfl : p = q := by simpa [hd] using hq
        exact ⟨rfl, rfl, rfl⟩
      · simp [hd] at hn
    · rw [afterScan_idle (by exact hs) (by exact fun p hp => hd ⟨p, hp⟩)]
      exact ⟨_, settled_bus_nil ha, rfl, fun hr hp => (hnot hr hp).elim, fun q _ _ hq => absurd ⟨q, hq⟩ hd,
        fun _ _ => ⟨rfl, rfl, rfl⟩⟩

/-- R133, R136, R137, R162: what follows a scan is what ScanEnds says. -/
theorem scanEnds_endScan (sc : Scan) {s : State} (ha : s.mpt.asked = []) :
    ∃ t, settled (endScan sc s) = .next t ∧ ScanEnds sc s t := by
  cases h : scansAllowed s && s.ssc.extraScan with
  | true =>
    obtain ⟨hs, he⟩ := (Bool.and_eq_true _ _).mp h
    exact scanEnds_of_extra ha hs he
  | false => exact scanEnds_of_last ha h

/-- In HALTING no further slot is examined (R137). -/
theorem goOn_stops {sc : Scan} {s : State} (h : s.mpt.runState ≠ .running) : goOn sc s = endScan sc s := if_neg h

/-! ### The slot in hand (R134, R135) -/

theorem stateRead_passes {sc : Scan} {data : List Byte} {s : State} (hd : byteAt data 0 ≠ 1) :
    stateRead sc data s = goOn sc s := if_pos hd

theorem stateRead_posted {sc : Scan} {data : List Byte} {s : State} (hd : byteAt data 0 = 1) (hr : s.mpt.runState = .running) :
    stateRead sc data s = ask (readOf .scan (slotAddress s sc.index 1) 3) (setScan { sc with phase := .readHead } s) := by
  rw [stateRead, if_neg (show ¬ byteAt data 0 ≠ slotPosted from not_not.mpr hd), if_pos hr]
  rfl

/-- In HALTING a slot found POSTED is left POSTED. -/
theorem stateRead_left {sc : Scan} {data : List Byte} {s : State} (hd : byteAt data 0 = 1) (hr : s.mpt.runState ≠ .running) :
    stateRead sc data s = endScan { sc with leftPosted := sc.leftPosted ++ [sc.index] } s := by
  rw [stateRead, if_neg (show ¬ byteAt data 0 ≠ slotPosted from not_not.mpr hd), if_neg hr]

theorem headRead_left {sc : Scan} {data : List Byte} {s : State} (hr : s.mpt.runState ≠ .running) :
    headRead sc data s = endScan { sc with leftPosted := sc.leftPosted ++ [sc.index] } s := if_pos hr

theorem requestRead_left {sc : Scan} {head data : List Byte} {s : State} (hr : s.mpt.runState ≠ .running) :
    requestRead sc head data s = endScan { sc with leftPosted := sc.leftPosted ++ [sc.index] } s := if_pos hr

theorem taskKind_none_iff (b : Byte) : taskKind b = none ↔ b.toNat = 0 ∨ 16 < b.toNat := by
  unfold taskKind
  split <;> simp_all
  omega

theorem headRead_unknown {sc : Scan} {data : List Byte} {s : State} (hr : s.mpt.runState = .running)
    (hk : taskKind (byteAt data 0) = none) : headRead sc data s = takeSlot sc (halfAt data 1) .badKind s := by
  rw [headRead, if_neg (not_not.mpr hr), if_pos hk]

theorem headRead_known {sc : Scan} {data : List Byte} {s : State} (hr : s.mpt.runState = .running)
    (hk : taskKind (byteAt data 0) ≠ none) :
    headRead sc data s
      = ask (readOf .scan (slotAddress s sc.index 4) 20) (setScan { sc with phase := .readRequest data } s) := by
  rw [headRead, if_neg (not_not.mpr hr), if_neg hk]
  rfl

/-- R135: what the scan passes over. -/
def Passed (sc : Scan) (p : Parsed) (s : State) : Prop :=
  (∃ r, p = .good (.cardInspect r)) ∧ (2 ≤ s.clk.hold.length ∨ sc.cardPassed = true)

theorem passOver_iff (sc : Scan) (p : Parsed) (s : State) : passOver sc p s = true ↔ Passed sc p s := by
  unfold passOver Passed
  split
  · have hplaces : (decide (Config.holdPlaces ≤ s.clk.hold.length) || sc.cardPassed) = true
        ↔ 2 ≤ s.clk.hold.length ∨ sc.cardPassed = true := by
      rw [Bool.or_eq_true, decide_eq_true_eq]
      rfl
    exact hplaces.trans ⟨fun h => ⟨⟨_, rfl⟩, h⟩, fun h => h.2⟩
  · rename_i hp
    simp only [Bool.false_eq_true, false_iff, not_and]
    rintro ⟨r, rfl⟩
    exact absurd rfl (hp r)

theorem requestRead_passes {sc : Scan} {head data : List Byte} {s : State} (hr : s.mpt.runState = .running)
    (h : Passed sc (readSlot (slotCount s) (slotPosted :: (head ++ data))) s) :
    requestRead sc head data s = goOn { sc with leftPosted := sc.leftPosted ++ [sc.index], cardPassed := true } s := by
  have hp := (passOver_iff sc _ s).mpr h
  simp only [requestRead, if_neg (not_not.mpr hr), if_pos hp]

theorem requestRead_takes {sc : Scan} {head data : List Byte} {s : State} (hr : s.mpt.runState = .running)
    (h : ¬ Passed sc (readSlot (slotCount s) (slotPosted :: (head ++ data))) s) :
    requestRead sc head data s = takeSlot sc (halfAt (slotPosted :: (head ++ data)) 2)
      (readSlot (slotCount s) (slotPosted :: (head ++ data))) s := by
  have hp := mt (passOver_iff sc _ s).mp h
  simp only [requestRead, if_neg (not_not.mpr hr), if_neg hp]

theorem scanEnds_of_eq {data : List Byte} {sc sc' : Scan} {s u : State} (hans : ScanAnswered data s) (ha : s.mpt.asked = [])
    (hsc : s.ssc.scan = some sc)
    (h : scanGoesOn sc data { s with mpt := freeBus s } = endScan sc' { u with mpt := freeBus s }) :
    ∃ t, exec (.memoryResponse data) s = .next t ∧ ScanEnds sc' { u with mpt := freeBus s } t := by
  rw [exec_scanAnswered hans hsc, h]
  exact scanEnds_endScan sc' ha

/-- Settles O21: a scan begins at the first free slot, and ends where none is left or the part is in HALTING. -/
theorem scansBeginAndEnd : Obligations.ScansBeginAndEnd := by
  unfold Obligations.ScansBeginAndEnd
  refine ⟨fun k s ha hs hnone => ?_, fun data sc s hans ha hsc => ?_⟩
  · intro n i hk hc hf hm
    have hbegin := beginScan_free_at hk hc hf hm
    have hpoll : s.ssc.pollTimer.isSome = true → exec .pollTimerExpiry s = settled (beginScan s) := fun ht => by
      simp only [exec, execPollTimerExpiry, hs, ht, hnone, and_self, if_true]
    have hnudge : exec .nudge s = settled (beginScan s) := by
      rw [nudge_awake hs, nudgeAwake, if_neg (by simp [hnone])]
    rw [hnudge]
    refine ⟨{ beginScan s with mpt := busAfter s s.mpt [readOf .scan (slotAddress s i 0) 1] }, ?_, ?_, ?_, fun ht => ?_⟩
    · exact busAfter_congr (by rw [hbegin]; rfl) (by rw [hbegin]; rfl) _ _
    · rw [hbegin]
      rfl
    · rw [hbegin]
      exact settled_ask_bus ha
    · rw [hpoll ht, hbegin]
      exact settled_ask_bus ha
  · intro ends left done
    have hends {sc' : Scan} {u : State} (h : scanGoesOn sc data { s with mpt := freeBus s }
        = endScan sc' { u with mpt := freeBus s }) : ends sc' u := scanEnds_of_eq hans ha hsc h
    refine ⟨fun hr hnone => ⟨fun hp hd => hends ?_, fun head r hp hread hpass => hends ?_, fun hp => hends ?_⟩,
      fun hr => ⟨fun hp hd => hends ?_, fun hp hd => hends ?_, fun hp => hends ?_, fun hp => hends ?_⟩⟩
    · rw [← goOn_none (s := { s with mpt := freeBus s }) hr hnone]
      simp only [scanGoesOn, hp]
      exact stateRead_passes hd
    · rw [← goOn_none (sc := { left with cardPassed := true }) (s := { s with mpt := freeBus s }) hr hnone]
      simp only [scanGoesOn, hp]
      exact requestRead_passes (s := { s with mpt := freeBus s }) hr ⟨⟨r, hread⟩, hpass⟩
    · rw [← goOn_none (s := { done with mpt := freeBus s }) hr hnone]
      simp only [scanGoesOn, hp]
      rfl
    · rw [← goOn_stops (s := { s with mpt := freeBus s }) (by simp [freeBus, hr])]
      simp only [scanGoesOn, hp]
      exact stateRead_passes hd
    · simp only [scanGoesOn, hp]
      exact stateRead_left hd (by simp [freeBus, hr])
    · obtain hp | ⟨head, hp⟩ := hp
      · simp only [scanGoesOn, hp]
        exact headRead_left (by simp [freeBus, hr])
      · simp only [scanGoesOn, hp]
        exact requestRead_left (by simp [freeBus, hr])
    · rw [← goOn_stops (s := { done with mpt := freeBus s }) (by simp [freeBus, hr])]
      simp only [scanGoesOn, hp]
      rfl

/-! ### The clock and the settling (R34, R164) -/

/-- Settles O22: each timer's event is one update, and the settling's end is the wake with the work it was begun for. -/
theorem clockAndSettling : Obligations.ClockAndSettling := by
  unfold Obligations.ClockAndSettling
  intro s
  refine ⟨fun ht hm => ?_, fun ht hm => ?_, fun ht => ?_, fun hs => ?_, fun hp => ⟨fun hs hh => ?_, fun hs hsc hc hf => ?_⟩⟩
  · simp only [exec, execMinuteTimerExpiry, if_pos ht, minutePasses]
    rw [if_neg (by exact hm)]
  · simp only [exec, execMinuteTimerExpiry, if_pos ht, minutePasses]
    rw [if_pos (by exact hm)]
  · simp [exec, execMinuteTimerExpiry, ht]
  · simp [exec, execSettlingEnd, hs]
  all_goals obtain ⟨ha, hbus⟩ := (portRule_iff s).mp hp
  · simp only [exec, execSettlingEnd, hs]
    rw [enterHalting_empty (by exact hh)]
    exact settled_none ha hbus
  · simp only [exec, execSettlingEnd, hs]
    rw [nudgeAwake, if_neg (by simp [wakeFromSleep, hsc]), beginScan_free (by exact hc) (by exact hf)]
    exact ⟨_, settled_ask_bus ha, rfl, rfl, rfl⟩

/-! ### The treatment of a slot (R130, R134, R135, R162) -/

/-- R134, R162: a slot is taken; in DOZE the part wakes with it. -/
theorem takeSlot_awake {sc : Scan} {tag : Half} {p : Parsed} {s : State} (h : s.pev.power ≠ .doze) :
    takeSlot sc tag p s = ask (writeOf .scan (slotAddress s sc.index 0) [2])
      (setScan { sc with lastTaken := some sc.index, phase := .writeTaken tag p } s) := by
  simp only [takeSlot, if_neg h]
  rfl

theorem takeSlot_doze {sc : Scan} {tag : Half} {p : Parsed} {s : State} (h : s.pev.power = .doze) :
    takeSlot sc tag p s = ask (writeOf .scan (slotAddress s sc.index 0) [2])
      (setScan { sc with lastTaken := some sc.index, phase := .writeTaken tag p } (wakeToRun s)) := by
  simp only [takeSlot, if_pos h]
  rfl

/-- Settles O33: the scan treats the slot in hand by its phase and by what it has read. -/
theorem scanTreatsSlots : Obligations.ScanTreatsSlots := by
  unfold Obligations.ScanTreatsSlots
  intro data sc s hans ha hsc hr parsed passed moved taken
  have hexec := exec_scanAnswered hans hsc
  have hr' : ({ s with mpt := freeBus s } : State).mpt.runState = .running := hr
  have htaken {tag : Half} {p : Parsed} (h : scanGoesOn sc data { s with mpt := freeBus s }
      = takeSlot sc tag p { s with mpt := freeBus s }) :
      ∃ t, exec (.memoryResponse data) s = .next t ∧ taken tag p t := by
    rw [hexec, h]
    by_cases hp : s.pev.power = .doze
    · rw [takeSlot_doze (by exact hp)]
      exact ⟨_, settled_ask_bus ha, rfl, rfl, fun h => absurd hp h, fun _ => ⟨rfl, rfl, rfl⟩⟩
    · rw [takeSlot_awake (by exact hp)]
      exact ⟨_, settled_ask_bus ha, rfl, rfl, fun _ => rfl, fun h => absurd h hp⟩
  refine ⟨fun k hp hd hf => ?_, fun hp hd => ?_, fun hp hk => htaken ?_, fun hp hlo hhi => ?_, fun head k hp hpass hf => ?_,
    fun head hp hlen hpass => ?_, fun tag p hp => ?_⟩
  · rw [hexec]
    simp only [scanGoesOn, hp]
    rw [stateRead_passes hd, goOn_free (s := { s with mpt := freeBus s }) hr hf]
    exact ⟨_, settled_ask_bus ha, rfl, rfl⟩
  · rw [hexec]
    simp only [scanGoesOn, hp]
    rw [stateRead_posted hd hr']
    exact ⟨_, settled_ask_bus ha, rfl, rfl⟩
  · simp only [scanGoesOn, hp]
    exact headRead_unknown hr' ((taskKind_none_iff _).mpr hk)
  · rw [hexec]
    simp only [scanGoesOn, hp]
    rw [headRead_known hr' (mt (taskKind_none_iff _).mp (by omega))]
    exact ⟨_, settled_ask_bus ha, rfl, rfl⟩
  · rw [hexec]
    simp only [scanGoesOn, hp]
    rw [requestRead_passes hr' hpass, goOn_free (k := k) hr' (by exact hf)]
    exact ⟨_, settled_ask_bus ha, rfl, rfl⟩
  · have htag : halfAt (slotPosted :: (head ++ data)) 2 = halfAt head 1 := by
      obtain ⟨a, b, c, rfl⟩ := List.length_eq_three.mp hlen
      rfl
    rw [← htag]
    refine htaken ?_
    simp only [scanGoesOn, hp]
    exact requestRead_takes hr' hpass
  · rw [hexec]
    simp only [scanGoesOn, hp]
    cases p with
    | badKind =>
      exact ⟨_, settled_ask_bus ha, rfl, fun _ => ⟨rfl, rfl⟩, fun _ h => Parsed.noConfusion h, fun _ h => Parsed.noConfusion h⟩
    | badField k =>
      refine ⟨_, settled_ask_bus ha, rfl, fun h => Parsed.noConfusion h, fun k' h => ?_, fun _ h => Parsed.noConfusion h⟩
      obtain rfl : k = k' := by simpa using h
      exact ⟨rfl, rfl⟩
    | good r =>
      refine ⟨_, settled_bus_nil ha, rfl, fun h => Parsed.noConfusion h, fun _ h => Parsed.noConfusion h, fun r' h => ?_⟩
      obtain rfl : r = r' := by simpa using h
      exact ⟨rfl, rfl⟩

end Sys2Proof.Proofs.ScanRules
end

section
/-! SUPPORT. The card hold's entrances and exits, and the completion of tasks (R88, R90, R102, R106, R110, R131): obligations
O34 and O35. -/

namespace Sys2Proof.Proofs.HoldEnds

open Sys2Proof Sys2Proof.Machine RunStates ScanRules

/-! ### The head of the hold (R88, R90) -/

/-- R86: a grant with no passive check to abandon. -/
theorem turnOn_free {s : State} (h : s.fmn.passive = none) (x : FieldHolder) :
    turnOn x s = { s with
      clk := { s.clk with holder := x }
      fmn := { s.fmn with finding := findingAtTurnOn s.draws s.fmn.finding, detected := false }
      draws := s.draws + 1 } := by
  simp only [turnOn, abandonPassive, h]

/-- R90: the state in which the head has been granted the field. -/
def granted (t : HeldTask) (rest : List HeldTask) (s : State) : State :=
  { s with
    clk := { s.clk with
      hold := { t with session := .presence } :: rest, holder := .session, deadline := some t.req.timeout, tries := 1
      interval := if s.fmn.reducedDuty = true ∨ s.pev.power = .reduced then 200 else 50 }
    fmn := { s.fmn with finding := findingAtTurnOn s.draws s.fmn.finding, detected := false }
    draws := s.draws + 1 }

theorem grantHead_free {s : State} {t : HeldTask} {rest : List HeldTask} (hh : s.clk.hold = t :: rest)
    (hn : t.slot ∉ rest.map HeldTask.slot) (hp : s.fmn.passive = none) : grantHead t s = granted t rest s := by
  rw [grantHead, turnOn_free hp, setSession_head _ (by exact hh) hn]
  rfl

/-- R90: a head that waits in a free and unblocked field is granted it. -/
theorem beginHead_grants {s : State} {t : HeldTask} {rest : List HeldTask} (hh : s.clk.hold = t :: rest)
    (hn : t.slot ∉ rest.map HeldTask.slot) (hw : t.session = .waitingField) (hf : s.clk.holder = .none)
    (hb : fieldBlocked s = false) (hp : s.fmn.passive = none) : beginHead s = granted t rest s := by
  simp only [beginHead, hh, if_pos hw, beginSession, hb, Bool.false_eq_true, if_false, if_pos hf]
  exact grantHead_free hh hn hp

/-- R106: under a block it completes FIELD FAULT. -/
theorem beginHead_blocked {s : State} {t : HeldTask} {rest : List HeldTask} (hh : s.clk.hold = t :: rest)
    (hn : t.slot ∉ rest.map HeldTask.slot) (hw : t.session = .waitingField) (hb : fieldBlocked s = true) :
    beginHead s = ask (answerOf (.card t.slot) s t.slot t.tag { code := .fieldFault }) { s with
      clk := { s.clk with hold := { t with session := .closing (.coded .fieldFault none) {} .writeAnswer } :: rest } } := by
  simp only [beginHead, hh, if_pos hw, beginSession, hb, if_true, handOver]
  rw [setSession_head _ hh hn]
  rfl

/-- R86: behind a sense pulse it waits. -/
theorem beginHead_waits {s : State} {t : HeldTask} {rest : List HeldTask} (hh : s.clk.hold = t :: rest)
    (hf : s.clk.holder ≠ .none) (hb : fieldBlocked s = false) : beginHead s = s := by
  simp [beginHead, hh, beginSession, hb, hf]

theorem beginHead_empty {s : State} (hh : s.clk.hold = []) : beginHead s = s := by
  simp only [beginHead, hh]

/-- R88, R102: the head leaves, and the second becomes head. -/
theorem leaveHold_head {s : State} {t : HeldTask} {rest : List HeldTask} (hh : s.clk.hold = t :: rest)
    (hn : t.slot ∉ rest.map HeldTask.slot) :
    leaveHold t.slot s = beginHead { s with clk := { s.clk with hold := rest, identity := none } } := by
  have hrest : rest.filter (fun x => x.slot != t.slot) = rest := by
    refine List.filter_eq_self.mpr fun x hx => ?_
    simpa using fun he : x.slot = t.slot => hn (List.mem_map.mpr ⟨x, hx, he⟩)
  simp [leaveHold, hh, hrest]

/-! ### The completion of a card task (R102, R131) -/

/-- R144: the answer of a card task's access. -/
theorem exec_cardAnswered {slot : Nat} {s : State} (h : CardAnswered slot s) :
    exec (.memoryResponse []) s = settled (cardGoesOn slot { s with mpt := freeBus s }) := by
  obtain ⟨a, hf, hc, ha⟩ := h
  simp only [exec, execMemoryResponse, hf, ha, if_true, hc, resume, freeBus]

theorem findHeld_head {s : State} {t : HeldTask} {rest : List HeldTask} (hh : s.clk.hold = t :: rest) :
    findHeld t.slot s = some t := by simp [findHeld, hh]

theorem cardGoesOn_answer {s : State} {t : HeldTask} {rest : List HeldTask} {e : SessionEnd} {o : Owed}
    (hh : s.clk.hold = t :: rest) (hn : t.slot ∉ rest.map HeldTask.slot) (ht : t.session = .closing e o .writeAnswer) :
    cardGoesOn t.slot s = ask (doneOf (.card t.slot) s t.slot)
      { s with clk := { s.clk with hold := { t with session := .closing e o .writeDone } :: rest } } := by
  simp only [cardGoesOn, findHeld_head hh, ht, setSession_head _ hh hn]
  rfl

theorem cardGoesOn_done {s : State} {t : HeldTask} {rest : List HeldTask} {e : SessionEnd} {o : Owed}
    (hh : s.clk.hold = t :: rest) (hn : t.slot ∉ rest.map HeldTask.slot) (ht : t.session = .closing e o .writeDone) :
    cardGoesOn t.slot s = cancelServed t.slot (beginHead { s with
      clk := { s.clk with hold := rest, identity := none }
      pev := { s.pev with events := s.pev.events ||| evTaskDone } }) := by
  simp only [cardGoesOn, findHeld_head hh, ht]
  rw [leaveHold_head (by exact hh) hn]
  rfl

theorem servedTask_iff (s : State) (sc : Scan) (t : Task) (g : ServeStage) :
    servedTask s = some (sc, t, g) ↔ Serving sc t g s := by
  unfold servedTask Serving
  cases hs : s.ssc.scan with
  | none => simp
  | some sc' =>
    simp only [Option.some.injEq]
    constructor
    · intro h
      cases hp : sc'.phase with
      | serving t' g' =>
        simp only [hp, Option.some.injEq, Prod.mk.injEq] at h
        obtain ⟨rfl, rfl, rfl⟩ := h
        exact ⟨rfl, hp⟩
      | _ => simp [hp] at h
    · rintro ⟨rfl, hp⟩
      simp only [hp]

/-- No CANCEL waits for this slot. -/
theorem cancelServed_skips {slot : Nat} {s : State} (h : ∀ sc t body, ¬ Serving sc t (.cancelWait slot body) s) :
    cancelServed slot s = s := by
  unfold cancelServed
  split
  · rename_i sc t target body hs
    refine if_neg ?_
    rintro rfl
    exact h sc t body ((servedTask_iff ..).mp hs)
  · rfl

/-- Settles O34: each write of a completion leads to the next, and DONE to what it frees. -/
theorem completionAtDone : Obligations.CompletionAtDone := by
  unfold Obligations.CompletionAtDone
  refine ⟨fun sc tag s hans ha hsc => ⟨fun change hp hc => ?_, fun k hr hp hf => ?_⟩,
    fun h rest e o s hans ha hh hn hcancel => ?_⟩
  · have hdone : scanGoesOn sc [] { s with mpt := freeBus s } = ask (doneOf .scan s sc.index)
        (setScan { sc with phase := .writeDone change } { s with mpt := freeBus s }) := by
      have hnot : ((change.map fun c => endsScan c.target).getD false && s.mpt.runState == .halting) = false := by
        cases change with
        | none => rfl
        | some c =>
          cases he : endsScan c.target
          · simp [he]
          · simpa [he] using hc c rfl he
      simp only [scanGoesOn, hp, answerWritten]
      rw [if_neg (by simpa [freeBus] using hnot)]
      rfl
    rw [exec_scanAnswered hans hsc, hdone]
    refine ⟨_, settled_ask_bus ha, rfl, rfl, ?_⟩
    simp [heldList, heldSlots, setScan, hsc, hp]
  · rw [exec_scanAnswered hans hsc]
    simp only [scanGoesOn, hp, doneWritten]
    rw [goOn_free (k := k) (by exact hr) (by exact hf)]
    refine ⟨_, settled_ask_bus ha, rfl, rfl, ?_, ?_⟩
    · simp [heldList, hsc, hp]
    · simp [heldList, heldSlots, setScan, scanAt]
  · rw [exec_cardAnswered hans]
    refine ⟨fun ht => ?_, fun ht hrest => ?_, fun h2 ht hrest hw => ⟨fun hf hb hp => ?_, fun hb => ?_⟩⟩
    · rw [cardGoesOn_answer (by exact hh) hn ht]
      exact ⟨_, settled_ask_bus ha, rfl, rfl⟩
    · subst hrest
      rw [cardGoesOn_done (by exact hh) hn ht, beginHead_empty rfl, cancelServed_skips (by exact hcancel)]
      exact ⟨_, settled_bus_nil ha, rfl, rfl⟩
    · subst hrest
      rw [cardGoesOn_done (by exact hh) hn ht, beginHead_grants rfl List.not_mem_nil hw (by exact hf) (by exact hb) (by exact hp),
        cancelServed_skips (by exact hcancel)]
      exact ⟨_, settled_bus_nil ha, rfl, rfl, rfl⟩
    · subst hrest
      rw [cardGoesOn_done (by exact hh) hn ht, beginHead_blocked rfl List.not_mem_nil hw (by exact hb),
        cancelServed_skips (by exact hcancel)]
      exact ⟨_, settled_ask_bus ha, rfl, rfl⟩

/-! ### CARD INSPECT (R88 to R90, R106, R110) -/

theorem handedTask_of {sc : Scan} {t : Task} {s : State} (h : InHand sc t s) : handedTask s = some (sc, t) := by
  obtain ⟨hsc, hp⟩ := h
  simp only [handedTask, hsc, hp]

/-- The task of a CARD INSPECT as it enters the hold. -/
def newcomer (i : Nat) (tag : Half) (r : CardRequest) (x : Session) : HeldTask := ⟨i, tag, r, x⟩

/-- The session of the last of the hold is set. -/
theorem setSession_last {s : State} {i : Nat} {tag : Half} {r : CardRequest} {l : List HeldTask} (x : Session)
    (hh : s.clk.hold = l ++ [newcomer i tag r .waitingField]) (hn : i ∉ l.map HeldTask.slot) :
    setSession i x s = { s with clk := { s.clk with hold := l ++ [newcomer i tag r x] } } := by
  have hl : l.map (fun t => if t.slot = i then { t with session := x } else t) = l := by
    refine (List.map_congr_left fun t ht => if_neg fun he => hn ?_).trans (List.map_id l)
    exact List.mem_map.mpr ⟨t, ht, he⟩
  simp [setSession, hh, hl, newcomer]

section
variable {i : Nat} {tag : Half} {r : CardRequest} {s : State}

/-- The hold with the newcomer in it, waiting for the field. -/
def entering (i : Nat) (tag : Half) (r : CardRequest) (s : State) : State :=
  { s with clk := { s.clk with hold := s.clk.hold ++ [newcomer i tag r .waitingField] } }

theorem enterHold_halting (hn : i ∉ heldSlots s) (hr : s.mpt.runState = .halting) :
    enterHold i tag r s = ask (answerOf (.card i) s i tag { code := .halted }) { s with
      clk := { s.clk with hold := s.clk.hold ++ [newcomer i tag r (.closing (.coded .halted none) {} .writeAnswer)] } } := by
  have hset := setSession_last (s := entering i tag r s) (.closing (.coded .halted none) {} .writeAnswer) rfl hn
  simp only [enterHold, if_pos hr, handOver]
  exact congrArg _ hset

theorem enterHold_first (hr : s.mpt.runState ≠ .halting) (hh : s.clk.hold = []) :
    enterHold i tag r s = beginHead (entering i tag r s) := by
  simp only [enterHold, if_neg hr, hh, List.isEmpty_nil, if_true]
  rw [entering, hh]
  rfl

theorem enterHold_second (hr : s.mpt.runState ≠ .halting) (hh : s.clk.hold ≠ []) :
    enterHold i tag r s = entering i tag r s := by
  simp only [enterHold, if_neg hr, List.isEmpty_iff, if_neg hh]
  rfl

theorem enterHold_grants (hr : s.mpt.runState ≠ .halting) (hh : s.clk.hold = []) (hf : s.clk.holder = .none)
    (hb : fieldBlocked s = false) (hp : s.fmn.passive = none) :
    enterHold i tag r s = granted (newcomer i tag r .waitingField) [] s := by
  rw [enterHold_first hr hh, beginHead_grants (t := newcomer i tag r .waitingField) (rest := []) (by simp [entering, hh])
    List.not_mem_nil rfl (by exact hf) (by exact hb) (by exact hp)]
  rfl

theorem enterHold_blocked (hr : s.mpt.runState ≠ .halting) (hh : s.clk.hold = []) (hb : fieldBlocked s = true) :
    enterHold i tag r s = ask (answerOf (.card i) s i tag { code := .fieldFault }) { s with
      clk := { s.clk with hold := [newcomer i tag r (.closing (.coded .fieldFault none) {} .writeAnswer)] } } := by
  rw [enterHold_first hr hh, beginHead_blocked (t := newcomer i tag r .waitingField) (rest := []) (by simp [entering, hh])
    List.not_mem_nil rfl (by exact hb)]
  rfl

theorem enterHold_waits (hr : s.mpt.runState ≠ .halting)
    (hw : s.clk.hold ≠ [] ∨ (s.clk.holder ≠ .none ∧ fieldBlocked s = false)) :
    enterHold i tag r s = entering i tag r s := by
  by_cases hh : s.clk.hold = []
  · obtain ⟨hf, hb⟩ := hw.resolve_left (not_not.mpr hh)
    rw [enterHold_first hr hh, beginHead_waits (t := newcomer i tag r .waitingField) (rest := []) (by simp [entering, hh])
      (by exact hf) (by exact hb)]
  · exact enterHold_second hr hh

end

/-- R128: the task in hand enters the hold, and the scan goes on. -/
theorem exec_cardInspect {sc : Scan} {tag : Half} {r : CardRequest} {s : State} (h : InHand sc ⟨tag, .cardInspect r⟩ s) :
    exec .cardInspect s = settled (goOn sc (enterHold sc.index tag r s)) := by
  simp only [exec, execCardInspect, handedTask_of h]

theorem heldSlots_entered {i : Nat} {tag : Half} {r : CardRequest} {x : Session} {s u : State}
    (h : u.clk.hold = s.clk.hold ++ [newcomer i tag r x]) : heldSlots u = heldSlots s ++ [i] := by
  simp [heldSlots, h, newcomer]

theorem goOn_entered {sc : Scan} {k : Nat} {tag : Half} {r : CardRequest} {x : Session} {s u : State}
    (hr : u.mpt.runState = .running) (hssc : u.ssc = s.ssc) (h : u.clk.hold = s.clk.hold ++ [newcomer sc.index tag r x])
    (hf : NextFree (heldSlots s ++ [sc.index]) sc k s) :
    goOn sc u = ask (stateReadOf s (slotAhead sc k s)) (setScan (scanAt sc k s) u) := by
  have hcount : slotCount u = slotCount s := by simp only [slotCount, hssc]
  have hahead : ∀ m, slotAhead sc m u = slotAhead sc m s := fun m => by simp only [slotAhead, hcount]
  have hf' : NextFree (heldSlots u) sc k u := by simpa only [NextFree, heldSlots_entered h, hahead] using hf
  rw [goOn_free hr hf']
  simp only [examine, scanAt, hahead, slotAddress, hssc, stateReadOf]
  rfl

theorem goOn_entered_none {sc : Scan} {tag : Half} {r : CardRequest} {x : Session} {s u : State}
    (hr : u.mpt.runState = .running) (hssc : u.ssc = s.ssc) (h : u.clk.hold = s.clk.hold ++ [newcomer sc.index tag r x])
    (hf : NoneFree (heldSlots s ++ [sc.index]) sc s) : goOn sc u = endScan sc u := by
  have hahead : ∀ m, slotAhead sc m u = slotAhead sc m s := fun m => by simp only [slotAhead, slotCount, hssc]
  exact goOn_none hr (by simpa only [NoneFree, heldSlots_entered h, hahead] using hf)

/-- One access asked for on a bus where none was. -/
theorem arbitrate_mpt {u : State} {m : MemoryPort} {a : Access} (hm : m.asked = []) (hu : u.mpt = { m with asked := [a] }) :
    (arbitrate u).mpt = busAfter (arbitrate u) m [a] := by
  obtain ⟨t, ht, hmpt⟩ := settled_bus m [a] hm (Nat.le_refl 1) hu fun t hmpt _ => hmpt
  obtain rfl : arbitrate u = t := by simpa [settled] using ht
  exact hmpt

/-- Settles O35: what the newcomer meets in the hold, the field and the run state decides its session. -/
theorem cardInspectEntersTheHold : Obligations.CardInspectEntersTheHold := by
  unfold Obligations.CardInspectEntersTheHold
  intro sc tag r k s ha hin hslot entered
  rw [exec_cardInspect hin]
  refine ⟨fun hr hp hf => ?_, fun hr hp hf hb => ?_, fun hr => ?_⟩
  · have hr' : s.mpt.runState ≠ .halting := by simp [hr]
    by_cases hw : s.clk.hold ≠ [] ∨ (s.clk.holder ≠ .none ∧ fieldBlocked s = false)
    · rw [enterHold_waits hr' hw, goOn_entered (s := s) (u := entering sc.index tag r s) hr rfl rfl hf]
      refine ⟨_, settled_ask_bus ha, rfl, rfl, fun hh hfree hb => ?_, fun hh hb => ?_, fun _ => ⟨rfl, rfl, rfl⟩⟩
      · simp [hh, hfree] at hw
      · simp [hh, hb] at hw
    · obtain ⟨hh, hfree⟩ := not_or.mp hw
      replace hh : s.clk.hold = [] := not_not.mp hh
      cases hb : fieldBlocked s with
      | true =>
        rw [enterHold_blocked hr' hh hb, goOn_entered (s := s) (tag := tag) (r := r)
          (x := .closing (.coded .fieldFault none) {} .writeAnswer) (by exact hr) (by rfl) (by simp [hh, newcomer]) hf]
        refine ⟨_, rfl, by simp [setScan], by apply state_ext <;> simp [setScan], by simp, fun _ _ => ?_, by simp [hh]⟩
        simp [setScan, entered, hh, newcomer]
      | false =>
        replace hfree : s.clk.holder = .none := by simpa [hb] using hfree
        rw [enterHold_grants hr' hh hfree hb hp, goOn_entered (s := s) (tag := tag) (r := r) (x := .presence)
          (by exact hr) (by rfl) (by simp [hh, granted, newcomer]) hf]
        refine ⟨_, settled_ask_bus ha, rfl, rfl, fun _ _ _ => ⟨?_, rfl, rfl⟩, by simp, by simp [hh, hfree]⟩
        simp [setScan, granted, entered, hh, newcomer]
  · have hr' : s.mpt.runState ≠ .halting := by simp [hr]
    have hends {x : Session} {u : State} (hu : enterHold sc.index tag r s = u) (hua : u.mpt.asked = [])
        (hkeeps : u = { s with clk := u.clk, fmn := u.fmn, draws := u.draws }) (hclk : u.clk.hold = entered x) :
        ∃ t, settled (goOn sc (enterHold sc.index tag r s)) = .next t ∧ (∃ x, t.clk.hold = entered x)
          ∧ ScanEnds sc { s with clk := t.clk, fmn := t.fmn, draws := t.draws } t := by
      have hrun : u.mpt.runState = .running := by rw [hkeeps]; exact hr
      have hssc : u.ssc = s.ssc := by rw [hkeeps]
      rw [hu, goOn_entered_none (tag := tag) (r := r) (x := x) hrun hssc hclk hf]
      obtain ⟨t, ht, hscan⟩ := scanEnds_endScan sc hua
      have hframe := hscan.1
      have htu : t.clk = u.clk ∧ t.fmn = u.fmn ∧ t.draws = u.draws := by rw [hframe]; exact ⟨rfl, rfl, rfl⟩
      refine ⟨t, ht, ⟨x, by rw [htu.1, hclk]⟩, ?_⟩
      rw [htu.1, htu.2.1, htu.2.2, ← hkeeps]
      exact hscan
    by_cases hw : s.clk.hold ≠ [] ∨ (s.clk.holder ≠ .none ∧ fieldBlocked s = false)
    · exact hends (enterHold_waits hr' hw) ha rfl rfl
    · obtain ⟨hh, hfree⟩ := not_or.mp hw
      replace hh : s.clk.hold = [] := not_not.mp hh
      replace hfree : s.clk.holder = .none := by simpa [hb] using hfree
      exact hends (x := .presence) (enterHold_grants hr' hh hfree hb hp) ha rfl (by simp [granted, entered, hh, newcomer])
  · rw [enterHold_halting hslot hr, goOn_stops (by simp [hr])]
    have hnot : scansAllowed s = false := by simp [scansAllowed, hr]
    rw [endScan_last (by rw [Bool.and_eq_false_iff]; exact .inl hnot)]
    refine ⟨_, rfl, arbitrate_mpt ha (by simp [closeScan, ha]), by simp [closeScan, entered, newcomer], ?_, ?_⟩
    · simp [closeScan]
    · simp [closeScan]

end Sys2Proof.Proofs.HoldEnds
end

section
/-! SUPPORT. The tasks that read a buffer, TOKEN INSPECT, ROUTE and POSITION (R25, R37 to R45, R58, R70, R71, R76, R170):
obligations O36 to O39. -/

namespace Sys2Proof.Proofs.TaskRules

open Sys2Proof Sys2Proof.Machine RunStates ScanRules HoldEnds

/-! ### The completion of the task in hand (R131) -/

theorem completeTask_eq (sc : Scan) (tag : Half) (body : AnswerBody) (change : Option PowerChange) (s : State) :
    completeTask sc tag body change s
      = ask (answerOf .scan s sc.index tag body) (setScan { sc with phase := .writeAnswer tag change } s) := rfl

/-- The state after the task in hand has asked for the write of its answer, with the bus arbitrated. -/
def completed (sc : Scan) (tag : Half) (body : AnswerBody) (change : Option PowerChange) (s : State) : State :=
  { s with
    mpt := busAfter s s.mpt [answerOf .scan s sc.index tag body]
    ssc := { s.ssc with scan := some { sc with phase := .writeAnswer tag change } } }

theorem settled_completeTask {sc : Scan} {tag : Half} {body : AnswerBody} {change : Option PowerChange} {s : State}
    (ha : s.mpt.asked = []) : settled (completeTask sc tag body change s) = .next (completed sc tag body change s) :=
  settled_ask_bus ha

theorem handedTask_serving {sc : Scan} {t : Task} {g : ServeStage} {s : State} (h : Serving sc t g s) :
    handedTask s = none := by
  obtain ⟨hsc, hp⟩ := h
  simp only [handedTask, hsc, hp]

theorem exec_servingAnswered {data : List Byte} {sc : Scan} {t : Task} {g : ServeStage} {s : State}
    (h : ScanAnswered data s) (hg : Serving sc t g s) :
    exec (.memoryResponse data) s = settled (servingGoesOn sc t g data { s with mpt := freeBus s }) := by
  obtain ⟨hsc, hp⟩ := hg
  rw [exec_scanAnswered h hsc]
  simp only [scanGoesOn, hp]

/-- Settles O36: the buffer is read at one access, and a deny task with none is served at once. -/
theorem tasksReadTheirBuffers : Obligations.TasksReadTheirBuffers := by
  unfold Obligations.TasksReadTheirBuffers
  refine ⟨fun sc tag req s ha hin => ?_, fun sc tag s ha => ?_⟩
  · intro reads
    have hhand := handedTask_of hin
    refine ⟨fun r w hq => ?_, fun r hq hlo hhi => ?_, fun r hq hc => ?_, fun r hq hc => ?_, fun n a hq => ?_,
      fun n b a hq => ?_⟩
    all_goals subst hq
    · simp only [reads, exec, execTokenInspect, hhand]
      exact ⟨_, settled_ask_bus ha, ⟨rfl, rfl⟩, rfl⟩
    · have hcount : stopCountOk r.count = true := by simp [stopCountOk, Config.routeStops, hlo, hhi]
      simp only [reads, exec, execRoute, hhand, routeTaken, if_pos hcount]
      exact ⟨_, settled_ask_bus ha, ⟨rfl, rfl⟩, rfl⟩
    · simp only [reads, exec, execDenyReplace, hhand, if_neg hc]
      exact ⟨_, settled_ask_bus ha, ⟨rfl, rfl⟩, rfl⟩
    · simp only [reads, exec, execDenyDelta, hhand, if_neg hc]
      exact ⟨_, settled_ask_bus ha, ⟨rfl, rfl⟩, rfl⟩
    · simp only [reads, exec, execPeerNotes, hhand]
      exact ⟨_, settled_ask_bus ha, ⟨rfl, rfl⟩, rfl⟩
    · simp only [reads, exec, execKeyLoad, hhand]
      exact ⟨_, settled_ask_bus ha, ⟨rfl, rfl⟩, rfl⟩
  · intro served
    refine ⟨fun r hin hc => ?_, fun r hin hc => ?_, fun day hin => ?_, fun data hans => ⟨fun r hg => ?_, fun r hg => ?_⟩⟩
    · simp only [served, exec, execDenyReplace, handedTask_of hin, if_pos hc]
      exact ⟨_, settled_completeTask ha, ⟨rfl, rfl⟩, rfl⟩
    · simp only [served, exec, execDenyDelta, handedTask_of hin, if_pos hc]
      exact ⟨_, settled_completeTask ha, ⟨rfl, rfl⟩, rfl⟩
    · simp only [served, exec, execDenyPrune, handedTask_of hin]
      exact ⟨_, settled_completeTask ha, ⟨rfl, rfl⟩, rfl⟩
    · simp only [served]
      rw [exec_servingAnswered hans hg]
      exact ⟨_, settled_completeTask ha, ⟨rfl, rfl⟩, rfl⟩
    · simp only [served]
      rw [exec_servingAnswered hans hg]
      exact ⟨_, settled_completeTask ha, ⟨rfl, rfl⟩, rfl⟩

/-! ### TOKEN INSPECT (R17, R20, R21, R25) -/

theorem insertAt_perm {α : Type} (k : Nat) (x : α) (l : List α) : (insertAt k x l).Perm (x :: l) := by
  have h := List.perm_middle (a := x) (l₁ := l.take k) (l₂ := l.drop k)
  rwa [List.take_append_drop] at h

theorem freeOrder_perm {α : Type} : ∀ (n : Nat) (l : List α), (freeOrder n l).Perm l
  | _, [] => List.Perm.refl _
  | _, [_] => List.Perm.refl _
  | n, x :: y :: l => (insertAt_perm _ x _).trans ((freeOrder_perm (n + 1) (y :: l)).cons x)

/-- R144: whatever is asked for at one event goes to the bus in some order. -/
theorem arbitrate_asksFor {u : State} {m : MemoryPort} {l : List Access} (hm : m.asked = [])
    (hu : u.mpt = { m with asked := l }) : AsksFor l m (arbitrate u) := by
  refine ⟨freeOrder u.draws l, freeOrder_perm _ l, ?_⟩
  have hfmn : (arbitrate u).fmn = u.fmn := by simp
  have hpev : (arbitrate u).pev = u.pev := by simp
  rw [busAfter_congr hfmn hpev]
  have hw : u.mpt.waiting = m.waiting := by rw [hu]
  have hf : u.mpt.flight = m.flight := by rw [hu]
  have hl : u.mpt.asked = l := by rw [hu]
  simp only [arbitrate, launch, queueAsked, busAfter, hw, hf, hl]
  cases hfl : m.flight with
  | some a => simp [hu, hm]
  | none =>
    cases hwl : m.waiting ++ freeOrder u.draws l with
    | nil => simp [hu, hm, hfl]
    | cons a rest =>
      simp only [hu, ← hm]
      rfl

theorem delivered_arrive (js : List JournalJob) (s : State) : Delivered s (arrive js s) := by
  simp only [arrive, serveNext]
  split <;> exact ⟨rfl, rfl⟩

theorem delivered_askBlocks (w : Asks) (a : Asking) (s : State) : Delivered s (askBlocks w a s).state := by
  rw [DecisionPoint.askBlocks_eq, askSeenTable]
  have hfirst : Delivered s (DecisionPoint.askFirst w a s).state := by
    rw [DecisionPoint.askFirst_state]
    exact ⟨rfl, rfl⟩
  split
  · obtain ⟨hmpt, hjnw⟩ := hfirst.trans (delivered_deliverUpdates _)
    exact ⟨hmpt, hjnw⟩
  · exact hfirst

theorem delivered_conclude (a : Asking) (r : Replies) (claims : List JournalJob) (s : State) :
    Delivered s (conclude a r claims s).1 := by
  obtain ⟨hmpt, hjnw⟩ := delivered_arrive (joinClaims s.draws (deniedClaim a.inspection r) claims)
    { s with snt := noteRuling a (contextAnswer r.context) (rule a.inspection s.ven r) s.snt, draws := s.draws + 1 }
  exact ⟨hmpt, hjnw⟩

/-- Settles O37: the token's reply begins the decision point, and the last answer ends it by its ruling. -/
theorem tokenInspectDecides : Obligations.TokenInspectDecides := by
  unfold Obligations.TokenInspectDecides
  intro sc tag r s ha task stage
  refine ⟨fun data hans hg => ?_, fun w a hg => ?_⟩
  · rw [exec_servingAnswered hans hg]
    simp only [servingGoesOn, tokenServed, task]
    by_cases hc : credAt data 0 = 0
    · rw [if_pos hc]
      exact ⟨_, settled_completeTask ha, rfl, fun _ => ⟨rfl, rfl⟩, fun h => absurd hc h⟩
    · rw [if_neg hc]
      exact ⟨_, settled_bus_nil ha, rfl, fun h => absurd h hc, fun _ => ⟨rfl, rfl⟩⟩
  · intro x
    have hexec : exec (.tokenInspect w) s = settled (askToken sc task w a s) := by
      simp only [exec, execTokenInspect, handedTask_serving hg, (servedTask_iff ..).mpr hg]
    refine ⟨_, hexec, ?_⟩
    have hssc : x.state.ssc = s.ssc := (askBlocks_keeps w a s).1
    cases hx : x.asking.replies with
    | none =>
      have htok : askToken sc task w a s = arrive x.claims (serveOn sc task (.tokenAsk x.asking) x.state) := by
        simp only [askToken, x, hx]
      rw [htok]
      refine ⟨by simp [serveOn, setScan], by simp [serveOn, setScan, x], by simp [serveOn, setScan, x],
        by simp [serveOn, setScan, x], by simp [serveOn, setScan, x], fun _ => ⟨?_, ?_, ?_⟩, by simp⟩
      · simp [serveOn, setScan, hssc, stage]
      · simp [serveOn, setScan]
      · simp [DecisionPoint.arrive_queue, serveOn, setScan]
    | some y =>
      have htok : askToken sc task w a s = decideToken sc task x.asking y x.claims x.state := by
        simp only [askToken, x, hx]
      rw [htok]
      obtain ⟨hzssc, hzrcx, hzven, hzdnl, hzclk, hzfmn, hzpev, -⟩ := conclude_keeps x.asking y x.claims x.state
      have hxrcx : x.state.rcx = s.rcx := (askBlocks_keeps w a s).2.1
      have hxven : x.state.ven = s.ven := (askBlocks_keeps w a s).2.2.1
      have hxclk : x.state.clk = s.clk := (askBlocks_keeps w a s).2.2.2.1
      have hxpev : x.state.pev = s.pev := (askBlocks_keeps w a s).2.2.2.2.2.1
      have hmpt : (conclude x.asking y x.claims x.state).1.mpt
          = { s.mpt with asked := (conclude x.asking y x.claims x.state).1.mpt.asked } :=
        ((delivered_askBlocks w a s).trans (delivered_conclude x.asking y x.claims x.state)).mpt
      have hadd : (conclude x.asking y x.claims x.state).2.deniedOwed = y.denied.hit.isSome := rfl
      cases hrul : (conclude x.asking y x.claims x.state).2.ruling with
      | final d =>
        cases hhit : y.denied.hit with
        | none =>
          have hdec : decideToken sc task x.asking y x.claims x.state
              = completeTask sc tag (inspectionAnswer d) none (conclude x.asking y x.claims x.state).1 := by
            simp only [decideToken, hrul, hadd, hhit, Option.isSome_none, Bool.false_eq_true, if_false, task]
          rw [hdec]
          refine ⟨by simp, by simp [hxrcx], by simp [hxven], by simp [hxclk], by simp [hxpev], by simp, fun y' hy => ?_⟩
          obtain rfl : y = y' := by simpa using hy
          refine ⟨by simp, fun d' hd _ => ?_, by simp [hhit], by simp [hrul]⟩
          obtain rfl : d = d' := by simpa [hrul] using hd
          refine ⟨arbitrate_asksFor ha ?_, by simp [completeTask, setScan, hssc], by simp⟩
          have hans : answerOf .scan (conclude x.asking y x.claims x.state).1 sc.index tag (inspectionAnswer d)
              = answerOf .scan s sc.index tag (inspectionAnswer d) := by
            simp only [answerOf, slotAddress, hzssc, hssc]
          rw [completeTask_eq, hans]
          exact congrArg (fun m : MemoryPort => { m with
            asked := (conclude x.asking y x.claims x.state).1.mpt.asked
              ++ [answerOf .scan s sc.index tag (inspectionAnswer d)] }) hmpt
        | some e =>
          have hdec : decideToken sc task x.asking y x.claims x.state
              = serveOn sc task (.tokenDenied d) (conclude x.asking y x.claims x.state).1 := by
            simp only [decideToken, hrul, hadd, hhit, Option.isSome_some, if_true, task]
          rw [hdec]
          refine ⟨by simp, by simp [hxrcx], by simp [hxven], by simp [hxclk], by simp [hxpev], by simp, fun y' hy => ?_⟩
          obtain rfl : y = y' := by simpa using hy
          refine ⟨by simp, by simp [hhit], fun d' hd _ => ?_, by simp [hrul]⟩
          obtain rfl : d = d' := by simpa [hrul] using hd
          exact ⟨by simp [serveOn, setScan, hssc, stage], by simp⟩
      | ride d place rides =>
        have hdec : decideToken sc task x.asking y x.claims x.state
            = arrive [.entry (tokenEntry ⟨a.inspection.cred, (conclude x.asking y x.claims x.state).2.ctx, place, rides,
                none⟩) .token] (serveOn sc task (.tokenRide d ⟨a.inspection.cred,
                (conclude x.asking y x.claims x.state).2.ctx, place, rides, none⟩)
                (conclude x.asking y x.claims x.state).1) := by
          simp only [decideToken, hrul, x, (askBlocks_inspection w a s).1]
        rw [hdec]
        refine ⟨by simp, by simp [hxrcx], by simp [hxven], by simp [hxclk], by simp [hxpev], by simp, fun y' hy => ?_⟩
        obtain rfl : y = y' := by simpa using hy
        refine ⟨by simp, by simp [hrul], by simp [hrul], fun d' place' rides' hd => ?_⟩
        obtain ⟨rfl, rfl, rfl⟩ : d = d' ∧ place = place' ∧ rides = rides' := by simpa [hrul] using hd
        exact ⟨by simp [serveOn, setScan, hssc, stage], by simp [DecisionPoint.arrive_queue, tokenEntry]⟩

/-! ### ROUTE (R37 to R41) -/

theorem stopIndex_isSome_iff {stops : List Stop} (h : ∀ x ∈ stops, x.code ≠ 0) (code : Half) :
    (stopIndex stops code).isSome = true ↔ code ∈ stops.map Stop.code := by
  unfold stopIndex
  split
  · rename_i hc
    simpa [hc] using h
  · simp [List.findIdx?_isSome]

theorem stopIndex_none_iff {stops : List Stop} (h : ∀ x ∈ stops, x.code ≠ 0) (code : Half) :
    stopIndex stops code = none ↔ code ∉ stops.map Stop.code := by
  rw [← stopIndex_isSome_iff h, Bool.not_eq_true, Option.isSome_eq_false_iff, Option.isNone_iff_eq_none]

/-- No code appears twice, so a stop is found at its own place. -/
theorem stopIndex_at {stops : List Stop} (hd : (stops.map Stop.code).Nodup) {j : Nat} {x : Stop} (hj : stops[j]? = some x)
    (h0 : x.code ≠ 0) : stopIndex stops x.code = some j := by
  obtain ⟨hlt, rfl⟩ := List.getElem?_eq_some_iff.1 hj
  have hfirst : ∀ i (hi : i < j), stops[i].code ≠ stops[j].code := fun i hi =>
    List.pairwise_iff_getElem.1 (List.pairwise_map.1 hd) i j (hi.trans hlt) hlt hi
  rw [stopIndex, if_neg h0, List.findIdx?_eq_some_iff_getElem]
  exact ⟨hlt, by simp, fun i hi => by simpa using hfirst i hi⟩

theorem stopOk_iff (x : Stop) : stopOk x = true ↔ ¬ (x.code = 0 ∨ x.code = 65535 ∨ 31 < x.zone.toNat) := by
  simp [stopOk, stopCodeOk, Config.invalidStop, not_or, and_assoc]

/-- A stop list that passes checks 3 and 4. -/
structure GoodStops (stops : List Stop) : Prop where
  ok : stops.all stopOk = true
  distinct : (stops.map Stop.code).Nodup

theorem GoodStops.code_ne {stops : List Stop} (h : GoodStops stops) : ∀ x ∈ stops, x.code ≠ 0 := fun x hx h0 =>
  (stopOk_iff x).mp (List.all_eq_true.mp h.ok x hx) (.inl h0)

theorem checkRoute_badCode {r : RouteRequest} {stops : List Stop} {c : RunningContext} (h : stops.all stopOk = false) :
    checkRoute r stops c = .error .badCode := if_pos h

theorem checkRoute_duplicate {r : RouteRequest} {stops : List Stop} {c : RunningContext} (h : stops.all stopOk = true)
    (hd : ¬ (stops.map Stop.code).Nodup) : checkRoute r stops c = .error .duplicateStop := by
  rw [checkRoute, if_neg (by simp [h]), if_pos (by simpa [codesDistinct] using hd)]

theorem checkRoute_newTrip {r : RouteRequest} {stops : List Stop} {c : RunningContext} (h : GoodStops stops)
    (hm : r.mode = .newTrip) : checkRoute r stops c
      = if (stopIndex stops r.start).isSome then .ok .newTrip else .error .stopNotOnRoute := by
  simp only [checkRoute, h.ok, codesDistinct, h.distinct, decide_true, Bool.true_eq_false, if_false, hm]

theorem checkRoute_continue {r : RouteRequest} {stops : List Stop} {c : RunningContext} (h : GoodStops stops)
    (hm : r.mode = .continueTrip) : checkRoute r stops c = checkContinue r stops c := by
  simp only [checkRoute, h.ok, codesDistinct, h.distinct, decide_true, Bool.true_eq_false, if_false, hm]

theorem markHeld_eq (t : SeenTable) (ctx : ContextAnswer) (x : HeldTask) :
    markHeld t x = match x.session with
      | .asking a =>
        if a.seen.isSome ∧ a.emptied = none then
          let update := noteInspection a.inspection.cred .valid ctx t
          { x with session := .asking { a with emptied := some update.evictions } }
        else x
      | _ => x := by
  obtain ⟨slot, tag, req, session⟩ := x
  cases session with
  | asking a =>
    by_cases h : a.seen.isSome = true ∧ a.emptied = none
    · have hc : (consulted a && a.emptied.isNone) = true := by simp [consulted, h]
      simp only [markHeld, markEmptied, if_pos hc, if_pos h, noteInspection_evictions]
    · have hc : ¬ (consulted a && a.emptied.isNone) = true := by simpa [consulted] using h
      simp only [markHeld, markEmptied, if_neg hc, if_neg h]
  | _ => rfl

/-- Settles O38: the checks in their order, and what each plan installs. -/
theorem routeIsCheckedAndInstalled : Obligations.RouteIsCheckedAndInstalled := by
  unfold Obligations.RouteIsCheckedAndInstalled
  intro sc tag r s ha task
  refine ⟨fun hin hlen => ?_, fun data hans hg => ?_, fun stops j x hg hd hj hx h0 => ?_⟩
  · have hcount : stopCountOk r.count = false := by
      rw [stopCountOk, Bool.and_eq_false_iff, decide_eq_false_iff_not, decide_eq_false_iff_not]
      show ¬ 2 ≤ r.count ∨ ¬ r.count ≤ 48
      omega
    have hhand : handedTask s = some (sc, ⟨tag, .route r⟩) := handedTask_of hin
    simp only [exec, execRoute, hhand, routeTaken, hcount, Bool.false_eq_true, if_false]
    exact ⟨_, settled_completeTask ha, ⟨rfl, rfl⟩, rfl⟩
  · intro u stops badCode distinct marked refused continued
    have hexec : exec (.memoryResponse data) s = settled (routeServed sc task r data u) := exec_servingAnswered hans hg
    have hrefused {why : Reason} (h : checkRoute r stops s.rcx = .error why) : refused why := by
      simp only [refused, hexec, routeServed]
      rw [show checkRoute r (readStops r.count data) u.rcx = .error why from h]
      exact ⟨_, settled_completeTask ha, ⟨rfl, rfl⟩, rfl⟩
    have hcontinued {p : Position} {before : Nat} (hm : r.mode = .continueTrip)
        (h : checkRoute r stops s.rcx = .ok (.continueAt p before)) : continued before p := by
      simp only [continued, hexec, routeServed]
      rw [show checkRoute r (readStops r.count data) u.rcx = .ok (.continueAt p before) from h]
      exact ⟨_, settled_completeTask ha, rfl, by rw [hm]; exact ⟨rfl, rfl⟩, rfl⟩
    have hbad : badCode ↔ stops.all stopOk = false := by
      simp only [badCode, ← Bool.not_eq_true, List.all_eq_true, stopOk_iff, not_forall, not_not, exists_prop]
    have hgood (hb : ¬ badCode) (hd : distinct) : GoodStops stops := ⟨by simpa [hbad] using hb, hd⟩
    refine ⟨fun hb => hrefused (checkRoute_badCode (hbad.mp hb)),
      fun hb hd => hrefused (checkRoute_duplicate (by simpa [hbad] using hb) hd), fun hb hd hm hs => hrefused ?_,
      fun hb hd hm hs => ?_, fun hb hd hm => ⟨fun hno => hrefused ?_, fun p hact hpos htrip => ⟨fun hoff => hrefused ?_,
        fun j x hj hx => ⟨fun k hk => hcontinued hm ?_, fun k hk hlt => hcontinued hm ?_, fun k hk hlast => hrefused ?_⟩⟩⟩⟩
    all_goals have hgs := hgood hb hd
    · rw [checkRoute_newTrip hgs hm]
      simp [(stopIndex_none_iff hgs.code_ne _).mpr hs]
    · have hcheck : checkRoute r (readStops r.count data) u.rcx = .ok .newTrip := by
        rw [show checkRoute r (readStops r.count data) u.rcx = _ from checkRoute_newTrip hgs hm]
        exact if_pos ((stopIndex_isSome_iff hgs.code_ne _).mpr hs)
      have hmarked : (emptyForTrip u).clk.hold = s.clk.hold.map marked :=
        List.map_congr_left fun y _ => markHeld_eq s.snt (contextAnswer s.rcx) y
      rw [hexec]
      simp only [routeServed, hcheck]
      have hclk : (emptyForTrip u).clk = { s.clk with hold := s.clk.hold.map marked } :=
        congrArg (fun l => { s.clk with hold := l }) hmarked
      exact ⟨_, settled_bus_nil ha, rfl, state_ext rfl rfl rfl rfl rfl rfl hclk rfl rfl rfl rfl rfl⟩
    all_goals rw [checkRoute_continue hgs hm]
    all_goals simp only [checkContinue]
    · cases hp : s.rcx.position with
      | none => cases s.rcx.state <;> rfl
      | some p =>
        obtain hno | hno := hno
        · simp only [hno]
        · cases s.rcx.state <;> simp only [if_neg hno]
    · simp only [hact, hpos, if_pos htrip, mapPosition, (stopIndex_none_iff hgs.code_ne _).mpr hoff]
    all_goals
      have hat : stopIndex stops (currentStop s.rcx) = some j :=
        hx ▸ stopIndex_at hgs.distinct hj (hgs.code_ne x (List.mem_of_getElem? hj))
    · simp only [hact, hpos, if_pos htrip, mapPosition, hat, hk]
      rfl
    · simp only [hact, hpos, if_pos htrip, mapPosition, hat, hk, if_pos hlt]
      rfl
    · simp only [hact, hpos, if_pos htrip, mapPosition, hat, hk, if_neg (Nat.not_lt.mpr hlast.ge)]
  · have hserved : servedTask s = some (sc, ⟨tag, .route r⟩, .routeInstall stops) := (servedTask_iff ..).mpr hg
    have hat : stopIndex stops r.start = some j := hx ▸ stopIndex_at hd hj h0
    simp only [exec, execRoute, handedTask_serving hg, hserved, routeInstalled, installTrip, hat, Option.getD_some]
    exact ⟨_, settled_completeTask ha, rfl, ⟨rfl, rfl⟩, rfl⟩

/-! ### POSITION (R42 to R45) -/

/-- The minute and the stale flag after a POSITION. -/
theorem applyMinute_eq (m : Option Half) (c : RunningContext) :
    applyMinute m c = { c with minute := m.getD c.minute, stale := c.stale && m.isNone } := by
  cases m <;> simp [applyMinute]

theorem positioned_eq (r : PositionRequest) (c : RunningContext) :
    positioned r c = { c with
      position := (positioned r c).position, minute := r.minute.getD c.minute, stale := c.stale && r.minute.isNone } := by
  simp only [positioned, applyMinute_eq]
  split <;> rfl

theorem positioned_accepted {r : PositionRequest} {c : RunningContext} {p : Position} (h : nextPosition r c = some p) :
    (positioned r c).position = some p ∧
      positionBody r c = positionAnswer .ok none r.minute.isSome (positioned r c) := by
  simp only [positioned, positionBody, h, and_self]

theorem positioned_refused {r : PositionRequest} {c : RunningContext} (h : nextPosition r c = none) :
    (positioned r c).position = c.position ∧
      positionBody r c = positionAnswer .refused (some .positionSequence) r.minute.isSome (positioned r c) := by
  simp only [positioned, positionBody, h, and_true, applyMinute_eq]

theorem stopCodeAt_some {route : List Stop} {k : Nat} {code : Half} (h : (route[k]?).map Stop.code = some code) :
    stopCodeAt route k = code := by simp [stopCodeAt, h]

theorem depart_accepted {c : RunningContext} {code : Half} {k : Nat} (hact : c.state = .active)
    (hp : c.position = some (.atStop k)) (hc : (c.route[k]?).map Stop.code = some code) (hlt : k + 1 < c.route.length) :
    depart code c = some (.between k) := by
  simp only [depart, hact, hp, if_pos (And.intro (stopCodeAt_some hc) hlt)]

theorem depart_refused {c : RunningContext} {code : Half}
    (h : ∀ k, ¬ (c.state = .active ∧ c.position = some (.atStop k) ∧ (c.route[k]?).map Stop.code = some code
      ∧ k + 1 < c.route.length)) : depart code c = none := by
  simp only [depart]
  split
  · rename_i k hact hp
    refine if_neg fun ⟨hc, hlt⟩ => h k ⟨hact, hp, ?_, hlt⟩
    have hk : c.route[k]? = some c.route[k] := List.getElem?_eq_getElem (by omega)
    simpa [stopCodeAt, hk] using hc
  · rfl

/-- A stop is found exactly at its own place on a route that R31 allows. -/
theorem stopIndex_iff {route : List Stop} (h : routeOk route = true) {code : Half} {j : Nat} :
    stopIndex route code = some j ↔ (route[j]?).map Stop.code = some code := by
  constructor
  · intro hi
    unfold stopIndex at hi
    split at hi
    · cases hi
    · obtain ⟨hlt, hcode, -⟩ := List.findIdx?_eq_some_iff_getElem.mp hi
      simpa [hlt] using hcode
  · intro hc
    obtain ⟨x, hx, rfl⟩ := Option.map_eq_some_iff.mp hc
    exact Coverage.stopIndex_code_of_routeOk h hx

theorem arriveAt_accepted {c : RunningContext} {code : Half} {j : Nat} (hroute : routeOk c.route = true)
    (hact : c.state = .active) (hc : (c.route[j]?).map Stop.code = some code)
    (hk : ∃ k, (c.position = some (.atStop k) ∨ c.position = some (.between k)) ∧ k < j) :
    arriveAt code c = some (.atStop j) := by
  obtain ⟨k, hp, hlt⟩ := hk
  have hi := (stopIndex_iff hroute).mpr hc
  rcases hp with hp | hp <;> simp [arriveAt, hact, hp, hi, Position.stop, hlt]

theorem arriveAt_refused {c : RunningContext} {code : Half} (hroute : c.state = .active → routeOk c.route = true)
    (h : ∀ j, ¬ (c.state = .active ∧ (c.route[j]?).map Stop.code = some code
      ∧ ∃ k, (c.position = some (.atStop k) ∨ c.position = some (.between k)) ∧ k < j)) : arriveAt code c = none := by
  simp only [arriveAt]
  split
  · rename_i p j hact hp hi
    refine if_neg fun hlt => h j ⟨hact, (stopIndex_iff (hroute hact)).mp hi, ?_⟩
    cases p with
    | atStop k => exact ⟨k, .inl hp, hlt⟩
    | between k => exact ⟨k, .inr hp, hlt⟩
  · rfl

/-- Settles O39: the position moves where its event is accepted, and a minute carried is applied either way. -/
theorem positionMovesTheTrain : Obligations.PositionMovesTheTrain := by
  unfold Obligations.PositionMovesTheTrain
  refine ⟨fun sc tag code m s ha hin => ?_, fun sc tag code m s ha hctx hin => ?_⟩
  all_goals
    intro accepted
    simp only [exec, execPosition, handedTask_of hin]
    refine ⟨_, settled_completeTask ha, positioned_eq _ _, rfl, ?_⟩
  · refine ⟨fun k hk => ?_, fun hno => ?_⟩
    · obtain ⟨hact, hp, hc, hlt⟩ := hk
      obtain ⟨hpos, hbody⟩ := positioned_accepted (r := ⟨.depart, code, m⟩) (depart_accepted hact hp hc hlt)
      rw [hbody]
      have hroute : (positioned ⟨.depart, code, m⟩ s.rcx).route = s.rcx.route := by rw [positioned_eq]
      refine ⟨hpos, ?_, rfl, rfl⟩
      show currentStop (positioned ⟨.depart, code, m⟩ s.rcx) = currentStop s.rcx
      simp only [currentStop, hpos, hp, hroute, Position.stop]
    · obtain ⟨hpos, hbody⟩ := positioned_refused (r := ⟨.depart, code, m⟩) (depart_refused hno)
      rw [hbody]
      exact ⟨hpos, rfl, rfl⟩
  · obtain ⟨-, -, hroute⟩ := (ContextRule.contextOk_iff _).mp hctx
    refine ⟨fun j hj => ?_, fun hno => ?_⟩
    · obtain ⟨hact, hc, hk⟩ := hj
      obtain ⟨hpos, hbody⟩ := positioned_accepted (r := ⟨.arrive, code, m⟩) (arriveAt_accepted (hroute hact).1 hact hc hk)
      rw [hbody]
      exact ⟨hpos, rfl, rfl⟩
    · obtain ⟨hpos, hbody⟩ := positioned_refused (r := ⟨.arrive, code, m⟩) (arriveAt_refused (fun h => (hroute h).1) hno)
      rw [hbody]
      exact ⟨hpos, rfl, rfl⟩

end Sys2Proof.Proofs.TaskRules
end

section
/-! SUPPORT. The Deny List's loads, deltas, lookups and prunes (R64 to R81): obligations O40 to O43. -/

namespace Sys2Proof.Proofs.DenyOps

open Sys2Proof Sys2Proof.Machine DenyTable DenyRule

/-! ### The entries of a chunk (R65, R73) -/

theorem byteAt_take {b : List Byte} {k n : Nat} (h : k < n) : byteAt (b.take n) k = byteAt b k := by
  simp [byteAt, h]

theorem credAt_take (b : List Byte) : credAt (b.take 16) 0 = credAt b 0 := by
  simp [credAt, List.take_take]

theorem halfAt_take {b : List Byte} {k n : Nat} (h : k + 2 ≤ n) : halfAt (b.take n) k = halfAt b k := by
  rw [halfAt, halfAt, List.drop_take, List.take_take, Nat.min_eq_left (by omega)]

theorem denyReason_none_iff (b : Byte) : denyReason b = none ↔ b = 0 ∨ 4 < b.toNat := by
  rw [← BitVec.toNat_inj]
  unfold denyReason
  split <;> simp_all
  omega

theorem denyAction_none_iff (b : Byte) : denyAction b = none ↔ b = 0 ∨ 2 < b.toNat := by
  rw [← BitVec.toNat_inj]
  unfold denyAction
  split <;> simp_all
  omega

theorem readEntry_none_iff (b : List Byte) : readEntry b = none ↔
    credAt b 0 = 0 ∨ byteAt b 8 = 0 ∨ 4 < (byteAt b 8).toNat ∨ byteAt b 9 = 0 ∨ 2 < (byteAt b 9).toNat := by
  have hr := denyReason_none_iff (byteAt b 8)
  have ha := denyAction_none_iff (byteAt b 9)
  have hread : readEntry b = none ↔
      denyReason (byteAt b 8) = none ∨ denyAction (byteAt b 9) = none ∨ credAt b 0 = 0 := by
    unfold readEntry
    cases denyReason (byteAt b 8) <;> cases denyAction (byteAt b 9) <;> simp
  rw [hread, hr, ha]
  tauto

theorem readEntry_take (b : List Byte) : readEntry (b.take 16) = readEntry b := by
  simp only [readEntry, byteAt_take (by decide : 8 < 16), byteAt_take (by decide : 9 < 16), credAt_take,
    halfAt_take (by decide : 10 + 2 ≤ 16)]

/-- A buffer of records of 16 bytes is refused for the first of them that is ill formed. -/
theorem chunks_mapM_none_iff {α : Type} {f : List Byte → Option α} (hf : ∀ b, f (b.take 16) = f b) (n : Nat)
    (b : List Byte) : (chunks 16 n b).mapM f = none ↔ ∃ i < n, f (b.drop (16 * i)) = none := by
  induction n generalizing b with
  | zero => simp [chunks]
  | succ n ih =>
    have hcons : (chunks 16 (n + 1) b).mapM f = none ↔ f b = none ∨ (chunks 16 n (b.drop 16)).mapM f = none := by
      simp only [chunks, List.mapM_cons, hf]
      cases f b <;> cases (chunks 16 n (b.drop 16)).mapM f <;> simp
    have hdrop : ∀ i, (b.drop 16).drop (16 * i) = b.drop (16 * (i + 1)) := fun i => by
      rw [List.drop_drop]
      congr 1
      omega
    rw [hcons, ih, Nat.exists_lt_succ_left]
    simp only [hdrop, Nat.mul_zero, List.drop_zero]

theorem readEntries_none_iff (n : Nat) (b : List Byte) :
    readEntries n b = none ↔ ∃ i < n, readEntry (b.drop (16 * i)) = none := chunks_mapM_none_iff readEntry_take n b

/-! ### Replacing the list (R72 to R75) -/

theorem highestAfter_eq (h : Option Cred) (es : List DenyEntry) :
    highestAfter h es = (es.getLast?.map DenyEntry.cred).or h := by
  unfold highestAfter
  cases es.getLast? <;> rfl

theorem replaceList_first {r : ReplaceRequest} {data : List Byte} {d : DenyList} (h : r.first = true) :
    replaceList r data d = loadChunk r data (d.staging.map fun x => x.ops.length) (beginLoad r.target d) := if_pos h

theorem replaceList_loading {r : ReplaceRequest} {data : List Byte} {d : DenyList} (h : r.first = false)
    (hs : d.state = .loading) : replaceList r data d = loadChunk r data none d := by
  rw [replaceList, if_neg (by simp [h]), if_pos hs]

theorem loadChunk_error {r : ReplaceRequest} {data : List Byte} {d : DenyList} {l : Load} {why : Reason}
    (hl : d.load = some l) (h : checkChunk r data l d = .error why) (n : Option Nat) :
    loadChunk r data n d = (failLoad d, replaceAnswer (some why) 0 n (failLoad d)) := by
  simp only [loadChunk, hl, h]

theorem loadChunk_ok {r : ReplaceRequest} {data : List Byte} {d : DenyList} {l : Load} {es : List DenyEntry}
    (hl : d.load = some l) (h : checkChunk r data l d = .ok es) (n : Option Nat) :
    loadChunk r data n d = (applyChunk r es l d, replaceAnswer none es.length n (applyChunk r es l d)) := by
  simp only [loadChunk, hl, h]

/-- The chunk does the same whatever staged operations its answer tells of. -/
theorem loadChunk_answer (r : ReplaceRequest) (data : List Byte) (d : DenyList) :
    ∃ d' reason applied, ∀ n, loadChunk r data n d = (d', replaceAnswer reason applied n d') := by
  cases hl : d.load with
  | none => exact ⟨failLoad d, some .sequence, 0, fun n => by simp only [loadChunk, hl]⟩
  | some l =>
    cases hc : checkChunk r data l d with
    | error why => exact ⟨_, _, _, loadChunk_error hl hc⟩
    | ok es => exact ⟨_, _, _, loadChunk_ok hl hc⟩

section
variable {r : ReplaceRequest} {data : List Byte} {d : DenyList} {l : Load} {es : List DenyEntry}

theorem checkChunk_sequence (h : r.chunk ≠ l.next ∨ r.target ≠ l.target) : checkChunk r data l d = .error .sequence :=
  if_pos h

theorem checkChunk_badEntry (hn : r.chunk = l.next) (ht : r.target = l.target) (h : readEntries r.count data = none) :
    checkChunk r data l d = .error .badEntry := by
  rw [checkChunk, if_neg (by simp [hn, ht]), h]

theorem checkChunk_order (hn : r.chunk = l.next) (ht : r.target = l.target) (h : readEntries r.count data = some es)
    (ha : ascending l.highest es = false) : checkChunk r data l d = .error .order := by
  rw [checkChunk, if_neg (by simp [hn, ht]), h]
  exact if_pos ha

theorem checkChunk_capacity (hn : r.chunk = l.next) (ht : r.target = l.target) (h : readEntries r.count data = some es)
    (ha : ascending l.highest es = true) (hc : 16384 < d.table.length + es.length) :
    checkChunk r data l d = .error .capacity := by
  rw [checkChunk, if_neg (by simp [hn, ht]), h]
  exact (if_neg (by simp [ha])).trans (if_pos hc)

theorem checkChunk_good (hn : r.chunk = l.next) (ht : r.target = l.target) (h : readEntries r.count data = some es)
    (ha : ascending l.highest es = true) (hc : d.table.length + es.length ≤ 16384) : checkChunk r data l d = .ok es := by
  rw [checkChunk, if_neg (by simp [hn, ht]), h]
  exact (if_neg (by simp [ha])).trans (if_neg (Nat.not_lt.mpr hc))

end

/-- Settles O40: the chunk's checks in their order, and what a good chunk adds. -/
theorem replaceLoadsTheList : Obligations.ReplaceLoadsTheList := by
  unfold Obligations.ReplaceLoadsTheList
  intro r data d failed fails
  refine ⟨?_, fun hf hs => ?_, fun hf => ?_, fun l hf hs hl => ⟨fun hseq => ?_,
    fun hn ht => ⟨fun hbad => ?_, fun es hes => ?_⟩⟩⟩
  · simp only [readEntries_none_iff, readEntry_none_iff]
  · rw [replaceList, if_neg (by simp [hf]), if_neg hs]
  · intro begun
    obtain ⟨d', reason, applied, hd⟩ := loadChunk_answer r data begun
    have hfirst : replaceList r data d
        = (d', replaceAnswer reason applied (d.staging.map fun x => x.ops.length) d') :=
      (replaceList_first hf).trans (hd _)
    have hlater : replaceList { r with first := false } data begun = (d', replaceAnswer reason applied none d') :=
      (replaceList_loading rfl rfl).trans (hd none)
    rw [hfirst, hlater]
    exact ⟨rfl, reason, applied, rfl, rfl⟩
  all_goals have hload := replaceList_loading (data := data) hf hs
  · exact hload.trans (loadChunk_error hl (checkChunk_sequence hseq) none)
  · exact hload.trans (loadChunk_error hl (checkChunk_badEntry hn ht hbad) none)
  · intro inOrder
    have horder : inOrder ↔ ascending l.highest es = true := by rw [ascending_iff, ← sorted_iff]
    refine ⟨fun hno => ?_, fun ho hc => ?_, fun ho hc => ?_⟩
    · exact hload.trans (loadChunk_error hl (checkChunk_order hn ht hes (by simpa [horder] using hno)) none)
    · exact hload.trans (loadChunk_error hl (checkChunk_capacity hn ht hes (horder.mp ho) hc) none)
    · have hgood := hload.trans (loadChunk_ok hl (checkChunk_good hn ht hes (horder.mp ho) hc) none)
      intro d'
      have hd' : d' = applyChunk r es l d := congrArg Prod.fst hgood
      refine ⟨by rw [hd', hgood], fun hlast => ?_, fun hlast => ?_⟩
      · have happly : applyChunk r es l d = { d with
            table := d.table ++ es, filter := filterAddAll d.filter es
            load := some { l with next := l.next + 1, highest := highestAfter l.highest es } } := by
          simp only [applyChunk, hlast, Bool.false_eq_true, if_false]
        rw [hd', happly, highestAfter_eq]
        exact ⟨rfl, filterAddAll_getElem es d.filter⟩
      · have happly : applyChunk r es l d = { d with
            table := d.table ++ es, filter := recount (d.table ++ es), generation := l.target, load := none
            state := .ready } := by
          simp only [applyChunk, hlast, if_true]
        rw [hd', happly, ht]
        exact ⟨rfl, recount_getElem _⟩

/-! ### Changing the list by delta (R76 to R80) -/

theorem deltaList_first {r : DeltaRequest} {data : List Byte} {d : DenyList} (hs : d.state = .ready)
    (hf : r.first = true) : deltaList r data d = openStaging r data d := by
  rw [deltaList, if_neg (by simp [hs]), if_pos hf]

theorem deltaList_later {r : DeltaRequest} {data : List Byte} {d : DenyList} {st : Staging} (hs : d.state = .ready)
    (hf : r.first = false) (hst : d.staging = some st) : deltaList r data d = stageChunk r data st d := by
  rw [deltaList, if_neg (by simp [hs]), if_neg (by simp [hf]), hst]

/-- R77: what a FIRST leaves of an open staging area. -/
def areaClosed (d : DenyList) : DenyList := if d.staging.isSome then discardStaging d else d

theorem areaClosed_keeps (d : DenyList) : (areaClosed d).state = d.state ∧ (areaClosed d).generation = d.generation := by
  unfold areaClosed
  split <;> exact ⟨rfl, rfl⟩

theorem openStaging_eq (r : DeltaRequest) (data : List Byte) (d : DenyList) :
    openStaging r data d =
      if r.base ≠ d.generation then (areaClosed d, deltaAnswer (some .generation) none (areaClosed d))
      else if r.chunk ≠ 0 then (areaClosed d, deltaAnswer (some .sequence) none (areaClosed d))
      else stageChunk r data ⟨[], 0⟩ { areaClosed d with staging := some ⟨[], 0⟩ } := by
  rw [← (areaClosed_keeps d).2]
  rfl

section
variable {r : DeltaRequest} {data : List Byte} {st : Staging} {d : DenyList} {ops : List DeltaOp}

theorem stageChunk_sequence (h : r.chunk ≠ st.next) :
    stageChunk r data st d = (discardStaging d, deltaAnswer (some .sequence) none (discardStaging d)) := if_pos h

theorem stageChunk_badEntry (hn : r.chunk = st.next) (h : readOps r.count data = none) :
    stageChunk r data st d = (discardStaging d, deltaAnswer (some .badEntry) none (discardStaging d)) := by
  rw [stageChunk, if_neg (not_not.mpr hn), h]

theorem stageChunk_full (hn : r.chunk = st.next) (h : readOps r.count data = some ops)
    (hc : 1024 < st.ops.length + ops.length) :
    stageChunk r data st d = (discardStaging d, deltaAnswer (some .stagingFull) none (discardStaging d)) := by
  rw [stageChunk, if_neg (not_not.mpr hn), h]
  exact if_pos hc

theorem stageChunk_fits (hn : r.chunk = st.next) (h : readOps r.count data = some ops)
    (hc : st.ops.length + ops.length ≤ 1024) :
    stageChunk r data st d =
      if r.last then commitDelta (st.ops ++ ops) { d with staging := some ⟨st.ops ++ ops, st.next + 1⟩ }
      else ({ d with staging := some ⟨st.ops ++ ops, st.next + 1⟩ },
        deltaAnswer none none { d with staging := some ⟨st.ops ++ ops, st.next + 1⟩ }) := by
  rw [stageChunk, if_neg (not_not.mpr hn), h]
  exact if_neg (Nat.not_lt.mpr hc)

end

/-- Settles O41: the checks of a delta in their order, and its commit by the count at its end. -/
theorem deltaIsStagedAndCommitted : Obligations.DeltaIsStagedAndCommitted := by
  unfold Obligations.DeltaIsStagedAndCommitted
  intro r data d refused gone
  refine ⟨fun hs => if_pos hs, fun hs hf => ?_, fun hs hf => ⟨fun hst => ?_, fun st hst => ?_⟩⟩
  · intro closed
    have hfirst := deltaList_first (data := data) hs hf
    rw [openStaging_eq] at hfirst
    refine ⟨fun hb => hfirst.trans (if_pos hb), fun hb hc => ?_, fun hb hc => ?_⟩
    · exact hfirst.trans ((if_neg (not_not.mpr hb)).trans (if_pos hc))
    · have hopen := hfirst.trans ((if_neg (not_not.mpr hb)).trans (if_neg (not_not.mpr hc)))
      have hready : (areaClosed d).state = .ready := (areaClosed_keeps d).1.trans hs
      exact hopen.trans (deltaList_later (r := { r with first := false })
        (d := { areaClosed d with staging := some ⟨[], 0⟩ }) hready rfl rfl).symm
  · rw [show refused .sequence d ↔ deltaList r data d = (d, deltaAnswer (some .sequence) none d) from Iff.rfl,
      deltaList, if_neg (by simp [hs]), if_neg (by simp [hf]), hst]
  · have hlater := deltaList_later (data := data) hs hf hst
    refine ⟨fun hn => hlater.trans (stageChunk_sequence hn), fun hn hbad => hlater.trans (stageChunk_badEntry hn hbad),
      fun ops hn hops => ⟨fun hc => hlater.trans (stageChunk_full hn hops hc), fun hc => ?_⟩⟩
    intro staged y
    have hfits := hlater.trans (stageChunk_fits hn hops hc)
    refine ⟨fun hl => hfits.trans (if_neg (by simp [hl])), fun hl hcap => ?_, fun hl hcap => ?_⟩
    · exact hfits.trans ((if_pos hl).trans (if_pos hcap))
    · intro done
      have hdone : done = { y.1 with generation := d.generation + 1, staging := none } := by
        rw [show y.1 = _ from applyOps_list (st.ops ++ ops) staged]
      have hcommit : commitDelta (st.ops ++ ops) staged
          = ({ y.1 with generation := d.generation + 1, staging := none },
            deltaAnswer none (some y.2) { y.1 with generation := d.generation + 1, staging := none }) :=
        if_neg (Nat.not_lt.mpr hcap)
      rw [hdone, hfits, if_pos hl, hcommit]

/-- Settles O42: an operation on a list in order changes one entry and one cell. -/
theorem deltaOperations : Obligations.DeltaOperations := by
  unfold Obligations.DeltaOperations
  intro d n hd ids
  obtain ⟨⟨hs, -, hcounts⟩, -, -⟩ := (denyRule_iff d).mp hd
  refine ⟨fun e => ?_, fun c => ?_, fun ops op => ⟨rfl, applyOps_concat ops op d⟩⟩
  · intro x
    have htable : x.1.table = placeEntry e d.table := by
      simp only [x, applyOp]
      split <;> rfl
    refine ⟨?_, fun y => ?_, applyOp_list _ _, fun hno => ?_, fun hin => ?_⟩
    · rw [htable, sorted_iff]
      exact sorted_placeEntry hs e
    · rw [htable]
      exact mem_placeEntry hs
    · have hx : x = ({ d with table := placeEntry e d.table, filter := filterAdd d.filter e.cred },
          { n with added := n.added + 1 }) := if_neg (mt findEntry_isSome.mp hno)
      rw [hx]
      refine ⟨rfl, (placeEntry_perm hno).length_eq, fun k => ?_⟩
      rw [filterAdd_getElem, cellUp_eq, ite_and]
    · have hx : x = ({ d with table := placeEntry e d.table }, { n with replaced := n.replaced + 1 }) :=
        if_pos (findEntry_isSome.mpr hin)
      rw [hx]
      refine ⟨rfl, rfl, ?_⟩
      simpa using congrArg List.length (placeEntry_creds hs hin)
  · intro x
    refine ⟨fun hno => if_neg (mt findEntry_isSome.mp hno), fun hin => ?_⟩
    have hx : x = ({ d with table := d.table.filter (fun y => y.cred != c), filter := filterRemove d.filter c },
        { n with removed := n.removed + 1 }) := if_pos (findEntry_isSome.mpr hin)
    rw [hx]
    refine ⟨rfl, rfl, fun k => ?_⟩
    obtain ⟨e, he, rfl⟩ := List.mem_map.mp hin
    rw [filterRemove_getElem, ite_and]
    by_cases hk : k = cellOf e.cred
    · rw [if_pos hk, if_pos hk, cellDown_eq _ (by rw [hk]; exact counts_ne_zero hcounts he)]
    · rw [if_neg hk, if_neg hk]

/-! ### Lookup and prune (R67 to R69, R81) -/

theorem cellOf_val (c : Cred) : (cellOf c).val = (crc16 (credBytes c)).toNat / 16 := by
  have hlt : (crc16 (credBytes c)).toNat / 16 < 4096 := by
    have := (crc16 (credBytes c)).isLt
    omega
  simp only [cellOf, BitVec.val_toFin, BitVec.extractLsb'_toNat, Nat.shiftRight_eq_div_pow]
  exact Nat.mod_eq_of_lt hlt

/-- Settles O43: a nonzero cell stands for every entry of the list, so a lookup finds what is there. -/
theorem lookupAndPrune : Obligations.LookupAndPrune := by
  unfold Obligations.LookupAndPrune
  refine ⟨cellOf_val, fun d hd => ?_⟩
  obtain ⟨⟨hs, -, hcounts⟩, -, -⟩ := (denyRule_iff d).mp hd
  refine ⟨fun c e => ?_, fun c => ?_, fun day hr => if_pos hr, fun day hr => ?_⟩
  · unfold lookup
    by_cases hg : d.state = .invalid ∨ d.filter[cellOf c] = 0
    · rw [if_pos hg]
      refine ⟨fun h => (by cases h), fun ⟨hst, he, hc⟩ => ?_⟩
      exact absurd (hg.resolve_left hst) (hc ▸ counts_ne_zero hcounts he)
    · obtain ⟨hst, -⟩ := not_or.mp hg
      rw [if_neg hg, findEntry_eq_some hs]
      exact (and_iff_right hst).symm
  · simp only [afterLookup, findEntry_eq_none]
    split <;> rfl
  · intro kept
    have hpruned : pruned day d = { d with table := kept, filter := recount kept } := rfl
    refine ⟨recount kept, ?_, recount_getElem kept⟩
    rw [pruneList, if_neg (not_not.mpr hr), hpruned]

end Sys2Proof.Proofs.DenyOps
end

section
/-! SUPPORT. The Seen Table (R47 to R63): obligations O44 to O47. -/

namespace Sys2Proof.Proofs.SeenOps

open Sys2Proof Sys2Proof.Machine SeenRule RunStates ScanRules HoldEnds TaskRules

/-! ### Insertion (R49, R50) -/

/-- R50: the record that goes is the first that is not pinned, of lowest number among them. -/
theorem evictFirst_eq {l : List SeenRecord} (hl : (l.map SeenRecord.number).Pairwise fun a b => a < b)
    (h : ∃ y ∈ l, y.stamp ≠ .uncertain) :
    ∃ x ∈ l, x.stamp ≠ .uncertain ∧ (∀ y ∈ l, y.stamp ≠ .uncertain → x.number ≤ y.number) ∧ evictFirst l = l.erase x := by
  induction l with
  | nil => simp at h
  | cons r rs ih =>
    obtain ⟨hr, hrs⟩ := List.pairwise_cons.mp hl
    by_cases hs : r.stamp = .uncertain
    · obtain ⟨x, hx, hxs, hmin, he⟩ := ih hrs (by simpa [hs] using h)
      have hne : r ≠ x := fun h => hxs (h ▸ hs)
      refine ⟨x, List.mem_cons_of_mem r hx, hxs, fun y hy hys => ?_, ?_⟩
      · obtain rfl | hy := List.mem_cons.mp hy
        · exact absurd hs hys
        · exact hmin y hy hys
      · rw [evictFirst, if_pos hs, he, List.erase_cons_tail (by simpa using hne)]
    · refine ⟨r, List.mem_cons_self, hs, fun y hy _ => ?_, by rw [evictFirst, if_neg hs, List.erase_cons_head]⟩
      obtain rfl | hy := List.mem_cons.mp hy
      · exact BitVec.le_refl _
      · exact BitVec.le_of_lt (hr _ (List.mem_map_of_mem hy))

theorem insertSeen_next {t : SeenTable} {n : Word} (h : t.counter = .next n) (r : SeenRecord) :
    insertSeen r t = { makeRoom t with
      records := (makeRoom t).records ++ [{ r with number := n }], counter := counterAfter n } := by
  simp only [insertSeen, h]

/-- Settles O44: an insertion makes room, takes the counter's number and appends; a record met again is replaced. -/
theorem seenTableTakesInspections : Obligations.SeenTableTakesInspections := by
  unfold Obligations.SeenTableTakesInspections
  refine ⟨fun r t ht => ⟨fun hc => by simp only [insertSeen, hc], fun n hn => ?_⟩, fun cred v ctx t => ⟨fun hf => ?_, fun r hf => ?_⟩⟩
  · intro new counter
    rw [insertSeen_next hn]
    refine ⟨fun hroom => ?_, fun hfull hfree => ?_⟩
    · rw [makeRoom, if_pos (by exact hroom)]
      rfl
    · obtain ⟨-, hnumbers, -, -⟩ := ht
      obtain ⟨x, hx, hxs, hmin, he⟩ := evictFirst_eq hnumbers hfree
      refine ⟨x, hx, hxs, hmin, ?_⟩
      rw [makeRoom, if_neg (by exact Nat.not_lt.mpr hfull), he]
      rfl
  · simp only [noteInspection, hf]
    rfl
  · refine ⟨?_, mem_of_findSeen hf⟩
    simp only [noteInspection, hf]
    rfl

/-! ### Ride updates (R53, R54) -/

/-- R150: claims that arrive wait, and at most the read of a mark is asked for. -/
theorem arrive_cases (jobs : List JournalJob) (s : State) :
    ∃ service l, l.length ≤ 1 ∧ arrive jobs s = { s with
      mpt := { s.mpt with asked := s.mpt.asked ++ l }
      jnw := { s.jnw with queue := s.jnw.queue ++ jobs, service := service } } := by
  simp only [arrive, serveNext]
  split
  · exact ⟨.readingMark, [_], Nat.le_refl 1, rfl⟩
  · exact ⟨.readingMark, [_], Nat.le_refl 1, rfl⟩
  · exact ⟨.readingMark, [_], Nat.le_refl 1, rfl⟩
  · exact ⟨s.jnw.service, [], Nat.zero_le 1, by simp⟩

/-- Claims that arrive from a bus on which nothing was asked for touch the port and the Journal Writer alone. -/
theorem settled_arrive {s : State} (ha : s.mpt.asked = []) (jobs : List JournalJob) :
    ∃ t, settled (arrive jobs s) = .next t
      ∧ t.jnw = { s.jnw with queue := s.jnw.queue ++ jobs, service := t.jnw.service }
      ∧ t = { s with mpt := t.mpt, jnw := t.jnw } := by
  obtain ⟨service, l, hl, he⟩ := arrive_cases jobs s
  rw [he, settled_eq _ (by simpa [ha] using hl)]
  exact ⟨_, rfl, rfl, rfl⟩

theorem deliverUpdate_cons {s : State} {u : SeenUpdate} {rest : List SeenUpdate} (h : s.snt.updates = u :: rest) :
    deliverUpdate s = arrive (applyUpdate u s.snt).2 { s with snt := { (applyUpdate u s.snt).1 with updates := rest } } := by
  simp only [deliverUpdate, h]

theorem applyUpdate_found {u : SeenUpdate} {t : SeenTable} {r : SeenRecord} (h : findSeen u.cred t = some r) :
    applyUpdate u t = (replaceSeen (applyOutcome u.outcome (meetAgain u.ctx.stop r)) t,
      if takesRide u.outcome then localConflict u.ctx r (applyOutcome u.outcome (meetAgain u.ctx.stop r)) else []) := by
  simp only [applyUpdate, h]

theorem applyUpdate_fresh {u : SeenUpdate} {t : SeenTable} (h : findSeen u.cred t = none) :
    applyUpdate u t
      = (insertSeen (applyOutcome u.outcome (freshRecord u.cred (outcomeVerdict u.outcome) u.ctx)) t, []) := by
  simp only [applyUpdate, h]

/-- Settles O45: the oldest update gives its record the fields of its outcome. -/
theorem rideUpdatesArrive : Obligations.RideUpdatesArrive := by
  unfold Obligations.RideUpdatesArrive
  refine ⟨fun s hp => ⟨fun h => ?_, fun u rest hu he => ?_⟩, fun s => ⟨DecisionPoint.deliverUpdates_none, fun u rest hu => ⟨?_, ?_⟩⟩,
    fun u t => ⟨fun r hf => ?_, fun hf => ?_⟩⟩
  · cases he : seenEngaged s with
    | true => simp only [exec, execSeenUpdate, he, if_true]
    | false =>
      have hu : s.snt.updates = [] := by simpa [he] using h
      have hd : deliverUpdate s = s := by simp only [deliverUpdate, hu]
      simp only [exec, execSeenUpdate, he, Bool.false_eq_true, if_false, hd]
      exact settled_idle s hp
  · simp only [exec, execSeenUpdate, he, Bool.false_eq_true, if_false]
    rw [deliverUpdate_cons hu]
    obtain ⟨t, ht, hjnw, hframe⟩ := settled_arrive (s := { s with snt := { (applyUpdate u s.snt).1 with updates := rest } })
      (by exact ((portRule_iff s).mp hp).1) (applyUpdate u s.snt).2
    have hsnt : t.snt = { (applyUpdate u s.snt).1 with updates := rest } := by rw [hframe]
    exact ⟨t, ht, hsnt, hjnw, by rw [hsnt]; exact hframe⟩
  · exact deliverUpdate_cons hu
  · have htail : (deliverUpdate s).snt.updates = rest := by simp [hu]
    rw [deliverUpdates, deliverUpdates, hu, htail]
    rfl
  · intro met ride conflict
    have hride : localRide r.ride = ride := DecisionPoint.localRide_eq r.ride
    have hfound := applyUpdate_found hf
    refine ⟨fun p ho => ?_, fun ho => ?_, fun p q ho => ?_, fun p ho => ?_, fun ho => ?_⟩
    all_goals rw [hfound, ho]
    · rw [← hride]
      rfl
    · rw [← hride]
      rfl
    all_goals rfl
  · intro fresh
    have hfresh := applyUpdate_fresh hf
    refine ⟨fun p ho => ?_, fun ho => ?_, fun p q ho => ?_, fun p ho => ?_, fun ho => ?_⟩
    all_goals
      simp only [fresh, hfresh, ho]
      rfl

/-! ### Peer notes (R58 to R61) -/

theorem yesNo_none_iff (b : Byte) : yesNo b = none ↔ 1 < b.toNat := by
  revert b
  decide

theorem readNote_take (b : List Byte) : readNote (b.take 16) = readNote b := by
  simp only [readNote, DenyOps.byteAt_take (by decide : 12 < 16), DenyOps.credAt_take,
    DenyOps.halfAt_take (by decide : 8 + 2 ≤ 16), DenyOps.halfAt_take (by decide : 10 + 2 ≤ 16),
    DenyOps.halfAt_take (by decide : 14 + 2 ≤ 16)]

theorem readNote_none_iff (b : List Byte) : readNote b = none ↔
    credAt b 0 = 0 ∨ halfAt b 8 = 65535 ∨ 2879 < (halfAt b 10).toNat ∨ 1 < (byteAt b 12).toNat ∨ halfAt b 14 = 0 := by
  have hm : minuteOk (halfAt b 10) = true ↔ ¬ 2879 < (halfAt b 10).toNat := by
    simp [minuteOk, Config.lastMinute]
  have hread : readNote b = none ↔ yesNo (byteAt b 12) = none ∨
      ¬ (credAt b 0 ≠ 0 ∧ halfAt b 8 ≠ Config.invalidStop ∧ minuteOk (halfAt b 10) = true ∧ halfAt b 14 ≠ 0) := by
    unfold readNote
    cases yesNo (byteAt b 12) <;> simp
  rw [hread, yesNo_none_iff, hm, show Config.invalidStop = 65535 from rfl]
  tauto

theorem readNotes_none_iff (n : Nat) (b : List Byte) :
    readNotes n b = none ↔ ∃ i < n, readNote (b.drop (16 * i)) = none := DenyOps.chunks_mapM_none_iff readNote_take n b

section
variable {c : RunningContext} {n : PeerNote} {m : Merge}

theorem mergeNote_own (h : n.conductor = c.conductor) :
    mergeNote c n m = { m with counts := { m.counts with ignored := m.counts.ignored + 1 } } := if_pos h

theorem mergeNote_exhausted (h : n.conductor ≠ c.conductor) (hf : findSeen n.cred m.table = none)
    (hc : m.table.counter = .exhausted) :
    mergeNote c n m = { m with counts := { m.counts with ignored := m.counts.ignored + 1 } } := by
  simp only [mergeNote, if_neg h, hf, if_pos hc]

theorem mergeNote_inserts (h : n.conductor ≠ c.conductor) (hf : findSeen n.cred m.table = none)
    (hc : m.table.counter ≠ .exhausted) :
    mergeNote c n m = { m with
      table := insertSeen (peerRecord n) m.table, counts := { m.counts with inserted := m.counts.inserted + 1 } } := by
  simp only [mergeNote, if_neg h, hf, if_neg hc]

theorem mergeNote_conflicts {r : SeenRecord} (h : n.conductor ≠ c.conductor) (hf : findSeen n.cred m.table = some r)
    (hc : n.ride = true ∧ r.ride = .localRide) :
    mergeNote c n m = { m with
      table := replaceSeen (meetNote n r) m.table, counts := { m.counts with conflicts := m.counts.conflicts + 1 }
      claims := m.claims ++ [.entry
        (conflictEntry n.cred ⟨c.trip, c.day, n.minute, n.stop, c.conductor⟩ r.place n.conductor) .note] } := by
  simp only [mergeNote, if_neg h, hf, if_pos hc]

theorem mergeNote_merges {r : SeenRecord} (h : n.conductor ≠ c.conductor) (hf : findSeen n.cred m.table = some r)
    (hc : ¬ (n.ride = true ∧ r.ride = .localRide)) :
    mergeNote c n m = { m with
      table := replaceSeen (meetNote n r) m.table, counts := { m.counts with merged := m.counts.merged + 1 } } := by
  simp only [mergeNote, if_neg h, hf, if_neg hc]

/-- R59: what a note changes of a record that it meets without a ride of its own to apply. -/
theorem meetNote_met {r : SeenRecord} (h : n.ride = false ∨ r.ride = .peer ∨ r.ride = .both) :
    meetNote n r = meetAgain n.stop r := by
  cases hn : n.ride with
  | false => simp [meetNote, hn]
  | true =>
    obtain h | h | h := h
    · simp [hn] at h
    · simp [meetNote, hn, h, peerRide, meetAgain]
    · simp [meetNote, hn, h, peerRide, meetAgain]

theorem meetNote_ride {r : SeenRecord} (hn : n.ride = true) (h : r.ride = .none ∨ r.ride = .localRide) :
    meetNote n r = { meetAgain n.stop r with
      ride := peerRide r.ride, peerConductor := some (r.peerConductor.getD n.conductor) } := by
  simp only [meetNote, hn, if_true, if_pos h]

end

theorem mergeNotes_concat (c : RunningContext) (t : SeenTable) (notes : List PeerNote) (n : PeerNote) :
    mergeNotes c (notes ++ [n]) t = mergeNote c n (mergeNotes c notes t) := by
  simp [mergeNotes]

/-- Settles O46: the merge is the fold of the notes, and its claims decide whether the task waits. -/
theorem peerNotesAreMerged : Obligations.PeerNotesAreMerged := by
  unfold Obligations.PeerNotesAreMerged
  refine ⟨fun n address sc tag s ha => ?_, fun c t => ⟨rfl, mergeNotes_concat c t⟩, fun c n m => ?_⟩
  · intro task merged waits
    have hdue (p : MemoryPort) (hp : p.asked = []) (notes : List PeerNote) :
        ∃ t, settled (notesDue sc task notes { s with mpt := p }) = .next t
          ∧ (seenEngaged s = false → merged notes { s with mpt := p } t)
          ∧ (seenEngaged s = true → waits notes { s with mpt := p } t) := by
      have hsame : seenEngaged { s with mpt := p } = seenEngaged s := rfl
      rw [notesDue, hsame]
      cases he : seenEngaged s with
      | true =>
        rw [if_pos rfl]
        exact ⟨_, settled_bus_nil hp, fun h => (by cases h), fun _ => ⟨rfl, rfl⟩⟩
      | false =>
        rw [if_neg Bool.false_ne_true]
        by_cases hclaims : (mergeNotes s.rcx notes s.snt).claims = []
        · have hm : notesMerged sc task notes { s with mpt := p } = completeTask sc tag
              (notesAnswer (mergeNotes s.rcx notes s.snt).counts) none
              { s with mpt := p, snt := (mergeNotes s.rcx notes s.snt).table } := if_pos hclaims
          rw [hm]
          exact ⟨_, settled_completeTask hp, fun _ => ⟨fun _ => ⟨⟨rfl, rfl⟩, rfl⟩, fun h => absurd hclaims h⟩,
            fun h => (by cases h)⟩
        · let claims := (mergeNotes s.rcx notes s.snt).claims
          let stage := ServeStage.notesClaims (mergeNotes s.rcx notes s.snt).counts claims.length
          let merging := { s with mpt := p, snt := (mergeNotes s.rcx notes s.snt).table }
          have hm : notesMerged sc task notes { s with mpt := p } = arrive claims (serveOn sc task stage merging) :=
            if_neg hclaims
          obtain ⟨t, ht, hjnw, hframe⟩ := settled_arrive (s := serveOn sc task stage merging) hp claims
          have hssc : t.ssc = { s.ssc with scan := some { sc with phase := .serving task stage } } := by
            rw [hframe]
            rfl
          rw [hm]
          exact ⟨t, ht, fun _ => ⟨fun h => absurd h hclaims, fun _ => ⟨hssc, hjnw, by rw [hssc]; exact hframe⟩⟩,
            fun h => (by cases h)⟩
    refine ⟨fun data hans hg => ⟨?_, ?_⟩, fun notes hg => ?_⟩
    · simp only [readNotes_none_iff, readNote_none_iff]
    · rw [exec_servingAnswered hans hg]
      simp only [servingGoesOn, task, notesServed]
      cases hnotes : readNotes n data with
      | none => exact ⟨_, settled_completeTask ha, fun _ => ⟨⟨rfl, rfl⟩, rfl⟩, fun _ h => (by cases h)⟩
      | some notes =>
        obtain ⟨t, ht, hfree, hengaged⟩ := hdue (freeBus s) ha notes
        refine ⟨t, ht, fun h => (by cases h), fun notes' h => ?_⟩
        obtain rfl : notes = notes' := by simpa using h
        exact ⟨hfree, hengaged⟩
    · have hserved := (servedTask_iff ..).mpr hg
      simp only [exec, execPeerNotes, handedTask_serving hg, hserved]
      exact hdue s.mpt ha notes
  · intro counted
    refine ⟨fun hc => ?_, fun hc hf => ⟨fun he => ?_, fun he => ?_⟩, fun r hc hf => ?_⟩
    · simp only [counted, mergeNote_own hc, List.append_nil, and_self]
    · simp only [counted, mergeNote_exhausted hc hf he, List.append_nil, and_self]
    · simp only [counted, mergeNote_inserts hc hf he, List.append_nil, and_true, true_and]
      rfl
    · intro met
      have hmet : meetAgain n.stop r = met := rfl
      refine ⟨fun hn hr => ?_, fun hn hr => ?_, fun h => ?_⟩
      · simp only [counted, mergeNote_conflicts hc hf ⟨hn, hr⟩, meetNote_ride hn (.inr hr), hr, hmet, true_and]
        exact ⟨rfl, rfl⟩
      · simp only [counted, mergeNote_merges hc hf (by simp [hr]), meetNote_ride hn (.inl hr), hr, hmet, true_and,
          List.append_nil, and_true]
        rfl
      · have hno : ¬ (n.ride = true ∧ r.ride = .localRide) := by
          rintro ⟨hn, hr⟩
          simp [hn, hr] at h
        simp only [counted, mergeNote_merges hc hf hno, meetNote_met h, hmet, List.append_nil, and_self]

/-! ### SEEN EXPORT (R62, R63) -/

/-- R62: the next record is written, or the task completes. -/
theorem settled_exportNext {sc : Scan} {t : Task} {address : Word} {rest : List SeenRecord} {place : Nat}
    {body : AnswerBody} {s : State} (ha : s.mpt.asked = []) :
    ∃ u, settled (exportNext sc t address rest place body s) = .next u ∧ u = { s with mpt := u.mpt, ssc := u.ssc }
      ∧ (rest = [] → Completes sc t.tag body none s u)
      ∧ ∀ r rs, rest = r :: rs → ServesOn sc t (.exportWrite rs (place + 1) body)
          (writeOf .scan (address + BitVec.ofNat 32 (32 * place)) (exportBytes r)) s u := by
  cases rest with
  | nil => exact ⟨_, settled_completeTask ha, rfl, fun _ => ⟨rfl, rfl⟩, fun _ _ h => (by cases h)⟩
  | cons r rs =>
    refine ⟨_, settled_ask_bus ha, rfl, fun h => (by cases h), fun r' rs' h => ?_⟩
    obtain ⟨rfl, rfl⟩ := List.cons.inj h
    exact ⟨rfl, rfl⟩

/-- Settles O47: the records are gathered once, and written one after another. -/
theorem seenExportWritesLocalRecords : Obligations.SeenExportWritesLocalRecords := by
  unfold Obligations.SeenExportWritesLocalRecords
  intro after capacity address sc tag s ha task all written body
  refine ⟨fun hin he => ?_, fun hin he => ?_, fun rest place b hans hg => ?_⟩
  · have hhand : handedTask s = some (sc, ⟨tag, .seenExport after capacity address⟩) := handedTask_of hin
    simp only [exec, execSeenExport, hhand, he, if_true]
  · have hhand : handedTask s = some (sc, ⟨tag, .seenExport after capacity address⟩) := handedTask_of hin
    simp only [exec, execSeenExport, hhand, he, Bool.false_eq_true, if_false]
    obtain ⟨t, ht, hframe, hdone, hmore⟩ :=
      settled_exportNext (sc := sc) (t := task) (address := address) (rest := written) (place := 0) (body := body) ha
    refine ⟨t, ht, hframe, hdone, fun r rs h => ?_⟩
    simpa using hmore r rs h
  · rw [exec_servingAnswered hans hg]
    exact settled_exportNext ha

end Sys2Proof.Proofs.SeenOps
end

section
/-! SUPPORT. Passive checks and sense pulses (R86, R116, R123, R162, R163): obligations O23 and O24. -/

namespace Sys2Proof.Proofs.SenseRules

open Sys2Proof Sys2Proof.Machine RunStates ScanRules HoldEnds TaskRules

/-! ### Latches (R114) -/

/-- R114: the events after a flag latches. -/
def eventsAfter (was : Bool) (r : Report) (events : BitVec 8) : BitVec 8 :=
  if was = false ∧ r = .event then events ||| evFieldFault else events

theorem reportLatch_eq (was : Bool) (r : Report) (s : State) :
    reportLatch was r s = { s with pev := { s.pev with events := eventsAfter was r s.pev.events } } := by
  cases was <;> cases r <;> rfl

theorem latchOpen_eq (s : State) : latchOpen s = { s with
    fmn := { s.fmn with antennaOpen := true }
    pev := { s.pev with events := eventsAfter s.fmn.antennaOpen s.fmn.reportOpen s.pev.events } } := reportLatch_eq ..

/-! ### Scans that begin with no task taken -/

/-- A scan that begins asks for one read, or none where every slot is held. -/
structure Begun (s t : State) : Prop where
  frame : t = { s with mpt := t.mpt, ssc := t.ssc, pev := { s.pev with
    wakeTimer := t.pev.wakeTimer, dozeJob := t.pev.dozeJob } }
  free : s.ssc.cursor < slotCount s → s.ssc.cursor ∉ heldSlots s →
    t.mpt = busAfter t s.mpt [stateReadOf s s.ssc.cursor]
    ∧ t.ssc = { s.ssc with pollTimer := none, extraScan := false, scan := some (scanFrom s s.ssc.cursor) }
    ∧ t.pev = s.pev

theorem afterScan_pev (s : State) :
    afterScan s = { s with ssc := (afterScan s).ssc, pev := { s.pev with
      wakeTimer := (afterScan s).pev.wakeTimer, dozeJob := (afterScan s).pev.dozeJob } } := by
  unfold afterScan
  split
  · rfl
  · split <;> rfl

theorem settled_beginScan {s : State} (ha : s.mpt.asked = []) : ∃ t, settled (beginScan s) = .next t ∧ Begun s t := by
  by_cases hfree : s.ssc.cursor < slotCount s ∧ s.ssc.cursor ∉ heldSlots s
  · rw [beginScan_free hfree.1 hfree.2]
    exact ⟨_, settled_ask_bus ha, rfl, fun _ _ => ⟨rfl, rfl, rfl⟩⟩
  · have hnot : s.ssc.cursor < slotCount s → s.ssc.cursor ∉ heldSlots s → False := fun hc hh => hfree ⟨hc, hh⟩
    rcases beginScan_cases s with ⟨sc, hb⟩ | hb
    · rw [hb]
      exact ⟨_, settled_ask_bus ha, rfl, fun hc hf => (hnot hc hf).elim⟩
    · rw [hb, afterScan_pev]
      exact ⟨_, settled_bus_nil ha, rfl, fun hc hf => (hnot hc hf).elim⟩

/-! ### The check of a wake-timer expiry (R162) -/

theorem scanAfterCheck_checking {s : State} {period : Nat} (h : s.pev.dozeJob = some (.checking period)) :
    scanAfterCheck s = beginScan { s with pev := { s.pev with dozeJob := some (.scanning period) } } := by
  simp only [scanAfterCheck, h]

theorem scanAfterCheck_other {s : State} (h : ∀ period, s.pev.dozeJob ≠ some (.checking period)) : scanAfterCheck s = s := by
  unfold scanAfterCheck
  split
  · exact absurd ‹_› (h _)
  · rfl

/-- What follows the check of a wake-timer expiry. -/
theorem settled_scanAfterCheck {s : State} (ha : s.mpt.asked = []) :
    ∃ t, settled (scanAfterCheck s) = .next t
      ∧ t = { s with mpt := t.mpt, ssc := t.ssc, pev := t.pev } ∧ t.pev.events = s.pev.events
      ∧ ∀ period, s.pev.dozeJob = some (.checking period) → s.ssc.cursor < slotCount s → s.ssc.cursor ∉ heldSlots s →
        t.mpt = busAfter t s.mpt [stateReadOf s s.ssc.cursor]
        ∧ t.ssc = { s.ssc with pollTimer := none, extraScan := false, scan := some (scanFrom s s.ssc.cursor) }
        ∧ t.pev = { s.pev with dozeJob := some (.scanning period) } := by
  by_cases h : ∃ period, s.pev.dozeJob = some (.checking period)
  · obtain ⟨period, hjob⟩ := h
    rw [scanAfterCheck_checking hjob]
    obtain ⟨t, ht, hbegun⟩ := settled_beginScan (s := { s with pev := { s.pev with dozeJob := some (.scanning period) } }) ha
    refine ⟨t, ht, ?_, ?_, fun period' hjob' hc hf => ?_⟩
    · rw [hbegun.frame]
    · rw [hbegun.frame]
    · obtain rfl : period = period' := by simpa [hjob] using hjob'
      exact hbegun.free hc hf
  · rw [scanAfterCheck_other fun period hp => h ⟨period, hp⟩]
    exact ⟨_, settled_bus_nil ha, rfl, rfl, fun period hjob => (h ⟨period, hjob⟩).elim⟩

theorem wakeExpires_free {s : State} (period : Nat) (hf : s.clk.holder = .none) :
    wakeExpires period s = beginDozeCheck period { s with pev := { s.pev with wakeTimer := none } } := if_pos hf

theorem passiveSkipped_iff (s : State) :
    passiveSkipped s = true ↔ s.fmn.overcurrent = true ∨ s.fmn.thermalShutdown = true := by simp [passiveSkipped]

theorem passiveSkipped_false_iff (s : State) :
    passiveSkipped s = false ↔ s.fmn.overcurrent = false ∧ s.fmn.thermalShutdown = false := by simp [passiveSkipped]

theorem beginDozeCheck_skips {s : State} (period : Nat) (h : passiveSkipped s = true) :
    beginDozeCheck period s = beginScan { s with pev := { s.pev with dozeJob := some (.scanning period) } } := if_pos h

theorem beginDozeCheck_checks {s : State} (period : Nat) (h : passiveSkipped s = false) :
    beginDozeCheck period s = { s with
      fmn := { s.fmn with passive := some .doze }
      pev := { s.pev with dozeJob := some (.checking period) } } := if_neg (by simp [h])

theorem exec_wakeTimerExpiry {s : State} {period : Nat} (hr : s.mpt.runState = .running) (hp : s.pev.power = .doze)
    (hw : s.pev.wakeTimer = some period) : exec .wakeTimerExpiry s = settled (wakeExpires period s) := by
  simp only [exec, execWakeTimerExpiry, hw, hr, hp, and_self, if_true]

/-! ### The end and the abandonment of a check (R116, R123) -/

/-- R116: the state in which a check has ended. -/
def found (carried : Bool) (s : State) : State :=
  { s with
    fmn := { s.fmn with
      passive := none
      finding := if carried then .connected else .openAntenna
      antennaOpen := s.fmn.antennaOpen || !carried
      openBlock := s.fmn.openBlock || (!carried && s.fmn.stopOnOpen) }
    pev := { s.pev with events :=
      if carried = false ∧ s.fmn.antennaOpen = false ∧ s.fmn.reportOpen = .event then s.pev.events ||| evFieldFault
      else s.pev.events } }

theorem passiveFinding_eq (carried : Bool) (s : State) :
    passiveFinding carried { s with fmn := { s.fmn with passive := none } } = found carried s := by
  cases carried with
  | true => simp [passiveFinding, found]
  | false =>
    cases hstop : s.fmn.stopOnOpen
    all_goals
      simp only [passiveFinding, latchOpen_eq, Bool.false_eq_true, if_false, hstop]
      simp [eventsAfter, found, hstop]

theorem passiveEnds_fieldTest (carried : Bool) (s : State) : passiveEnds .fieldTest carried s
    = finishFieldTest (if carried then .connected else .openAntenna) (found carried s) := by
  rw [← passiveFinding_eq]
  rfl

theorem passiveEnds_doze (carried : Bool) (s : State) : passiveEnds .doze carried s = scanAfterCheck (found carried s) := by
  rw [← passiveFinding_eq]
  rfl

/-- R123: the FIELD TEST that waits for its check completes. -/
theorem finishFieldTest_serving {r : FieldTestResult} {sc : Scan} {task : Task} {s : State}
    (h : servedTask s = some (sc, task, .antennaCheck)) :
    finishFieldTest r s = completeTask sc task.tag (fieldTestAnswer r s.fmn) none s := by
  simp only [finishFieldTest, h]

theorem finishFieldTest_cases (r : FieldTestResult) (s : State) :
    (∃ sc task, servedTask s = some (sc, task, .antennaCheck)
      ∧ finishFieldTest r s = completeTask sc task.tag (fieldTestAnswer r s.fmn) none s)
    ∨ ((∀ sc task, servedTask s ≠ some (sc, task, .antennaCheck)) ∧ finishFieldTest r s = s) := by
  unfold finishFieldTest
  split
  · exact .inl ⟨_, _, ‹_›, rfl⟩
  · rename_i h
    exact .inr ⟨fun sc task hs => h sc task hs, rfl⟩

theorem settled_finishFieldTest (r : FieldTestResult) {s : State} (ha : s.mpt.asked = []) :
    ∃ t, settled (finishFieldTest r s) = .next t ∧ t = { s with mpt := t.mpt, ssc := t.ssc }
      ∧ ∀ sc task, servedTask s = some (sc, task, .antennaCheck) →
        Completes sc task.tag (fieldTestAnswer r s.fmn) none s t := by
  rcases finishFieldTest_cases r s with ⟨sc, task, hserved, he⟩ | ⟨hno, he⟩
  · rw [he]
    refine ⟨_, settled_completeTask ha, rfl, fun sc' task' h => ?_⟩
    obtain ⟨rfl, rfl⟩ : sc = sc' ∧ task = task' := by simpa [hserved] using h
    exact ⟨rfl, rfl⟩
  · rw [he]
    exact ⟨_, settled_bus_nil ha, rfl, fun sc task h => absurd h (hno sc task)⟩

/-- R112: a measurement sets the temperature, or leaves it. -/
theorem measure_sets (d : Int) (s : State) : ∃ x, Machine.measure d s = { s with fmn := { s.fmn with dieTemp := x } } := by
  unfold Machine.measure
  split
  · exact ⟨d, rfl⟩
  · exact ⟨s.fmn.dieTemp, rfl⟩

/-- What follows the abandonment of a check that may be in progress. -/
theorem settled_abandonPassive (r : FieldTestResult) {s : State} (ha : s.mpt.asked = []) :
    ∃ t, settled (abandonPassive r s) = .next t
      ∧ t = { s with mpt := t.mpt, ssc := t.ssc, fmn := { s.fmn with passive := none }, pev := t.pev }
      ∧ t.pev.events = s.pev.events
      ∧ (∀ sc task, s.fmn.passive = some .fieldTest → servedTask s = some (sc, task, .antennaCheck) →
        Completes sc task.tag (fieldTestAnswer r t.fmn) none s t)
      ∧ ∀ period, s.fmn.passive = some .doze → s.pev.dozeJob = some (.checking period) → s.ssc.cursor < slotCount s →
        s.ssc.cursor ∉ heldSlots s →
        t.mpt = busAfter t s.mpt [stateReadOf s s.ssc.cursor]
        ∧ t.ssc = { s.ssc with pollTimer := none, extraScan := false, scan := some (scanFrom s s.ssc.cursor) }
        ∧ t.pev = { s.pev with dozeJob := some (.scanning period) } := by
  unfold abandonPassive
  cases hp : s.fmn.passive with
  | none =>
    have hsame : { s.fmn with passive := none } = s.fmn := by rw [← hp]
    exact ⟨_, settled_bus_nil ha, by rw [hsame], rfl, fun _ _ h => (by cases h), fun _ h => (by cases h)⟩
  | some use =>
    cases use with
    | fieldTest =>
      obtain ⟨t, ht, hframe, htest⟩ := settled_finishFieldTest r (s := { s with fmn := { s.fmn with passive := none } }) ha
      have hfmn : t.fmn = { s.fmn with passive := none } := by rw [hframe]
      refine ⟨t, ht, by rw [hframe], by rw [hframe], fun sc task _ hserved => ?_, fun _ h => (by cases h)⟩
      rw [hfmn]
      exact htest sc task hserved
    | doze =>
      obtain ⟨t, ht, hframe, hevents, hscan⟩ :=
        settled_scanAfterCheck (s := { s with fmn := { s.fmn with passive := none } }) ha
      exact ⟨t, ht, by rw [hframe], hevents, fun _ _ h => (by cases h), fun period _ => hscan period⟩

/-! ### Temperature (R118, R119) -/

theorem clampTemp_of_range {d : Int} (hlo : -40 ≤ d) (hhi : d ≤ 150) : clampTemp d = d := by
  unfold clampTemp
  omega

theorem latchWarning_eq (s : State) : latchWarning s = { s with
    fmn := { s.fmn with thermalWarning := true }
    pev := { s.pev with events := eventsAfter s.fmn.thermalWarning s.fmn.reportWarning s.pev.events } } := reportLatch_eq ..

theorem latchShutdown_eq (s : State) : latchShutdown s = { s with
    fmn := { s.fmn with thermalShutdown := true }
    pev := { s.pev with events := eventsAfter s.fmn.thermalShutdown s.fmn.reportShutdown s.pev.events } } := reportLatch_eq ..

theorem latchOvercurrent_eq (s : State) : latchOvercurrent s = { s with
    fmn := { s.fmn with overcurrent := true }
    pev := { s.pev with events := eventsAfter s.fmn.overcurrent s.fmn.reportOvercurrent s.pev.events } } := reportLatch_eq ..

theorem warm_eq (s : State) : warm s = { s with
    fmn := { s.fmn with thermalWarning := true, reducedDuty := true }
    pev := { s.pev with events := eventsAfter s.fmn.thermalWarning s.fmn.reportWarning s.pev.events } } := by
  rw [warm, latchWarning_eq]

/-- R114: the events after both flags of the temperature latch. -/
def hotEvents (s : State) : BitVec 8 :=
  eventsAfter s.fmn.thermalShutdown s.fmn.reportShutdown (eventsAfter s.fmn.thermalWarning s.fmn.reportWarning s.pev.events)

/-- R119: the state in which a shutdown meets the field. -/
def shutMeets (d : Int) (s : State) : State :=
  { s with
    fmn := { s.fmn with
      dieTemp := d, thermalWarning := true, reducedDuty := true, thermalShutdown := true, shutdownBlock := true }
    pev := { s.pev with events := hotEvents s } }

/-- R118, R119: at 125 degrees or above the part shuts down, and nothing lifts. -/
theorem dieMoves_hot {d : Int} (hd : 125 ≤ d) (s : State) :
    dieMoves d s = abandonPassive .skipped (forceOff (shutMeets (clampTemp d) s)) := by
  have hc : 125 ≤ clampTemp d := by
    unfold clampTemp
    omega
  simp only [dieMoves, if_pos hc, if_pos (show (105 : Int) ≤ clampTemp d by omega), if_neg (show ¬ clampTemp d < 110 by omega),
    if_neg (show ¬ clampTemp d ≤ 95 by omega), shutDown, warm_eq, latchShutdown_eq, shutMeets, hotEvents]

theorem exec_thermalShutdown {d : Int} (hd : 125 ≤ d) (s : State) :
    exec (.thermalShutdown d) s = settled (abandonPassive .skipped (forceOff (shutMeets (clampTemp d) s))) := by
  simp only [exec, execThermalShutdown, if_pos hd, dieMoves_hot hd]

theorem forceOff_off {s : State} (h : s.clk.holder = .none) : forceOff s = s := by
  simp only [forceOff, h]

/-! ### The grant that abandons a FIELD TEST -/

/-- R116: a session is granted the field while a FIELD TEST runs its check. -/
theorem beginHead_abandons {s : State} {t : HeldTask} {rest : List HeldTask} {sc : Scan} {task : Task}
    (hh : s.clk.hold = t :: rest) (hn : t.slot ∉ rest.map HeldTask.slot) (hw : t.session = .waitingField)
    (hf : s.clk.holder = .none) (hb : fieldBlocked s = false) (hp : s.fmn.passive = some .fieldTest)
    (hserved : servedTask s = some (sc, task, .antennaCheck)) :
    beginHead s = completeTask sc task.tag
      (fieldTestAnswer .busy { (granted t rest s).fmn with passive := none }) none
      { granted t rest s with fmn := { (granted t rest s).fmn with passive := none } } := by
  simp only [beginHead, hh, if_pos hw, beginSession, hb, Bool.false_eq_true, if_false, if_pos hf, grantHead, turnOn,
    abandonPassive, hp]
  rw [finishFieldTest_serving (by exact hserved), setSession_head _ (by rfl) hn]
  rfl

/-- Settles O23: a check begins with the field off, and its end or its abandonment leads to its answer or its scan. -/
theorem passiveChecks : Obligations.PassiveChecks := by
  unfold Obligations.PassiveChecks
  refine ⟨fun s hport => ?_, fun d sc tag s ha hin => ?_, fun h h2 e o sc task s hans ha hh hne hs hs2 hf hb hp hserved => ?_,
    fun d s hport hlo hhi hf => ?_⟩
  · obtain ⟨ha, hbus⟩ := (portRule_iff s).mp hport
    refine ⟨fun period hr hp hw => ?_, fun carried d use hp => ?_, fun carried d hp => ?_⟩
    · rw [exec_wakeTimerExpiry hr hp hw]
      refine ⟨fun hf ho ht => ?_, fun hf hskip hc hheld => ?_, fun hf => ?_⟩
      · rw [wakeExpires_free period hf, beginDozeCheck_checks period (by exact (passiveSkipped_false_iff s).mpr ⟨ho, ht⟩)]
        exact settled_none ha hbus
      · rw [wakeExpires_free period hf, beginDozeCheck_skips period (by exact (passiveSkipped_iff s).mpr hskip),
          beginScan_free (by exact hc) (by exact hheld)]
        exact ⟨_, settled_ask_bus ha, rfl, rfl, rfl⟩
      · simp only [wakeExpires, if_neg hf]
        exact settled_none ha hbus
    · have hexec : exec (.passiveCheckEnd carried d) s = settled (passiveEnds use carried (Machine.measure d s)) := by
        simp only [exec, execPassiveCheckEnd, hp]
      obtain ⟨x, hx⟩ := measure_sets d s
      rw [hexec, hx]
      cases use with
      | fieldTest =>
        rw [passiveEnds_fieldTest]
        obtain ⟨t, ht, hframe, htest⟩ := settled_finishFieldTest (if carried then .connected else .openAntenna)
          (s := found carried { s with fmn := { s.fmn with dieTemp := x } }) ha
        rw [hframe] at htest
        exact ⟨t, ht, by rw [hframe]; rfl, by rw [hframe]; rfl, by rw [hframe]; rfl,
          fun sc task _ hserved => (by rw [hframe]; exact htest sc task hserved), fun _ h => (by cases h)⟩
      | doze =>
        rw [passiveEnds_doze]
        obtain ⟨t, ht, hframe, hevents, hscan⟩ :=
          settled_scanAfterCheck (s := found carried { s with fmn := { s.fmn with dieTemp := x } }) ha
        refine ⟨t, ht, by rw [hframe]; rfl, hevents, by rw [hframe]; rfl, fun _ _ h => (by cases h),
          fun period _ hjob hc hf => ?_⟩
        obtain ⟨hmpt, hssc, hpev⟩ := hscan period hjob hc hf
        exact ⟨hmpt, by rw [hssc]; rfl, by rw [hpev]; rfl⟩
    · simp only [exec, execPassiveCheckEnd, hp]
  · have hexec : exec (.fieldTest d) s = settled (fieldTested sc tag (Machine.measure d s)) := by
      simp only [exec, execFieldTest, handedTask_of hin]
    intro f
    have hmeas : Machine.measure d s = { s with fmn := f } := by
      simp only [Machine.measure, f]
      split <;> rfl
    rw [hexec, hmeas]
    have hsame : passiveSkipped { s with fmn := f } = passiveSkipped s := by
      simp only [passiveSkipped, f]
      split <;> rfl
    by_cases hf : s.clk.holder = .none
    · cases hskip : passiveSkipped s with
      | true =>
        have hskips : fieldTested sc tag { s with fmn := f }
            = completeTask sc tag (fieldTestAnswer .skipped f) none { s with fmn := f } := by
          rw [fieldTested, if_neg (by exact not_not.mpr hf), if_pos (by exact hsame.trans hskip)]
        rw [hskips]
        refine ⟨_, settled_completeTask ha, fun h => absurd hf h, fun _ _ => ⟨⟨rfl, rfl⟩, rfl⟩, fun _ ho ht => ?_⟩
        simp [passiveSkipped, ho, ht] at hskip
      | false =>
        obtain ⟨ho, ht⟩ := (passiveSkipped_false_iff s).mp hskip
        have htests : fieldTested sc tag { s with fmn := f } = serveOn sc ⟨tag, .fieldTest⟩ .antennaCheck
            { s with fmn := { f with passive := some .fieldTest } } := by
          rw [fieldTested, if_neg (by exact not_not.mpr hf), if_neg (by rw [hsame, hskip]; decide)]
        rw [htests]
        exact ⟨_, settled_bus_nil ha, fun h => absurd hf h, fun _ h => by simp [ho, ht] at h, fun _ _ _ => ⟨rfl, rfl⟩⟩
    · have hbusy : fieldTested sc tag { s with fmn := f }
          = completeTask sc tag (fieldTestAnswer .busy f) none { s with fmn := f } := if_pos hf
      rw [hbusy]
      exact ⟨_, settled_completeTask ha, fun _ => ⟨⟨rfl, rfl⟩, rfl⟩, fun h => absurd h hf, fun h => absurd h hf⟩
  · rw [exec_cardAnswered hans, cardGoesOn_done (by exact hh) (by simpa using hne) hs,
      beginHead_abandons (sc := sc) (task := task) (by rfl) List.not_mem_nil hs2 (by exact hf) (by exact hb) (by exact hp)
        (by exact hserved),
      cancelServed_skips fun sc' t' body hsv => by
        obtain ⟨h1, h2⟩ := hsv
        cases h1
        simp at h2]
    exact ⟨_, settled_completeTask ha, ⟨rfl, rfl⟩, rfl, rfl, rfl⟩
  · obtain ⟨ha, -⟩ := (portRule_iff s).mp hport
    rw [exec_thermalShutdown hlo, clampTemp_of_range (by omega) hhi, forceOff_off (by exact hf)]
    obtain ⟨t, ht, hframe, -, htest, hscan⟩ := settled_abandonPassive .skipped (s := shutMeets d s) ha
    refine ⟨t, ht, by rw [hframe]; rfl, htest, fun period hp hjob hc hheld => ?_⟩
    obtain ⟨hmpt, hssc, hpev⟩ := hscan period hp hjob hc hheld
    exact ⟨hmpt, by rw [hssc]; rfl, by rw [hpev]⟩

/-! ### The card-near sense (R163) -/

theorem exec_senseTimerExpiry {s : State} (hr : s.mpt.runState = .running) (hp : s.pev.power = .doze)
    (ht : s.pev.senseTimer = true) (hf : s.clk.holder = .none) (hb : fieldBlocked s = false) :
    exec .senseTimerExpiry s = settled (turnOn .sense s) := by
  simp only [exec, execSenseTimerExpiry, hr, hp, ht, hf, hb, and_self, if_true]

theorem findingAtTurnOn_cases (n : Nat) (f : Finding) : findingAtTurnOn n f = .connected ∨ findingAtTurnOn n f = f := by
  unfold findingAtTurnOn
  split
  · exact .inl rfl
  · exact .inr rfl

theorem cardIsNear_iff (r m : Nat) : cardIsNear (some r) m = true ↔ r + 5 < m ∨ m + 5 < r := by
  simp only [cardIsNear, Bool.or_eq_true, decide_eq_true_eq]
  rfl

theorem cardIsNear_false {reference : Option Nat} {m : Nat} (h : ∀ r, reference = some r → m ≤ r + 5 ∧ r ≤ m + 5) :
    cardIsNear reference m = false := by
  cases reference with
  | none => rfl
  | some r =>
    obtain ⟨hlo, hhi⟩ := h r rfl
    rw [Bool.eq_false_iff, ne_eq, cardIsNear_iff]
    omega

/-- R163: a measurement within 5 mA of the reference, or the first, is the reference. -/
theorem senseMeasured_far {s : State} {m : Nat} (hr : s.mpt.runState = .running) (hp : s.pev.power = .doze)
    (h : cardIsNear s.pev.senseReference m = false) :
    senseMeasured m s = { s with pev := { s.pev with senseReference := some m } } := by
  simp only [senseMeasured, hr, hp, and_self, if_true, h, Bool.false_eq_true, if_false]

theorem senseMeasured_near {s : State} {m : Nat} (hr : s.mpt.runState = .running) (hp : s.pev.power = .doze)
    (h : cardIsNear s.pev.senseReference m = true) : senseMeasured m s = wakeByCard s := by
  simp only [senseMeasured, hr, hp, and_self, if_true, h]

theorem afterPulse_idle {s : State} (hh : s.clk.hold = []) (hj : s.pev.dozeJob = none) : afterPulse s = s := by
  simp only [afterPulse, hj]
  exact beginHead_empty hh

theorem afterPulse_waiting {s : State} {period : Nat} (hh : s.clk.hold = [])
    (hj : s.pev.dozeJob = some (.awaitPulse period)) : afterPulse s = beginDozeCheck period s := by
  simp only [afterPulse, hj]
  exact beginHead_empty (by simpa using hh)

theorem exec_sensePulseEnd {s : State} (m : Nat) (hf : s.clk.holder = .sense) :
    exec (.sensePulseEnd m) s = settled (afterPulse (senseMeasured m (turnOff s))) := by
  simp only [exec, execSensePulseEnd, hf, if_true]

/-- Settles O24: a pulse begins with the grant to the sense, and its measurement leads on or wakes the part. -/
theorem sensePulses : Obligations.SensePulses := by
  unfold Obligations.SensePulses
  intro s hport hr hp
  obtain ⟨ha, hbus⟩ := (portRule_iff s).mp hport
  refine ⟨fun ht hf hb hpass => ?_, fun ht hf hb hpass => ?_, fun hb => ?_,
    fun m hf hh => ⟨fun hj href => ?_, fun period hj href hskip => ?_, fun r href hfar hsc => ?_⟩⟩
  · rw [exec_senseTimerExpiry hr hp ht hf hb, turnOn_free hpass]
    exact ⟨_, settled_none ha hbus, findingAtTurnOn_cases _ _, rfl⟩
  · rw [exec_senseTimerExpiry hr hp ht hf hb]
    obtain ⟨t, hset, hframe, -, -, hscan⟩ := settled_abandonPassive .busy (s := { s with
      clk := { s.clk with holder := .sense }
      fmn := { s.fmn with finding := findingAtTurnOn s.draws s.fmn.finding, detected := false }
      draws := s.draws + 1 }) ha
    refine ⟨t, hset, by rw [hframe], by rw [hframe], by rw [hframe], by rw [hframe], fun period hj hc hheld => ?_⟩
    exact hscan period hpass hj hc hheld
  · simp [exec, execSenseTimerExpiry, hb]
  · rw [exec_sensePulseEnd m hf, senseMeasured_far (by exact hr) (by exact hp) (by exact cardIsNear_false href),
      afterPulse_idle (by exact hh) (by exact hj)]
    exact settled_none ha hbus
  · rw [exec_sensePulseEnd m hf, senseMeasured_far (by exact hr) (by exact hp) (by exact cardIsNear_false href),
      afterPulse_waiting (period := period) (by exact hh) (by exact hj), beginDozeCheck_checks period (by exact hskip)]
    exact settled_none ha hbus
  · have hnear : cardIsNear (turnOff s).pev.senseReference m = true := by
      simpa only [turnOff, href, cardIsNear_iff] using hfar
    have hwake : wakeByCard (turnOff s) = startPoll (wakeToRun (raiseEvent evCardNear (turnOff s))) := if_pos hsc
    have hawake : scansAllowed (wakeToRun (raiseEvent evCardNear (turnOff s))) = true := by
      simp [scansAllowed, wakeToRun, turnOff, hr]
    rw [exec_sensePulseEnd m hf, senseMeasured_near (by exact hr) (by exact hp) hnear, hwake, startPoll,
      pollPeriod_awake hawake, afterPulse_idle (by exact hh) (by rfl)]
    exact settled_none ha hbus

end Sys2Proof.Proofs.SenseRules
end

section
/-! SUPPORT. The field forced off, and the crossings of temperature (R86, R87, R105, R114 to R119, R163): obligations O25 and O26. -/

namespace Sys2Proof.Proofs.FieldFaults

open Sys2Proof Sys2Proof.Machine RunStates ScanRules HoldEnds SenseRules

/-! ### The head ended with the field off -/

theorem releaseHead_off {s : State} (h : s.clk.holder = .none) :
    releaseHead s = { s with clk := { s.clk with deadline := none, tries := 0, pendingStamp := none } } := by
  simp [releaseHead, h]

/-- The state in which a head that closes stands, with the field off. -/
def closed (t : HeldTask) (rest : List HeldTask) (x : Session) (s : State) : State :=
  { s with clk := { s.clk with
      deadline := none, tries := 0, pendingStamp := none, hold := { t with session := x } :: rest } }

section
variable {s : State} {t : HeldTask} {rest : List HeldTask}

theorem closeHead_off_ready (e : SessionEnd) (hh : s.clk.hold = t :: rest) (hn : t.slot ∉ rest.map HeldTask.slot)
    (hf : s.clk.holder = .none) :
    closeHead t e {} s
      = ask (answerOf (.card t.slot) s t.slot t.tag (sessionAnswer e)) (closed t rest (.closing e {} .writeAnswer) s) := by
  simp only [closeHead, if_true, handOver, releaseHead_off hf]
  rw [setSession_head _ (by exact hh) hn]
  rfl

theorem closeHead_off_waits (e : SessionEnd) {o : Owed} (ho : o ≠ {}) (hh : s.clk.hold = t :: rest)
    (hn : t.slot ∉ rest.map HeldTask.slot) (hf : s.clk.holder = .none) :
    closeHead t e o s = closed t rest (.closing e o .awaitJournal) s := by
  simp only [closeHead, if_neg ho, releaseHead_off hf]
  rw [setSession_head _ (by exact hh) hn]
  rfl

theorem closeHead_off (e : SessionEnd) (o : Owed) (hf : s.clk.holder = .none) :
    (closeHead t e o s).fmn = s.fmn ∧ (closeHead t e o s).clk.holder = .none := by
  simp only [closeHead, releaseHead_off hf]
  split
  · exact ⟨rfl, hf⟩
  · exact ⟨rfl, hf⟩

theorem closeHead_asks (e : SessionEnd) (o : Owed) :
    ∃ l, l.length ≤ 1 ∧ (closeHead t e o s).mpt = { s.mpt with asked := s.mpt.asked ++ l } := by
  simp only [closeHead]
  split
  · exact ⟨[answerOf (.card t.slot) s t.slot t.tag (sessionAnswer e)], Nat.le_refl 1, by
      simp [handOver, slotAddress, answerOf]⟩
  · exact ⟨[], Nat.zero_le 1, by simp⟩

end

/-- A settled STAMPING asks for the read of a mark at most: its answer waits for its fill. -/
theorem settleStamp_asks (t : HeldTask) (d : Draft) (p : RidePlan) (o : StampOutcome) (s : State) :
    ∃ l, l.length ≤ 1 ∧ (settleStamp t d p o s).mpt = { s.mpt with asked := s.mpt.asked ++ l } := by
  unfold settleStamp
  split
  · exact ⟨[], Nat.zero_le 1, by simp⟩
  · rename_i ps hps
    obtain ⟨service, l, hl, he⟩ :=
      SeenOps.arrive_cases [.fill (outcomeEntry o p ps)] (sendUpdate (outcomeUpdate o p ps) s)
    refine ⟨l, hl, ?_⟩
    rw [he, closeHead, if_neg (by decide)]
    simp [sendUpdate]

section
variable {s : State} (t : HeldTask)

theorem fieldFailed_off (hf : s.clk.holder = .none) :
    (fieldFailed t s).fmn = s.fmn ∧ (fieldFailed t s).clk.holder = .none := by
  unfold fieldFailed
  split
  · exact closeHead_off _ _ hf
  · exact closeHead_off _ _ hf
  · exact closeHead_off (s := disownClaims s) _ _ hf
  · exact closeHead_off (s := orphanClaims _ s) _ _ hf
  · rename_i x d p hs
    unfold settleStamp
    split
    · exact ⟨rfl, hf⟩
    · rename_i ps hps
      obtain ⟨service, l, hl, he⟩ :=
        SeenOps.arrive_cases [.fill (outcomeEntry .uncertain p ps)] (sendUpdate (outcomeUpdate .uncertain p ps) s)
      rw [he]
      exact closeHead_off _ _ (by exact hf)
  · exact ⟨rfl, hf⟩
  · exact ⟨rfl, hf⟩

theorem fieldFailed_asks :
    ∃ l, l.length ≤ 1 ∧ (fieldFailed t s).mpt = { s.mpt with asked := s.mpt.asked ++ l } := by
  have hstays : ∃ l : List Access, l.length ≤ 1 ∧ s.mpt = { s.mpt with asked := s.mpt.asked ++ l } :=
    ⟨[], Nat.zero_le 1, by simp⟩
  unfold fieldFailed
  split
  · exact closeHead_asks _ _
  · exact closeHead_asks _ _
  · exact closeHead_asks (s := disownClaims s) _ _
  · exact closeHead_asks (s := orphanClaims _ s) _ _
  · exact settleStamp_asks ..
  · exact hstays
  · exact hstays

end

/-! ### The field forced off (R87) -/

/-- R87: a session that holds the field loses it. -/
theorem forceOff_session {s : State} (hf : s.clk.holder = .session) :
    (forceOff s).fmn = { s.fmn with detected := false } ∧ (forceOff s).clk.holder = .none := by
  simp only [forceOff, hf]
  split
  · exact ⟨rfl, rfl⟩
  · exact fieldFailed_off _ rfl

theorem forceOff_session_asks {s : State} (hf : s.clk.holder = .session) :
    ∃ l, l.length ≤ 1 ∧ (forceOff s).mpt = { s.mpt with asked := s.mpt.asked ++ l } := by
  simp only [forceOff, hf]
  split
  · exact ⟨[], Nat.zero_le 1, by simp [turnOff]⟩
  · exact fieldFailed_asks (s := turnOff s) _

theorem forceOff_session_keeps {s : State} (hf : s.clk.holder = .session) :
    (forceOff s).ssc = s.ssc ∧ (forceOff s).pev = s.pev ∧ (forceOff s).draws = s.draws := by
  simp only [forceOff, hf]
  split <;> simp [turnOff]

theorem beginScan_events (s : State) : (beginScan s).pev.events = s.pev.events := by
  rcases beginScan_cases s with ⟨sc, hb⟩ | hb
  · rw [hb]
    rfl
  · rw [hb, afterScan_pev]

theorem beginHead_blocked_keeps {s : State} (hb : fieldBlocked s = true) :
    (beginHead s).fmn = s.fmn ∧ (beginHead s).clk.holder = s.clk.holder ∧ (beginHead s).pev = s.pev := by
  unfold beginHead
  split
  · exact ⟨rfl, rfl, rfl⟩
  · split
    · simp [beginSession, hb]
    · exact ⟨rfl, rfl, rfl⟩

theorem abandonPassive_events (r : FieldTestResult) (s : State) : (abandonPassive r s).pev.events = s.pev.events := by
  unfold abandonPassive
  split
  · rfl
  · simp
  · unfold scanAfterCheck
    split
    · rw [beginScan_events]
    · rfl

/-- R87, R86: under a block and with the checks stopped, whoever holds the field loses it, and nothing takes it. -/
theorem forceOff_blocked {s : State} (hb : fieldBlocked s = true) (hskip : passiveSkipped s = true) :
    (forceOff s).fmn = { s.fmn with detected := s.fmn.detected && s.clk.holder == .none }
      ∧ (forceOff s).clk.holder = .none ∧ (forceOff s).pev.events = s.pev.events := by
  cases hf : s.clk.holder with
  | none =>
    rw [forceOff_off hf]
    simp [hf]
  | session =>
    obtain ⟨hfmn, hholder⟩ := forceOff_session hf
    obtain ⟨-, hpev, -⟩ := forceOff_session_keeps hf
    exact ⟨by simp [hfmn], hholder, by rw [hpev]⟩
  | sense =>
    have hgo : ∃ u, forceOff s = beginHead u ∧ u.fmn = { s.fmn with detected := false } ∧ u.clk.holder = .none
        ∧ u.pev.events = s.pev.events := by
      simp only [forceOff, hf, afterPulse]
      split
      · rename_i period hj
        rw [beginDozeCheck_skips period (by exact hskip)]
        exact ⟨_, rfl, by simp [turnOff], by simp [turnOff], beginScan_events _⟩
      · exact ⟨_, rfl, rfl, rfl, rfl⟩
    obtain ⟨u, he, hfmn, hholder, hevents⟩ := hgo
    have hblocked : fieldBlocked u = true := by simpa only [fieldBlocked, hfmn] using hb
    obtain ⟨hf', hc', hp'⟩ := beginHead_blocked_keeps hblocked
    rw [he]
    exact ⟨by simp [hf', hfmn], hc'.trans hholder, by rw [hp', hevents]⟩

/-! ### The detections (R115, R117) -/

/-- R115: the state in which a detection meets the field under the stop option. -/
def openMeets (s : State) : State :=
  { s with
    fmn := { s.fmn with finding := .openAntenna, antennaOpen := true, openBlock := true }
    pev := { s.pev with events := eventsAfter s.fmn.antennaOpen s.fmn.reportOpen s.pev.events } }

/-- R117: the state in which an overcurrent meets the field. -/
def overMeets (s : State) : State :=
  { s with
    fmn := { s.fmn with overcurrent := true, overcurrentBlock := true }
    pev := { s.pev with events := eventsAfter s.fmn.overcurrent s.fmn.reportOvercurrent s.pev.events } }

theorem antennaLost_stops {s : State} (h : s.fmn.stopOnOpen = true) : antennaLost s = forceOff (openMeets s) := by
  simp only [antennaLost, latchOpen_eq, h, if_true, openMeets]

theorem antennaLost_stays {s : State} (h : s.fmn.stopOnOpen = false) : antennaLost s = { s with
    fmn := { s.fmn with finding := .openAntenna, antennaOpen := true, detected := true }
    pev := { s.pev with events := eventsAfter s.fmn.antennaOpen s.fmn.reportOpen s.pev.events } } := by
  simp only [antennaLost, latchOpen_eq, h, Bool.false_eq_true, if_false]

theorem overcurrent_eq (s : State) : overcurrent s = forceOff (overMeets s) := by
  rw [overcurrent, latchOvercurrent_eq, overMeets]

theorem fieldOn_iff (s : State) : fieldOn s = true ↔ s.clk.holder ≠ .none := by simp [fieldOn]

theorem exec_antennaOpenDetection {s : State} (hf : s.clk.holder = .session) (hd : s.fmn.detected = false) :
    exec .antennaOpenDetection s = settled (antennaLost s) := by
  simp only [exec, execAntennaOpenDetection, hf, hd, and_self, if_true]

theorem exec_overcurrentDetection {s : State} (hf : s.clk.holder ≠ .none) :
    exec .overcurrentDetection s = settled (forceOff (overMeets s)) := by
  simp only [exec, execOvercurrentDetection, (fieldOn_iff s).mpr hf, if_true, overcurrent_eq]

theorem abandonPassive_none {s : State} (h : s.fmn.passive = none) (r : FieldTestResult) : abandonPassive r s = s := by
  simp only [abandonPassive, h]

theorem forceOff_head {s : State} {t : HeldTask} {rest : List HeldTask} (hf : s.clk.holder = .session)
    (hh : s.clk.hold = t :: rest) : forceOff s = fieldFailed t (turnOff s) := by
  simp only [forceOff, hf, hh]

/-- R105: each of the commands that force the field off ends the head, in a state that differs in the field and in events. -/
theorem exec_forcesOff {c : Instr} {h : HeldTask} {rest : List HeldTask} {s : State} (hp : s.fmn.passive = none)
    (hf : s.clk.holder = .session) (hh : s.clk.hold = h :: rest)
    (hc : c = .overcurrentDetection ∨ (c = .antennaOpenDetection ∧ s.fmn.stopOnOpen = true ∧ s.fmn.detected = false)
      ∨ ∃ d, 125 ≤ d ∧ c = .thermalShutdown d) :
    ∃ f p, exec c s = settled (fieldFailed h (turnOff { s with fmn := f, pev := p })) := by
  rcases hc with rfl | ⟨rfl, hstop, hd⟩ | ⟨d, hd, rfl⟩
  · rw [exec_overcurrentDetection (by simp [hf]), forceOff_head (by exact hf) (by exact hh)]
    exact ⟨_, _, rfl⟩
  · rw [exec_antennaOpenDetection hf hd, antennaLost_stops hstop, forceOff_head (by exact hf) (by exact hh)]
    exact ⟨_, _, rfl⟩
  · obtain ⟨hfmn, -⟩ := forceOff_session (s := shutMeets (clampTemp d) s) hf
    rw [exec_thermalShutdown hd, abandonPassive_none (by rw [hfmn]; exact hp), forceOff_head (by exact hf) (by exact hh)]
    exact ⟨_, _, rfl⟩

/-- R101: the head is settled with the field off. -/
theorem settleStamp_off {s : State} {t : HeldTask} {rest : List HeldTask} {d : Draft} {p : RidePlan} {o : StampOutcome}
    {ps : PendingStamp} (hps : s.clk.pendingStamp = some ps) (hh : s.clk.hold = t :: rest)
    (hn : t.slot ∉ rest.map HeldTask.slot) (hf : s.clk.holder = .none) :
    settleStamp t d p o s = closed t rest (.closing (.ok (outcomeDraft o d p ps)) { fill := true } .awaitJournal)
      (arrive [.fill (outcomeEntry o p ps)] (sendUpdate (outcomeUpdate o p ps) s)) := by
  obtain ⟨service, l, -, he⟩ := SeenOps.arrive_cases [.fill (outcomeEntry o p ps)] (sendUpdate (outcomeUpdate o p ps) s)
  simp only [settleStamp, hps, he]
  exact closeHead_off_waits _ (by decide) hh hn hf

/-- Settles O25: a detection latches and blocks, and the head that loses the field ends as its state requires. -/
theorem detectionsForceTheFieldOff : Obligations.DetectionsForceTheFieldOff := by
  unfold Obligations.DetectionsForceTheFieldOff
  refine ⟨fun s hport => ?_, fun c h rest s hport hp hf hh hn hc => ?_⟩
  · obtain ⟨ha, hbus⟩ := (portRule_iff s).mp hport
    refine ⟨fun hf hd => ?_, fun hno => ?_, fun hf => ?_, fun hf => ?_, fun hf => ?_⟩
    · intro events
      rw [exec_antennaOpenDetection hf hd]
      refine ⟨fun hstop => ?_, fun hstop => ?_⟩
      · rw [antennaLost_stays hstop]
        exact settled_none ha hbus
      · rw [antennaLost_stops hstop]
        obtain ⟨hfmn, hholder⟩ := forceOff_session (s := openMeets s) hf
        obtain ⟨l, hl, hmpt⟩ := forceOff_session_asks (s := openMeets s) hf
        obtain ⟨hssc, hpev, hdraws⟩ := forceOff_session_keeps (s := openMeets s) hf
        obtain ⟨hrcx, hven, hdnl, hpending⟩ := forceOff_keeps (openMeets s)
        have hlen : (forceOff (openMeets s)).mpt.asked.length ≤ 1 := by
          rw [hmpt]
          simpa [openMeets, ha] using hl
        refine ⟨_, settled_eq _ hlen, hfmn, hholder, ?_⟩
        exact state_ext rfl hssc hrcx hven hdnl rfl rfl rfl rfl hpev hdraws hpending
    · have hnot : ¬ (s.clk.holder = .session ∧ s.fmn.detected = false) := by
        rintro ⟨hf, hd⟩
        simp [hf, hd] at hno
      simp only [exec, execAntennaOpenDetection, if_neg hnot]
    · simp only [exec, execAntennaCurrentRise, (fieldOn_iff s).mpr hf, if_true]
    · simp [exec, execAntennaCurrentRise, execOvercurrentDetection, fieldOn, hf]
    · rw [exec_overcurrentDetection hf]
      obtain ⟨hfmn, hholder, hevents⟩ := forceOff_blocked (s := overMeets s) (by simp [fieldBlocked, overMeets])
        (by simp [passiveSkipped, overMeets])
      refine ⟨_, settled_next _, ?_, by simpa using hholder, ?_, by simp [overMeets], by simp [overMeets],
        by simp [overMeets]⟩
      · simp only [arbitrate_keeps, hfmn]
        simp [overMeets, hf]
      · simp only [arbitrate_keeps, hevents]
        rfl
  · obtain ⟨f, p, hexec⟩ := exec_forcesOff hp hf hh hc
    obtain ⟨ha, -⟩ := (portRule_iff s).mp hport
    rw [hexec]
    refine ⟨fun hs => ?_, fun a hs => ?_, fun d p g hs => ?_, fun x d p ps hs hps => ?_⟩
    · have hgo (u : State) : fieldFailed h u = closeHead h (.coded .fieldFault (cardIdOf u)) {} u := by
        rcases hs with hs | hs <;> simp only [fieldFailed, hs]
      rw [hgo, closeHead_off_ready _ (by exact hh) hn rfl]
      exact ⟨_, settled_ask_bus ha, rfl, rfl, rfl, rfl, rfl⟩
    · simp only [fieldFailed, hs, endAsking]
      rw [closeHead_off_ready _ (by exact hh) hn rfl]
      exact ⟨_, settled_ask_bus ha, rfl, rfl, rfl, rfl⟩
    · simp only [fieldFailed, hs, endDeciding]
      rw [closeHead_off_ready _ (by exact hh) hn rfl]
      exact ⟨_, settled_ask_bus ha, rfl, rfl, rfl, rfl⟩
    · simp only [fieldFailed, hs]
      rw [settleStamp_off (by exact hps) (by exact hh) hn rfl]
      refine ⟨_, settled_next _, ?_⟩
      simp [closed, DecisionPoint.arrive_queue, sendUpdate, turnOff]

/-! ### The crossings of temperature (R118, R119) -/

/-- R119, R163: the block of a shutdown lifts. -/
theorem liftShutdown_eq (s : State) : liftShutdown s = { s with
    fmn := { s.fmn with shutdownBlock := false }
    pev := { s.pev with senseReference :=
      if s.pev.power = .doze ∧ s.fmn.shutdownBlock = true then none else s.pev.senseReference } } := by
  unfold liftShutdown blockLifted
  cases hb : s.fmn.shutdownBlock with
  | false =>
    have hsame : { s.fmn with shutdownBlock := false } = s.fmn := by rw [← hb]
    simp [hsame]
  | true => by_cases hp : s.pev.power = .doze <;> simp [hp]

/-- A part that is warm already: nothing latches and nothing is reported. -/
theorem warm_warmed {s : State} (h : s.fmn.thermalWarning = true ∧ s.fmn.reducedDuty = true) : warm s = s := by
  obtain ⟨hw, hr⟩ := h
  have hfmn : { s.fmn with thermalWarning := true, reducedDuty := true } = s.fmn := by
    cases hf : s.fmn
    simp_all
  rw [warm_eq, hfmn]
  simp [eventsAfter, hw]

/-- The die moves to 105 degrees or above, short of a shutdown, with no block to lift. -/
theorem dieMoves_warm {d : Int} {s : State} (hlo : 105 ≤ d) (hhi : d < 125) (hb : 110 ≤ d ∨ s.fmn.shutdownBlock = false) :
    dieMoves d s = warm { s with fmn := { s.fmn with dieTemp := d } } := by
  have hc := clampTemp_of_range (d := d) (by omega) (by omega)
  simp only [dieMoves, hc, if_pos hlo, if_neg (show ¬ 125 ≤ d by omega), if_neg (show ¬ d ≤ 95 by omega)]
  split
  · have hb' : s.fmn.shutdownBlock = false := hb.resolve_left (by omega)
    exact if_neg (by simpa using hb')
  · rfl

/-- The die moves below 110 degrees, short of the end of reduced duty. -/
theorem dieMoves_lifts {d : Int} {s : State} (hlo : 95 < d) (hhi : d < 110)
    (h : d < 105 ∨ (s.fmn.thermalWarning = true ∧ s.fmn.reducedDuty = true)) :
    dieMoves d s = liftShutdown { s with fmn := { s.fmn with dieTemp := d } } := by
  have hc := clampTemp_of_range (d := d) (by omega) (by omega)
  have hwarm : (if 105 ≤ d then warm { s with fmn := { s.fmn with dieTemp := d } } else { s with fmn := { s.fmn with dieTemp := d } })
      = { s with fmn := { s.fmn with dieTemp := d } } := by
    split
    · exact warm_warmed (by exact h.resolve_left (by omega))
    · rfl
  simp only [dieMoves, hc, hwarm, if_neg (show ¬ 125 ≤ d by omega), if_pos hhi, if_neg (show ¬ d ≤ 95 by omega)]

/-- The die moves to 95 degrees or below. -/
theorem dieMoves_cool {d : Int} {s : State} (hlo : -40 ≤ d) (hhi : d ≤ 95) :
    dieMoves d s = liftReducedDuty (liftShutdown { s with fmn := { s.fmn with dieTemp := d } }) := by
  have hc := clampTemp_of_range (d := d) hlo (by omega)
  simp only [dieMoves, hc, if_neg (show ¬ 105 ≤ d by omega), if_neg (show ¬ 125 ≤ d by omega),
    if_pos (show d < 110 by omega), if_pos hhi]

/-- Settles O26: each command moves the die to the temperature it brings, and that temperature decides what is crossed. -/
theorem temperatureCrossings : Obligations.TemperatureCrossings := by
  unfold Obligations.TemperatureCrossings
  intro d s hport lifted warned
  obtain ⟨ha, hbus⟩ := (portRule_iff s).mp hport
  refine ⟨fun hlo hhi hb => ?_, fun hlo hhi => ?_, fun hlo hhi h => ?_, fun hlo hhi => ?_, fun h => ?_, fun h => ?_, fun h => ?_,
    fun h => ?_, fun hf => ?_, fun hf => ?_, fun hf hr ht => ?_⟩
  · simp only [exec, execThermalWarning, if_pos hlo, dieMoves_warm hlo hhi hb, warm_eq]
    exact settled_none ha hbus
  · rw [exec_thermalShutdown hlo, clampTemp_of_range (by omega) hhi]
    obtain ⟨hfmn, hholder, hevents⟩ := forceOff_blocked (s := shutMeets d s) (by simp [fieldBlocked, shutMeets])
      (by simp [passiveSkipped, shutMeets])
    refine ⟨_, settled_next _, ?_, by simpa using hholder, ?_, by simp [shutMeets], by simp [shutMeets], by simp [shutMeets],
      fun hf hp => ?_⟩
    · simp only [arbitrate_keeps, FieldRule.abandonPassive_fmn, hfmn]
      rfl
    · simp only [arbitrate_keeps, abandonPassive_events, hevents]
      rfl
    · rw [forceOff_off (by exact hf), abandonPassive_none (by exact hp)]
      have hidle : arbitrate (shutMeets d s) = shutMeets d s :=
        Host.Outcome.next.inj (settled_none (u := shutMeets d s) ha hbus)
      rw [hidle]
      rfl
  · simp only [exec, execShutdownBlockLift, if_pos hhi, dieMoves_lifts hlo hhi h, liftShutdown_eq]
    exact settled_none ha hbus
  · simp only [exec, execReducedDutyLift, if_pos hhi, dieMoves_cool hlo hhi, liftShutdown_eq, liftReducedDuty]
    exact settled_none ha hbus
  · simp only [exec, execThermalWarning, if_neg (show ¬ 105 ≤ d by omega)]
  · simp only [exec, execThermalShutdown, if_neg (show ¬ 125 ≤ d by omega)]
  · simp only [exec, execShutdownBlockLift, if_neg (show ¬ d < 110 by omega)]
  · simp only [exec, execReducedDutyLift, if_neg (show ¬ d ≤ 95 by omega)]
  · simp only [fieldDrive, hf]
  · rcases hf with hf | ⟨hf, hr | ht⟩
    · simp only [fieldDrive, hf]
    · simp [fieldDrive, hf, hr]
    · simp [fieldDrive, hf, ht]
  · simp [fieldDrive, hf, hr, ht]

end Sys2Proof.Proofs.FieldFaults
end

section
/-! SUPPORT. Card sessions (R93 to R101, R19, R149, R150, R152): obligations O27 to O31. -/

namespace Sys2Proof.Proofs.CardSessions

open Sys2Proof Sys2Proof.Machine RunStates ScanRules HoldEnds

/-! ### The head in PRESENCE (R94) -/

section
variable {s : State} {h : HeldTask} {rest : List HeldTask}

theorem exec_presenceIntervalExpiry (hh : s.clk.hold = h :: rest) (hs : h.session = .presence) :
    exec .presenceIntervalExpiry s = .next (sendWake s) := by
  simp only [exec, execPresenceIntervalExpiry, hh, hs, if_true]

theorem exec_presentationDeadline (hh : s.clk.hold = h :: rest) (hs : h.session = .presence) :
    exec .presentationDeadline s = settled (closeHead h (sessionVerdict .noCredential none) {} s) := by
  simp only [exec, execPresentationDeadline, hh, hs, if_true]

theorem exec_hello (link : LinkStatus) (c : Cred) (f : Byte) (b : Bool) (hh : s.clk.hold = h :: rest)
    (hs : h.session = .presence) (ht : s.clk.tries ≠ 0) :
    exec (.hello link c f b) s = settled (helloTaken h link c f b s) := by
  simp only [exec, execHello, hh, hs, if_true, if_neg ht]

theorem helloTaken_overlap (c : Cred) (f : Byte) (b : Bool) :
    helloTaken h .overlap c f b s = closeHead h (sessionVerdict .multipleCards none) {} s := if_pos rfl

theorem helloTaken_good {c : Cred} {f : Byte} (b : Bool) (hh : s.clk.hold = h :: rest) (hn : h.slot ∉ rest.map HeldTask.slot)
    (hc : c ≠ 0) (hf : f.toNat ≤ 3) :
    helloTaken h .good c f b s = { s with clk := { s.clk with
      hold := { h with session := .reading } :: rest, identity := some ⟨c, f.toNat, b⟩, tries := 1 } } := by
  rw [helloTaken, if_neg (by decide), if_pos ⟨rfl, hc, hf⟩]
  exact congrArg (sendTry 1) (setSession_head (s := { s with clk := { s.clk with identity := some ⟨c, f.toNat, b⟩ } })
    .reading hh hn)

theorem helloTaken_bad {link : LinkStatus} {c : Cred} {f : Byte} (b : Bool)
    (hl : link = .badCheck ∨ link = .malformed ∨ (link = .good ∧ (c = 0 ∨ 3 < f.toNat))) :
    helloTaken h link c f b s = sendTry 0 s := by
  have hno : link ≠ .overlap := by rcases hl with rfl | rfl | ⟨rfl, -⟩ <;> decide
  have hbad : ¬ (link = .good ∧ c ≠ 0 ∧ f.toNat ≤ 3) := by
    rintro ⟨rfl, hc, hf⟩
    have h3 := (hl.resolve_left (by decide)).resolve_left (by decide)
    exact h3.2.elim hc (Nat.not_lt.mpr hf)
  rw [helloTaken, if_neg hno, if_neg hbad]

/-- Settles O27: in PRESENCE the head meets its interval, its deadline and its HELLO. -/
theorem presenceWaitsForOneCard : Obligations.PresenceWaitsForOneCard := by
  unfold Obligations.PresenceWaitsForOneCard
  intro h rest s hport hh hn hs hf closed
  obtain ⟨ha, hbus⟩ := (portRule_iff s).mp hport
  have hcloses (v : Verdict) : ∃ t, settled (closeHead h (sessionVerdict v none) {} s) = .next t ∧ closed t v := by
    rw [closeHead_ready _ hh hn hf]
    exact ⟨_, settled_ask_bus ha, rfl, rfl, rfl, rfl, rfl⟩
  refine ⟨exec_presenceIntervalExpiry hh hs, ?_, fun c f b ht => ⟨fun hc hf => ?_, ?_, fun link hl => ?_⟩⟩
  · rw [exec_presentationDeadline hh hs]
    exact hcloses .noCredential
  · rw [exec_hello _ c f b hh hs ht, helloTaken_good b hh hn hc hf]
    exact settled_none ha hbus
  · rw [exec_hello _ c f b hh hs ht, helloTaken_overlap]
    exact hcloses .multipleCards
  · rw [exec_hello _ c f b hh hs ht, helloTaken_bad b hl]
    exact settled_none ha hbus

/-! ### Tries (R93, R95, R99, R100) -/

theorem replyFails_presence (hh : s.clk.hold = h :: rest) (hs : h.session = .presence) : replyFails s = sendTry 0 s := by
  simp only [replyFails, hh, hs]

theorem replyFails_tries (hh : s.clk.hold = h :: rest) (hs : h.session = .reading ∨ ∃ x d p, h.session = .stamping x d p) :
    replyFails s = tryFails h s := by
  rcases hs with hs | ⟨x, d, p, hs⟩ <;> simp only [replyFails, hh, hs]

theorem tryFails_again (ht : s.clk.tries < 3) : tryFails h s = sendTry (s.clk.tries + 1) s := if_pos ht

theorem tryFails_exhausted (ht : 3 ≤ s.clk.tries) : tryFails h s = exhausted h s := if_neg (Nat.not_lt.mpr ht)

theorem exhausted_reading (hs : h.session = .reading) :
    exhausted h s = closeHead h (sessionVerdict .unreadable (cardIdOf s)) {} s := by simp only [exhausted, hs]

theorem exhausted_put {d : Draft} {p : RidePlan} (hs : h.session = .stamping .put d p) :
    exhausted h s = sendTry 1 (setSession h.slot (.stamping .check d p) s) := by simp only [exhausted, hs]

theorem exhausted_check {d : Draft} {p : RidePlan} (hs : h.session = .stamping .check d p) :
    exhausted h s = settleStamp h d p .uncertain s := by simp only [exhausted, hs]

end

/-- Settles O28: the try that fails is made again, or ends the exchange as its kind requires. -/
theorem triesAndExhaustion : Obligations.TriesAndExhaustion := by
  unfold Obligations.TriesAndExhaustion
  intro h rest s hport hh hn hf
  obtain ⟨ha, hbus⟩ := (portRule_iff s).mp hport
  have hlimit : exec .replyLimitExpiry s = settled (replyFails s) := rfl
  refine ⟨fun hs => ?_, fun ht hs => ?_, fun ht hs => ?_, fun d p ht hs => ?_, fun d p ps ht hs hps => ?_,
    fun hs link records stamp w hl => ?_, fun d p link c hs hl => ?_, fun d p link stamp hs hl => ?_⟩
  · rw [hlimit, replyFails_presence hh hs]
    exact settled_none ha hbus
  · rw [hlimit, replyFails_tries hh hs, tryFails_again ht]
    exact settled_none ha hbus
  · rw [hlimit, replyFails_tries hh (.inl hs), tryFails_exhausted ht, exhausted_reading hs, closeHead_ready _ hh hn hf]
    exact ⟨_, settled_ask_bus ha, rfl, rfl, rfl⟩
  · rw [hlimit, replyFails_tries hh (.inr ⟨_, d, p, hs⟩), tryFails_exhausted ht, exhausted_put hs, setSession_head _ hh hn]
    exact settled_none ha hbus
  · rw [hlimit, replyFails_tries hh (.inr ⟨_, d, p, hs⟩), tryFails_exhausted ht, exhausted_check hs,
      settleStamp_eq hps hh hn hf]
    exact ⟨_, settled_next _, by simp, by simp [DecisionPoint.arrive_queue, sendUpdate], by simp [sendUpdate]⟩
  · have hno (id : CardIdentity) : areaFits id link records stamp = false := by simp [areaFits, hl]
    simp only [exec, execArea, hh, hs, execReplyLimitExpiry, hno]
    cases s.clk.identity <;> rfl
  · have hno : ¬ (link = .good ∧ cardIdOf s = some c) := fun ⟨hg, hc⟩ => hl.elim (absurd hg) (absurd hc)
    simp only [exec, execStampAck, hh, hs, execReplyLimitExpiry, if_neg hno]
  · have hno : ¬ (link = .good ∧ (stamp.map List.length).getD 16 = 16) := fun ⟨hg, _⟩ => hl hg
    simp only [exec, execCheckStampReply, hh, hs, execReplyLimitExpiry, if_neg hno]

/-! ### The decision point of a card (R95 to R97) -/

/-- R96, R101, R102: a head that holds the field closes, and waits where the Journal Writer owes it something. -/
theorem closeHead_closes {s : State} {t : HeldTask} {rest : List HeldTask} (e : SessionEnd) (o : Owed)
    (hh : s.clk.hold = t :: rest) (hn : t.slot ∉ rest.map HeldTask.slot) (hf : s.clk.holder = .session) :
    (closeHead t e o s).clk = { s.clk with
      holder := .none, deadline := none, tries := 0, pendingStamp := none
      hold := { t with session := .closing e o (if o = {} then .writeAnswer else .awaitJournal) } :: rest } := by
  by_cases ho : o = {}
  · subst ho
    rw [closeHead_ready e hh hn hf, if_pos rfl]
    rfl
  · rw [closeHead_waits e ho hh hn hf, if_neg ho]

section
variable {h : HeldTask} {rest : List HeldTask} {u : State}

theorem decideCard_final {a : Asking} {y : Replies} {l : List JournalJob} {d : Draft}
    (hr : (conclude a y l u).2.ruling = .final d) :
    decideCard h a y l u = closeHead h (.ok d)
      { denied := (conclude a y l u).2.deniedOwed, resolved := (conclude a y l u).2.resolvedOwed } (conclude a y l u).1 := by
  simp only [decideCard, hr]

theorem decideCard_ride {a : Asking} {y : Replies} {l : List JournalJob} {d : Draft} {place : Nat} {rides : Byte}
    (hr : (conclude a y l u).2.ruling = .ride d place rides) :
    decideCard h a y l u = seekReservation h (conclude a y l u).2 d
      ⟨a.inspection.cred, (conclude a y l u).2.ctx, place, rides, oldSequence a.inspection.stamp⟩ (conclude a y l u).1 := by
  simp only [decideCard, hr]

theorem seekReservation_refuses {x : Decided} {d : Draft} {p : RidePlan} (hp : 32 ≤ x.pins) :
    seekReservation h x d p u = closeHead h
      (.ok { d with verdict := .rideNotTaken, reason := some .uncertainLimit, ridesLeft := some p.rides })
      { resolved := x.resolvedOwed } (sendUpdate (refusedUpdate p.cred p.ctx) u) := if_pos hp

theorem seekReservation_waits {x : Decided} {d : Draft} {p : RidePlan} (hp : x.pins < 32) (hw : x.resolvedOwed = true) :
    seekReservation h x d p u = setSession h.slot (.deciding d p .awaitResolved) u := by
  rw [seekReservation, if_neg (show ¬ Config.pinned ≤ x.pins from Nat.not_le.mpr hp), if_pos hw]

theorem seekReservation_claims {x : Decided} {d : Draft} {p : RidePlan} (hp : x.pins < 32) (hw : x.resolvedOwed = false) :
    seekReservation h x d p u = arrive [.reserve] (setSession h.slot (.deciding d p .awaitReservation) u) := by
  rw [seekReservation, if_neg (show ¬ Config.pinned ≤ x.pins from Nat.not_le.mpr hp), if_neg (by simp [hw])]

theorem askCard_asks {w : Asks} {a : Asking} (hx : (askBlocks w a u).asking.replies = none) :
    askCard h w a u = arrive (askBlocks w a u).claims
      (setSession h.slot (.asking (askBlocks w a u).asking) (askBlocks w a u).state) := by
  simp only [askCard, hx]

theorem askCard_decides {w : Asks} {a : Asking} {y : Replies} (hx : (askBlocks w a u).asking.replies = some y) :
    askCard h w a u = decideCard h (askBlocks w a u).asking y (askBlocks w a u).claims (askBlocks w a u).state := by
  simp only [askCard, hx]

/-- What a decision point leaves alone: it writes the port, the Deny List, the Seen Table, the card link, the field's mark of a
detection and the journal. -/
theorem seekReservation_frame (x : Decided) (d : Draft) (p : RidePlan) :
    (seekReservation h x d p u).dnl = u.dnl ∧ (seekReservation h x d p u).rcx = u.rcx ∧ (seekReservation h x d p u).ven = u.ven
      ∧ (seekReservation h x d p u).ssc = u.ssc ∧ (seekReservation h x d p u).pev = u.pev := by
  unfold seekReservation refuseRide
  repeat' split
  all_goals simp [sendUpdate]

theorem askCard_frame (w : Asks) (a : Asking) :
    (askCard h w a u).dnl = (askBlocks w a u).state.dnl ∧ (askCard h w a u).rcx = u.rcx ∧ (askCard h w a u).ven = u.ven
      ∧ (askCard h w a u).ssc = u.ssc ∧ (askCard h w a u).pev = u.pev := by
  cases hx : (askBlocks w a u).asking.replies with
  | none => simp [askCard_asks hx]
  | some y =>
    rw [askCard_decides hx]
    cases hr : (conclude (askBlocks w a u).asking y (askBlocks w a u).claims (askBlocks w a u).state).2.ruling with
    | final d => simp [decideCard_final hr]
    | ride d place rides =>
      simp only [decideCard_ride hr, seekReservation_frame]
      simp

end

theorem areaFits_of {id : CardIdentity} {records : List (List Byte)} {stamp : Option (List Byte)}
    (hl : records.length = id.filled) (hr : ∀ r ∈ records, r.length = 32) (hs : stamp.isSome = id.stamp)
    (hb : ∀ b, stamp = some b → b.length = 16) : areaFits id .good records stamp = true := by
  have hlen : (stamp.map List.length).getD 16 = 16 := by
    cases stamp with
    | none => rfl
    | some b => exact hb b rfl
  simp [areaFits, hl, hs, hlen]
  exact hr

/-- Settles O29: the decision point goes on with the blocks' answers, and its end acts as the ruling requires. -/
theorem areaLeadsToTheDecision : Obligations.AreaLeadsToTheDecision := by
  unfold Obligations.AreaLeadsToTheDecision
  intro h rest w s hport hh hn hf decided
  have hdecided (a : Asking) {u : State} (hu : u = { s with clk := u.clk }) (huh : u.clk.hold = h :: rest)
      (huf : u.clk.holder = .session) : ∃ t, settled (askCard h w a u) = .next t ∧ decided a u t := by
    refine ⟨_, settled_next _, ?_⟩
    dsimp -zeta only [decided]
    intro x
    obtain ⟨hdnl, hrcx, hven, hssc, hpev⟩ := askCard_frame (h := h) (u := u) w a
    have hxclk : x.state.clk = u.clk := (askBlocks_keeps w a u).2.2.2.1
    have hxh : x.state.clk.hold = h :: rest := hxclk ▸ huh
    have hsame : u.rcx = s.rcx ∧ u.ven = s.ven ∧ u.ssc = s.ssc ∧ u.pev = s.pev := by rw [hu]; exact ⟨rfl, rfl, rfl, rfl⟩
    obtain ⟨hurcx, huven, hussc, hupev⟩ := hsame
    refine ⟨by simpa using hdnl, by simpa using hrcx.trans hurcx, by simpa using hven.trans huven, by simpa using hssc.trans hussc,
      by simpa using hpev.trans hupev,
      fun hx => ?_, fun y hx => ?_⟩
    · rw [askCard_asks hx, setSession_head _ hxh hn]
      simp [DecisionPoint.arrive_queue, x]
    · intro q r
      have hq : x.asking.inspection = q := (askBlocks_inspection w a u).1
      have hrclk : r.1.clk = u.clk := (conclude_keeps x.asking y x.claims x.state).2.2.2.2.1.trans hxclk
      have hrh : r.1.clk.hold = h :: rest := hrclk ▸ huh
      have hrf : r.1.clk.holder = .session := hrclk ▸ huf
      rw [askCard_decides hx]
      refine ⟨fun d hd => ?_, fun d place rides hd => ?_⟩
      · intro owed
        rw [decideCard_final hd]
        have hclk := closeHead_closes (.ok d) owed hrh hn hrf
        refine ⟨?_, ?_, by simp; rfl, by simp; rfl⟩
        · simp only [arbitrate_keeps]
          exact congrArg CardLink.hold hclk
        · simp only [arbitrate_keeps]
          exact congrArg CardLink.holder hclk
      · intro old p
        have hp : (⟨x.asking.inspection.cred, r.2.ctx, place, rides, oldSequence x.asking.inspection.stamp⟩ : RidePlan) = p := by
          rw [hq]
          rfl
        rw [decideCard_ride hd, hp]
        refine ⟨fun hpins => ?_, fun hpins hres => ?_, fun hpins hres => ?_⟩
        · rw [seekReservation_refuses hpins]
          have hclk := closeHead_closes (s := sendUpdate (refusedUpdate p.cred p.ctx) r.1) (t := h) (rest := rest)
            (.ok { d with verdict := .rideNotTaken, reason := some .uncertainLimit, ridesLeft := some p.rides })
            { resolved := r.2.resolvedOwed } hrh hn hrf
          refine ⟨?_, ?_, ?_, ?_⟩
          · simp only [arbitrate_keeps]
            exact congrArg CardLink.holder hclk
          · simp only [arbitrate_keeps, closeHead_keeps]
            rfl
          · simp only [arbitrate_keeps, closeHead_keeps]
            rfl
          · simp only [arbitrate_keeps]
            rw [congrArg CardLink.hold hclk]
            cases r.2.resolvedOwed <;> rfl
        · rw [seekReservation_waits hpins hres, setSession_head _ hrh hn]
          simp [hxclk, r]
        · rw [seekReservation_claims hpins hres, setSession_head _ hrh hn]
          simp [hxclk, r, DecisionPoint.arrive_queue]
  refine ⟨fun id records stamp hs hid hl hr hst hb => ?_, fun a link records stamp hs => ?_⟩
  · have hexec : exec (.area .good records stamp w) s
        = settled (askCard h w (cardAsking h id records stamp) { s with clk := { s.clk with tries := 0 } }) := by
      simp only [exec, execArea, hh, hs, hid, areaFits_of hl hr hst hb, if_true, sendTry]
    rw [hexec]
    exact hdecided _ rfl hh hf
  · have hexec : exec (.area link records stamp w) s = settled (askCard h w a s) := by
      simp only [exec, execArea, hh, hs]
    rw [hexec]
    exact hdecided a rfl hh hf

/-! ### STAMPING (R99 to R101) -/

theorem classify_rows (ps : PendingStamp) :
    (∀ st, st.sequence = ps.stamp.sequence → classify ps (.intact st) = .landed)
    ∧ (∀ st, st.sequence ≠ ps.stamp.sequence → ps.old = some st.sequence → classify ps (.intact st) = .notLanded)
    ∧ (ps.old = none → classify ps .absent = .notLanded)
    ∧ classify ps .damaged = .uncertain
    ∧ (∀ st, st.sequence ≠ ps.stamp.sequence → ps.old ≠ some st.sequence → classify ps (.intact st) = .uncertain)
    ∧ (ps.old ≠ none → classify ps .absent = .uncertain) := by
  refine ⟨fun st h => ?_, fun st h ho => ?_, fun ho => ?_, rfl, fun st h ho => ?_, fun ho => ?_⟩
  · simp only [classify, if_pos h]
  · simp only [classify, if_neg h, if_pos ho]
  · simp only [classify, ho]
  · simp only [classify, if_neg h, if_neg ho]
  · cases hold : ps.old with
    | none => exact absurd hold ho
    | some n => simp only [classify, hold]

theorem exec_checkStampReply {h : HeldTask} {rest : List HeldTask} {d : Draft} {p : RidePlan} {ps : PendingStamp}
    {stamp : Option (List Byte)} {s : State} (hh : s.clk.hold = h :: rest) (hs : h.session = .stamping .check d p)
    (hps : s.clk.pendingStamp = some ps) (hb : ∀ b, stamp = some b → b.length = 16) :
    exec (.checkStampReply .good stamp) s = settled (settleStamp h d p (classify ps (stampStanding stamp)) s) := by
  have hlen : (stamp.map List.length).getD 16 = 16 := by
    cases stamp with
    | none => rfl
    | some b => exact hb b rfl
  simp only [exec, execCheckStampReply, hh, hs, hlen, and_self, if_true, checkTaken, hps]

/-- Settles O30: the reply to CHECK STAMP is classified by its row, and its outcome fills, updates and closes. -/
theorem stampingIsClassifiedAndActs : Obligations.StampingIsClassifiedAndActs := by
  unfold Obligations.StampingIsClassifiedAndActs
  refine ⟨⟨fun h rest d p c s hh hn hs hc => ?_, classify_rows⟩, fun h rest d p ps stamp s hh hn hs hps hb hf => ?_⟩
  · simp only [exec, execStampAck, hh, hs, hc, and_self, if_true, setSession_head _ hh hn]
    rfl
  · rw [exec_checkStampReply hh hs hps hb, settleStamp_eq hps hh hn hf]
    refine ⟨_, settled_next _, by simp, by simp, by simp, by simp, ?_, ?_⟩
    · apply state_ext <;> simp [sendUpdate]
    · intro ends
      have hends (o : StampOutcome) (ho : classify ps (stampStanding stamp) = o) :
          ends (outcomeDraft o d p ps) (outcomeEntry o p ps) (outcomeUpdate o p ps).outcome := by
        subst ho
        exact ⟨by simp, by simp [DecisionPoint.arrive_queue, sendUpdate], by simp [sendUpdate]; rfl⟩
      exact ⟨hends .landed, hends .notLanded, hends .uncertain⟩

/-! ### The reservation granted (R97, R98, R150, R152) -/

theorem toBytes_length (w n : Nat) : (toBytes w n).length = w := by
  induction w generalizing n with
  | zero => rfl
  | succ w ih => simp [toBytes, ih]

theorem leNat_toBytes (w n : Nat) : leNat (toBytes w n) = n % 256 ^ w := by
  induction w generalizing n with
  | zero => simp [toBytes, leNat, Nat.mod_one]
  | succ w ih =>
    simp only [toBytes, leNat, ih, BitVec.toNat_ofNat]
    rw [show 256 ^ (w + 1) = 256 * 256 ^ w from Nat.pow_succ', Nat.mod_mul]

/-- What is stored at the start of some bytes is read back. -/
theorem halfAt_toBytes (h : Half) (rest : List Byte) : halfAt (toBytes 2 h.toNat ++ rest) 0 = h := by
  rw [halfAt, List.drop_zero, List.take_left' (toBytes_length ..), leNat_toBytes]
  apply BitVec.eq_of_toNat_eq
  simp only [BitVec.toNat_ofNat]
  omega

theorem wordAt_toBytes (v : Word) (rest : List Byte) : wordAt (toBytes 4 v.toNat ++ rest) 0 = v := by
  rw [wordAt, List.drop_zero, List.take_left' (toBytes_length ..), leNat_toBytes]
  apply BitVec.eq_of_toNat_eq
  simp only [BitVec.toNat_ofNat]
  omega

/-- What is stored behind a two-byte field is read two bytes on. -/
theorem halfAt_behind (n k : Nat) (r : List Byte) : halfAt (toBytes 2 n ++ r) (k + 2) = halfAt r k := rfl

theorem byteAt_behind (n k : Nat) (r : List Byte) : byteAt (toBytes 2 n ++ r) (k + 2) = byteAt r k := rfl

/-- The 12 bytes of a stamp that its check covers. -/
def stampBody (st : StampRecord) : List Byte :=
  toBytes 2 st.sequence.toNat ++ toBytes 2 st.day.toNat ++ toBytes 2 st.trip.toNat
    ++ toBytes 2 st.stop.toNat ++ toBytes 2 st.conductor.toNat ++ [st.place, st.rides]

theorem stampBody_length (st : StampRecord) : (stampBody st).length = 12 := by simp [stampBody, toBytes_length]

theorem stampBytes_eq (st : StampRecord) : stampBytes st = stampBody st ++ toBytes 4 (crc32 (stampBody st)).toNat := rfl

theorem readStamp_stampBytes (st : StampRecord) : readStamp (stampBytes st) = st := by
  simp only [readStamp, stampBytes, List.append_assoc, halfAt_toBytes, halfAt_behind, byteAt_behind]
  rfl

theorem exec_journalClaim_reserve {ring : Ring} {s : State} (hring : s.jnw.ring = some ring) (hq : s.jnw.queue = [.reserve])
    (hserv : s.jnw.service = .markRead 0x5A) :
    exec .journalClaim s = settled (grantClaim .reserve ring s) := by
  have hpart : serveClaim .reserve 0x5A ring s = grantClaim .reserve ring s := if_pos rfl
  simp only [exec, execJournalClaim, hserv, hq, hring, isClaim, if_true, hpart]

/-- R151: the last job leaves, and no service begins. -/
theorem popJob_last {s : State} {j : JournalJob} (hq : s.jnw.queue = [j]) :
    popJob s = { s with jnw := { s.jnw with queue := [], service := .idle } } := by
  simp only [popJob, hq, List.tail_cons, serveNext]

theorem beginStamping_head {s : State} {h : HeldTask} {rest : List HeldTask} {d : Draft} {p : RidePlan} (n : Word)
    (hh : s.clk.hold = h :: rest) (hn : h.slot ∉ rest.map HeldTask.slot) (hs : h.session = .deciding d p .awaitReservation) :
    beginStamping n s = { s with clk := { s.clk with
      hold := { h with session := .stamping .put d p } :: rest, tries := 1
      pendingStamp := some ⟨p.old, composeStamp p, n⟩ } } := by
  simp only [beginStamping, hh, hs]
  rw [setSession_head _ (by rfl) hn]
  rfl

/-- Settles O31: the grant of the mark PART takes the cursor entry and composes the stamp, whose bytes read back. -/
theorem reservationGrantedComposesTheStamp : Obligations.ReservationGrantedComposesTheStamp := by
  unfold Obligations.ReservationGrantedComposesTheStamp
  intro h rest d p ring s hport hh hn hs hring hq hserv stamp
  obtain ⟨ha, hbus⟩ := (portRule_iff s).mp hport
  refine ⟨?_, ?_, readStamp_stampBytes stamp, ?_⟩
  · rw [exec_journalClaim_reserve hring hq hserv]
    simp only [grantClaim]
    rw [popJob_last (by exact hq), beginStamping_head _ (by exact hh) hn hs]
    exact settled_none ha hbus
  · simp [stampBytes_eq, stampBody_length, toBytes_length]
  · have hword := wordAt_toBytes (crc32 (stampBody stamp)) []
    have htake : (stampBytes stamp).take 12 = stampBody stamp := List.take_left' (stampBody_length stamp)
    have hdrop : (stampBytes stamp).drop 12 = toBytes 4 (crc32 (stampBody stamp)).toNat := List.drop_left' (stampBody_length stamp)
    rw [List.append_nil, wordAt, List.drop_zero] at hword
    rw [wordAt, htake, hdrop, hword]

end Sys2Proof.Proofs.CardSessions
end

section
/-! SUPPORT. The requests of slots (R130, R176, R177): obligation O32. -/

namespace Sys2Proof.Proofs.Requests

open Sys2Proof Sys2Proof.Machine

/-! ### Fields of one byte -/

theorem yesNo_eq (x : Byte) : yesNo x = if x = 0 ∨ x = 1 then some (x == 1) else none := by
  revert x
  decide

theorem seatedClass_eq (x : Byte) : seatedClass x = if x = 1 ∨ x = 2 then some x.toNat else none := by
  revert x
  decide

/-- A field with two codes, before the fields that follow it. -/
theorem oneTwo_bind {α β : Type} (x : Byte) (a b : α) (f : α → Option β) :
    (if x = 1 then some a >>= f else if x = 2 then some b >>= f else none >>= f)
      = if x = 1 ∨ x = 2 then f (if x = 1 then a else b) else none := by
  by_cases h1 : x = 1
  · rw [if_pos h1, if_pos (.inl h1), if_pos h1]
    rfl
  · by_cases h2 : x = 2
    · rw [if_neg h1, if_pos h2, if_pos (.inr h2), if_neg h1]
      rfl
    · rw [if_neg h1, if_neg h2, if_neg (not_or.mpr ⟨h1, h2⟩)]
      rfl

theorem bind_ite_some {α β : Type} (c : Prop) [Decidable c] (x : α) (f : α → Option β) :
    ((if c then some x else none) >>= f) = if c then f x else none := by
  split <;> rfl

theorem minuteOk_iff (m : Half) : minuteOk m = true ↔ m.toNat ≤ 2879 := decide_eq_true_iff

theorem byte_toNat_zero (x : Byte) : x.toNat = 0 ↔ x = 0 := by
  rw [← BitVec.toNat_inj]
  rfl

/-! ### A request is read where its fields are good -/

/-- The slot holds a good task. -/
def Good (slots : Nat) (b : List Byte) : Prop := readSlot slots b ≠ .badKind ∧ ∀ k, readSlot slots b ≠ .badField k

section
variable {slots : Nat} {b : List Byte} {k : TaskKind} {r : Request}

theorem readSlot_good (hk : taskKind (byteAt b 1) = some k) (hr : readRequest slots k b = some r) :
    readSlot slots b = .good r := by
  simp only [readSlot, hk, hr]

theorem readSlot_badField (hk : taskKind (byteAt b 1) = some k) (hr : readRequest slots k b = none) :
    readSlot slots b = .badField k := by
  simp only [readSlot, hk, hr]

theorem readSlot_badKind_iff : readSlot slots b = .badKind ↔ taskKind (byteAt b 1) = none := by
  unfold readSlot
  split
  · simp [*]
  · split <;> simp [*]

theorem good_of (h : readSlot slots b = .good r) : Good slots b := by
  rw [Good, h]
  exact ⟨fun h => (by cases h), fun k h => (by cases h)⟩

/-- R130: a task of a known kind is good exactly where its fields are, and is then the request read. -/
theorem good_iff {c : Prop} [Decidable c] (hk : taskKind (byteAt b 1) = some k)
    (hr : readRequest slots k b = if c then some r else none) :
    (Good slots b ↔ c) ∧ (Good slots b → readSlot slots b = .good r) := by
  by_cases hc : c
  · have hgood := readSlot_good hk (hr.trans (if_pos hc))
    exact ⟨⟨fun _ => hc, fun _ => good_of hgood⟩, fun _ => hgood⟩
  · have hbad := readSlot_badField hk (hr.trans (if_neg hc))
    have hnot : ¬ Good slots b := fun ⟨_, h⟩ => h k hbad
    exact ⟨⟨fun h => absurd h hnot, fun h => absurd h hc⟩, fun h => absurd h hnot⟩

/-- The same, the condition as the table states it. -/
theorem good_iff_of {c d : Prop} [Decidable c] (hk : taskKind (byteAt b 1) = some k)
    (hr : readRequest slots k b = if c then some r else none) (hcd : c ↔ d) :
    (Good slots b ↔ d) ∧ (Good slots b → readSlot slots b = .good r) :=
  ⟨(good_iff hk hr).1.trans hcd, (good_iff hk hr).2⟩

end

/-! ### The requests of each kind -/

section
variable (b : List Byte)

theorem readCardInspect_eq : readCardInspect b =
    if (byteAt b 5 = 1 ∨ byteAt b 5 = 2) ∧ (byteAt b 6 = 0 ∨ byteAt b 6 = 1) ∧ (byteAt b 4).toNat ≤ 30 then
      some (.cardInspect
        ⟨if byteAt b 4 = 0 then 10 else (byteAt b 4).toNat, (byteAt b 5).toNat, byteAt b 6 == 1⟩)
    else none := by
  simp only [readCardInspect, seatedClass_eq, yesNo_eq, bind_ite_some, byte_toNat_zero, ← ite_and]

theorem readTokenInspect_eq : readTokenInspect b =
    if (byteAt b 8 = 1 ∨ byteAt b 8 = 2) ∧ (byteAt b 9 = 0 ∨ byteAt b 9 = 1) then
      some (.tokenInspect ⟨wordAt b 4, (byteAt b 8).toNat, byteAt b 9 == 1⟩)
    else none := by
  simp only [readTokenInspect, seatedClass_eq, yesNo_eq, bind_ite_some, ← ite_and]

theorem readRoute_eq : readRoute b =
    if (byteAt b 4 = 1 ∨ byteAt b 4 = 2) ∧ halfAt b 6 ≠ 0 ∧ minuteOk (halfAt b 10) = true then
      some (.route ⟨if byteAt b 4 = 1 then .newTrip else .continueTrip, halfAt b 6, halfAt b 8, halfAt b 10, halfAt b 12,
        (halfAt b 14).toNat, wordAt b 16⟩)
    else none := by
  simp only [readRoute, oneTwo_bind, ← ite_and]

theorem readPosition_eq : readPosition b =
    if (byteAt b 4 = 1 ∨ byteAt b 4 = 2) ∧ (byteAt b 8 = 0 ∨ byteAt b 8 = 1)
        ∧ stopCodeOk (halfAt b 6) = true ∧ (byteAt b 8 = 1 → minuteOk (halfAt b 10) = true) then
      some (.position ⟨if byteAt b 4 = 1 then .arrive else .depart, halfAt b 6,
        if byteAt b 8 = 1 then some (halfAt b 10) else none⟩)
    else none := by
  simp only [readPosition, oneTwo_bind, yesNo_eq, bind_ite_some, beq_iff_eq, ← ite_and]

theorem readDenyReplace_eq : readDenyReplace b =
    if (byteAt b 6 = 0 ∨ byteAt b 6 = 1) ∧ (byteAt b 7 = 0 ∨ byteAt b 7 = 1)
        ∧ wordAt b 8 ≠ 0 ∧ (halfAt b 12).toNat ≤ 256 then
      some (.denyReplace
        ⟨(halfAt b 4).toNat, byteAt b 6 == 1, byteAt b 7 == 1, wordAt b 8, (halfAt b 12).toNat, wordAt b 16⟩)
    else none := by
  simp only [readDenyReplace, yesNo_eq, bind_ite_some, ← ite_and]
  rfl

theorem readDenyDelta_eq : readDenyDelta b =
    if (byteAt b 6 = 0 ∨ byteAt b 6 = 1) ∧ (byteAt b 7 = 0 ∨ byteAt b 7 = 1) ∧ (byteAt b 12).toNat ≤ 128 then
      some (.denyDelta
        ⟨(halfAt b 4).toNat, byteAt b 6 == 1, byteAt b 7 == 1, wordAt b 8, (byteAt b 12).toNat, wordAt b 16⟩)
    else none := by
  simp only [readDenyDelta, yesNo_eq, bind_ite_some, ← ite_and]
  rfl

theorem readKeyLoad_eq : readKeyLoad b =
    if (byteAt b 5 = 0 ∨ byteAt b 5 = 1) ∧ (byteAt b 4).toNat < 8 then
      some (.keyLoad (byteAt b 4).toNat (byteAt b 5 == 1) (wordAt b 8))
    else none := by
  simp only [readKeyLoad, yesNo_eq, bind_ite_some, ← ite_and]
  rfl

theorem readPower_doze (h : (byteAt b 4).toNat = 3) : readPower b =
    if (byteAt b 8 = 0 ∨ byteAt b 8 = 1) ∧ 1 ≤ (halfAt b 6).toNat ∧ (halfAt b 6).toNat ≤ 600 then
      some (.power .doze (halfAt b 6).toNat (byteAt b 8 == 1))
    else none := by
  simp only [readPower, h, yesNo_eq, bind_ite_some, ← ite_and]

theorem readPower_none (h : ¬ (1 ≤ (byteAt b 4).toNat ∧ (byteAt b 4).toNat ≤ 4)) : readPower b = none := by
  unfold readPower
  split
  case h_5 => rfl
  all_goals omega

end

theorem stopCodeOk_iff (c : Half) : stopCodeOk c = true ↔ c ≠ 0 ∧ c ≠ 65535 := by
  simp [stopCodeOk, Config.invalidStop]

theorem target_codes : ∀ x : Byte, 1 ≤ x.toNat ∧ x.toNat ≤ 4 → x = 1 ∨ x = 2 ∨ x = 3 ∨ x = 4 := by decide

/-- R160: the targets of POWER; wake period and card-near wake are read for DOZE alone. -/
theorem power_read {slots : Nat} {b : List Byte} (hk : taskKind (byteAt b 1) = some .power) :
    (Good slots b ↔ (1 ≤ (byteAt b 4).toNat ∧ (byteAt b 4).toNat ≤ 4)
      ∧ (byteAt b 4 = 3 → 1 ≤ (halfAt b 6).toNat ∧ (halfAt b 6).toNat ≤ 600 ∧ (byteAt b 8 = 0 ∨ byteAt b 8 = 1)))
    ∧ (byteAt b 4 = 1 → readSlot slots b = .good (.power .run 0 false))
    ∧ (byteAt b 4 = 2 → readSlot slots b = .good (.power .reduced 0 false))
    ∧ (byteAt b 4 = 3 → Good slots b → readSlot slots b = .good (.power .doze (halfAt b 6).toNat (byteAt b 8 == 1)))
    ∧ (byteAt b 4 = 4 → readSlot slots b = .good (.power .sleep 0 false)) := by
  have hcode {x : Byte} (h : byteAt b 4 = x) {r : Request} (hr : (byteAt b 4).toNat = x.toNat → readPower b = some r) :
      readSlot slots b = .good r := readSlot_good hk (hr (congrArg BitVec.toNat h))
  have hrun (h : byteAt b 4 = 1) : readSlot slots b = .good (.power .run 0 false) :=
    hcode h fun hn => by simp [readPower, hn]
  have hreduced (h : byteAt b 4 = 2) : readSlot slots b = .good (.power .reduced 0 false) :=
    hcode h fun hn => by simp [readPower, hn]
  have hsleep (h : byteAt b 4 = 4) : readSlot slots b = .good (.power .sleep 0 false) :=
    hcode h fun hn => by simp [readPower, hn]
  have hdoze (h : byteAt b 4 = 3) := good_iff (slots := slots) hk (readPower_doze b (congrArg BitVec.toNat h))
  refine ⟨?_, hrun, hreduced, fun h => (hdoze h).2, hsleep⟩
  by_cases hrange : 1 ≤ (byteAt b 4).toNat ∧ (byteAt b 4).toNat ≤ 4
  · rcases target_codes _ hrange with h | h | h | h
    · exact iff_of_true (good_of (hrun h)) ⟨hrange, fun h3 => by simp [h] at h3⟩
    · exact iff_of_true (good_of (hreduced h)) ⟨hrange, fun h3 => by simp [h] at h3⟩
    · rw [(hdoze h).1]
      exact ⟨fun ⟨hy, hlo, hhi⟩ => ⟨hrange, fun _ => ⟨hlo, hhi, hy⟩⟩,
        fun ⟨_, hfields⟩ => (hfields h).elim fun hlo ⟨hhi, hy⟩ => ⟨hy, hlo, hhi⟩⟩
    · exact iff_of_true (good_of (hsleep h)) ⟨hrange, fun h3 => by simp [h] at h3⟩
  · have hbad := readSlot_badField (slots := slots) hk (readPower_none b hrange)
    exact iff_of_false (fun h => h.2 _ hbad) fun h => hrange h.1

/-- Settles O32: the kind's code chooses the table, and each field of the request is read and tested at its offset. -/
theorem requestsAreReadByTheTable : Obligations.RequestsAreReadByTheTable := by
  unfold Obligations.RequestsAreReadByTheTable
  intro slots b kind yes class12 good
  have hkind {n : Nat} (h : kind = n) : taskKind (byteAt b 1) = taskKind (BitVec.ofNat 8 n) := by
    rw [← h]
    simp [kind]
  refine ⟨?_, fun h => ?_, fun h => ?_, fun h => ?_, fun h => ?_, fun h => ?_, fun h => ?_, fun h => ?_, fun h => ?_,
    fun h => ?_, fun h => ?_, fun h => ?_, fun h => ?_, fun h => ?_, fun h => ?_, fun h => ?_, fun h => ?_⟩
  · exact readSlot_badKind_iff.trans (ScanRules.taskKind_none_iff _)
  all_goals have hk := hkind h
  · exact good_iff_of hk (readCardInspect_eq b) (by tauto)
  · exact good_iff_of hk (readTokenInspect_eq b) Iff.rfl
  · refine good_iff_of hk (readRoute_eq b) ?_
    rw [minuteOk_iff]
  · refine good_iff_of hk (readPosition_eq b) ?_
    rw [minuteOk_iff, stopCodeOk_iff]
    tauto
  · exact good_iff_of hk (readDenyReplace_eq b) (by tauto)
  · exact good_iff_of hk (readDenyDelta_eq b) (by tauto)
  · exact readSlot_good hk rfl
  · exact good_iff hk rfl
  · exact good_iff hk rfl
  · exact readSlot_good hk rfl
  · exact power_read hk
  · exact good_iff hk rfl
  · refine good_iff_of hk (readKeyLoad_eq b) ?_
    exact and_comm.trans (and_congr_left' Nat.lt_succ_iff)
  · refine good_iff_of hk (c := (byteAt b 4).toNat < 8) rfl ?_
    omega
  · exact readSlot_good hk rfl
  · exact readSlot_good hk rfl

end Sys2Proof.Proofs.Requests
end

section
/-! SUPPORT. Keys, STATUS and IDENTIFY (R170 to R174): obligation O48. -/

namespace Sys2Proof.Proofs.KeysAndStatus

open Sys2Proof Sys2Proof.Machine RunStates ScanRules HoldEnds TaskRules

theorem setKey_keys (slot : Nat) (key : Option (List Byte)) (v : VerdictEngine) (k : Fin 8) :
    (setKey slot key v).keys[k] = if k.val = slot then key else v.keys[k] := by
  simp [setKey, Vector.getElem_setIfInBounds, eq_comm]

theorem keyServed_refused {sc : Scan} {tag : Half} {slot : Nat} {replace : Bool} {key : List Byte} {s : State}
    (hl : keyLoaded slot s.ven = true) (hr : replace = false) :
    keyServed sc tag slot replace key s = completeTask sc tag (keyLoadAnswer (some .slotLoaded) s.ven) none s := by
  simp [keyServed, hl, hr]

theorem keyServed_taken {sc : Scan} {tag : Half} {slot : Nat} {replace : Bool} {key : List Byte} {s : State}
    (h : keyLoaded slot s.ven = false ∨ replace = true) :
    keyServed sc tag slot replace key s = completeTask sc tag (keyLoadAnswer none (setKey slot (some key) s.ven)) none
      { s with ven := setKey slot (some key) s.ven } := by
  rw [keyServed, if_neg]
  rcases h with h | h <;> simp [h]

/-- R172: the state in which the blocks that answer give their parts: the Field Monitor's is a measurement. -/
def asMeasured (d : Int) (now : List StatusBlock) (s : State) : State :=
  if now.contains .fieldMonitor ∧ tempQuiet d s.fmn = true then { s with fmn := { s.fmn with dieTemp := d } } else s

theorem asMeasured_eq (d : Int) (now : List StatusBlock) (s : State) :
    (if now.contains .fieldMonitor then Machine.measure d s else s) = asMeasured d now s := by
  unfold asMeasured Machine.measure
  by_cases hn : now.contains .fieldMonitor = true
  · simp only [hn, if_true, true_and]
  · simp only [hn, Bool.false_eq_true, if_false, false_and]

theorem asMeasured_frame (d : Int) (now : List StatusBlock) (s : State) :
    asMeasured d now s = { s with fmn := (asMeasured d now s).fmn } := by
  unfold asMeasured
  split <;> rfl

/-- R172: what follows when the blocks named have given their parts. -/
theorem settled_statusAsked (sc : Scan) (t : Task) (address : Word) (d : Int) (limit : Bool) (asks left : List StatusBlock)
    (r : StatusRecord) {s : State} (ha : s.mpt.asked = []) :
    ∃ u, settled (statusAsked sc t address d limit asks left r s) = .next u
      ∧ u = { asMeasured d (left.filter fun k => statusDue asks s k) s with mpt := u.mpt, ssc := u.ssc }
      ∧ ((left.filter fun k => !statusDue asks s k) = [] → ServesOn sc t .recordWrite
        (writeOf .scan address (statusBytes (statusParts limit (asMeasured d (left.filter fun k => statusDue asks s k) s)
          (left.filter fun k => statusDue asks s k) r))) s u)
      ∧ ((left.filter fun k => !statusDue asks s k) ≠ [] → u.mpt = busAfter u s.mpt []
        ∧ u.ssc = { s.ssc with scan := some { sc with phase := .serving t (.statusAsk (left.filter fun k => !statusDue asks s k)
            (statusParts limit (asMeasured d (left.filter fun k => statusDue asks s k) s)
              (left.filter fun k => statusDue asks s k) r)) } }) := by
  simp only [statusAsked, asMeasured_eq, List.isEmpty_iff]
  generalize left.filter (fun k => statusDue asks s k) = now
  generalize left.filter (fun k => !statusDue asks s k) = rest
  have hmpt : (asMeasured d now s).mpt = s.mpt := by rw [asMeasured_frame]
  have hssc : (asMeasured d now s).ssc = s.ssc := by rw [asMeasured_frame]
  have hask : (asMeasured d now s).mpt.asked = [] := by rw [hmpt, ha]
  by_cases hrest : rest = []
  · rw [if_pos hrest]
    refine ⟨_, settled_ask_bus hask, rfl, fun _ => ⟨?_, ?_⟩, fun h => absurd hrest h⟩
    · exact hmpt ▸ rfl
    · exact hssc ▸ rfl
  · rw [if_neg hrest]
    refine ⟨_, settled_bus_nil hask, rfl, fun h => absurd h hrest, fun _ => ⟨?_, ?_⟩⟩
    · exact hmpt ▸ rfl
    · exact hssc ▸ rfl

/-- Settles O48: a key is taken or refused, and STATUS and IDENTIFY write their records and answer. -/
theorem keysStatusAndIdentity : Obligations.KeysStatusAndIdentity := by
  unfold Obligations.KeysStatusAndIdentity
  intro sc tag s ha
  refine ⟨fun data slot replace address hans hg => ?_, fun slot hin hslot => ?_, fun address d limit asks => ?_,
    fun address hin => ?_, fun req hreq hans hg => ?_⟩
  · intro u hslot
    rw [exec_servingAnswered hans hg]
    simp only [servingGoesOn]
    by_cases hl : keyLoaded slot s.ven = true ∧ replace = false
    · rw [keyServed_refused (by exact hl.1) hl.2]
      refine ⟨_, settled_completeTask ha, fun _ _ => ⟨⟨rfl, rfl⟩, rfl⟩, fun h => ?_⟩
      simp [hl] at h
    · have htaken : keyLoaded slot s.ven = false ∨ replace = true := by
        cases hk : keyLoaded slot s.ven <;> simp_all
      rw [keyServed_taken (by exact htaken)]
      exact ⟨_, settled_completeTask ha, fun hk hr => absurd ⟨hk, hr⟩ hl,
        fun _ => ⟨setKey_keys slot (some data) s.ven, ⟨rfl, rfl⟩, rfl⟩⟩
  · simp only [exec, execKeyClear, handedTask_of hin]
    exact ⟨_, settled_completeTask ha, setKey_keys slot none s.ven, ⟨rfl, rfl⟩, rfl⟩
  · intro task asked
    refine ⟨fun hin => ?_, fun left r hg => ?_⟩
    · have hhand : handedTask s = some (sc, ⟨tag, .status address⟩) := handedTask_of hin
      have hexec : exec (.status d limit asks) s
          = settled (statusAsked sc task address d limit asks StatusBlock.all {} s) := by
        simp only [exec, execStatus, hhand, task]
      have hasked := settled_statusAsked sc task address d limit asks StatusBlock.all {} ha
      rw [← hexec] at hasked
      exact hasked
    · have hserved : servedTask s = some (sc, ⟨tag, .status address⟩, .statusAsk left r) := (servedTask_iff ..).mpr hg
      have hexec : exec (.status d limit asks) s = settled (statusAsked sc task address d limit asks left r s) := by
        simp only [exec, execStatus, handedTask_serving hg, hserved, task]
      have hasked := settled_statusAsked sc task address d limit asks left r ha
      rw [← hexec] at hasked
      exact hasked
  · simp only [exec, execIdentify, handedTask_of hin]
    exact ⟨_, settled_ask_bus ha, ⟨rfl, rfl⟩, rfl⟩
  · have hgo (u : State) : servingGoesOn sc ⟨tag, req⟩ .recordWrite [] u = completeTask sc tag (okAnswer []) none u := by
      obtain ⟨a, rfl | rfl⟩ := hreq <;> rfl
    rw [exec_servingAnswered hans hg, hgo]
    exact ⟨_, settled_completeTask ha, ⟨rfl, rfl⟩, rfl⟩

end Sys2Proof.Proofs.KeysAndStatus
end

section
/-! SUPPORT. What the records and the answer of an inspection hold, byte by byte (R3, R6, R26 to R29, R62, R148, R173, R174, R177):
obligation O49. -/

namespace Sys2Proof.Proofs.Records

open Sys2Proof Sys2Proof.Machine CardSessions

/-! ### Fields at their offsets -/

section
variable {b : List Byte} {k : Nat}

theorem byteAt_stored {v : Byte} (h : byteAt b k = BitVec.ofNat 8 v.toNat) : byteAt b k = v := by
  rw [h]
  simp

theorem halfAt_field {n : Nat} (h : (b.drop k).take 2 = toBytes 2 n) : halfAt b k = BitVec.ofNat 16 n := by
  rw [halfAt, h, leNat_toBytes]
  apply BitVec.eq_of_toNat_eq
  simp

theorem halfAt_stored {v : Half} (h : (b.drop k).take 2 = toBytes 2 v.toNat) : halfAt b k = v := by
  rw [halfAt_field h]
  simp

theorem wordAt_stored {v : Word} (h : (b.drop k).take 4 = toBytes 4 v.toNat) : wordAt b k = v := by
  rw [wordAt, h, leNat_toBytes]
  apply BitVec.eq_of_toNat_eq
  simp only [BitVec.toNat_ofNat]
  omega

theorem credAt_stored {v : Cred} (h : (b.drop k).take 8 = credBytes v) : credAt b k = v := by
  rw [credAt, h, credBytes, leNat_toBytes]
  apply BitVec.eq_of_toNat_eq
  simp only [BitVec.toNat_ofNat]
  omega

/-- Reserved bytes, and those beyond the end, are 0. -/
theorem byteAt_zeros {n : Nat} (h : b.drop k = List.replicate n 0) {i : Nat} (hi : k ≤ i) : byteAt b i = 0 := by
  obtain ⟨j, rfl⟩ := Nat.exists_eq_add_of_le hi
  have hget : b[k + j]? = (List.replicate n (0 : Byte))[j]? := by rw [← h, List.getElem?_drop]
  rw [byteAt, List.getD_eq_getElem?_getD, hget, List.getElem?_replicate]
  split <;> rfl

end

/-- R177: the mark at a bit. -/
theorem marks_getLsbD (l : List Bool) {k : Nat} (hk : k < 8) : (marks l).getLsbD k = (l[k]?).getD false := by
  induction l generalizing k with
  | nil => simp [marks]
  | cons m l ih =>
    cases k with
    | zero => cases m <;> simp [marks]
    | succ k =>
      have hlow : (if m then (1 : Byte) else 0).getLsbD (k + 1) = false := by cases m <;> simp
      have hshift : (marks l <<< 1).getLsbD (k + 1) = (marks l).getLsbD k := by
        rw [BitVec.getLsbD_shiftLeft]
        simp only [hk, decide_true, Bool.true_and, Nat.add_sub_cancel, Nat.not_lt.mpr (Nat.le_add_left 1 k),
          decide_false, Bool.not_false]
      rw [marks, BitVec.getLsbD_or, hlow, hshift, ih (Nat.lt_of_succ_lt hk), List.getElem?_cons_succ, Bool.false_or]

/-! ### The status record (R172, R173) -/

/-- The parts of the blocks come in any order. -/
theorem statusPart_comm (limit : Bool) (f : StatusBlock → State) (r : StatusRecord) (x y : StatusBlock) :
    statusPart limit (f y) y (statusPart limit (f x) x r) = statusPart limit (f x) x (statusPart limit (f y) y r) := by
  cases x <;> cases y <;> rfl

/-- R173: the record of the eight parts. -/
def statusRecord (limit : Bool) (f : StatusBlock → State) : StatusRecord :=
  StatusBlock.all.foldl (fun r k => statusPart limit (f k) k r) {}

theorem statusRecord_perm {limit : Bool} {f : StatusBlock → State} {order : List StatusBlock}
    (h : order.Perm StatusBlock.all) : order.foldl (fun r k => statusPart limit (f k) k r) {} = statusRecord limit f :=
  h.foldl_eq' (fun x _ y _ r => statusPart_comm limit f r x y) {}

theorem keyLoaded_bit (v : VerdictEngine) (k : Fin 8) : (loadedSlots v).getLsbD k = keyLoaded k v := by
  rw [loadedSlots, marks_getLsbD _ k.isLt, keyLoaded]
  simp

/-! ### Codes -/

theorem deniedDetail_bytes (r : DenyReason) (a : DenyAction) :
    halfAt [denyReasonCode r, denyActionCode a] 0 = deniedDetail r a := by
  cases r <;> cases a <;> rfl

theorem ofNat_bit_iff (p : Bool) : BitVec.ofNat 8 (bit p) = 1 ↔ p = true := by
  cases p <;> decide

/-! ### The answer of an inspection (R26 to R29) -/

/-- The bytes of the seen details, 0 where there are none. -/
def seenBytes (x : Option SeenDetails) : List Byte :=
  match x with
  | none => List.replicate 6 0
  | some x => toBytes 2 x.firstStop.toNat ++ toBytes 2 x.firstMinute.toNat ++ [sourceCode x.source, x.count]

/-- The bytes of the chosen place, 0 where there is none. -/
def chosenBytes (x : Option Chosen) : List Byte :=
  match x with
  | none => [0, 0, 0]
  | some c => [BitVec.ofNat 8 c.place, c.classCode, c.party]

/-- The presence marks of an inspection's answer. -/
def presenceMarks (d : Draft) : List Bool :=
  [d.reason.isSome, d.cred.isSome, d.places.isSome, d.chosen.isSome, d.ridesLeft.isSome, d.denyReason.isSome,
    d.journalSerial.isSome, d.resolutionSerial.isSome]

/-- The bytes of the slot from its start, the answer laid out with its three bytes for places and for the chosen place. -/
def answerSlot (tag : Half) (d : Draft) (places chosen seen : List Byte) : List Byte :=
  List.replicate 24 (0 : Byte) ++ ([completionCode .ok, 0] ++ toBytes 2 tag.toNat ++ [0, marks (presenceMarks d)]
    ++ ([verdictCode d.verdict, (d.reason.map verdictReasonCode).getD 0] ++ credBytes (d.cred.getD 0) ++ places ++ chosen
      ++ [d.ridesLeft.getD 0, (d.denyReason.map denyReasonCode).getD 0, (d.denyAction.map denyActionCode).getD 0,
        answerFlagsByte d.flags]
      ++ toBytes 4 ((d.journalSerial.getD 0).toNat) ++ toBytes 4 ((d.resolutionSerial.getD 0).toNat) ++ seen))

/-- The codes of the three record places. -/
def placeBytes (d : Draft) : List Byte := padTo 3 ((d.places.getD []).map placeCode)

theorem padTo_length (n : Nat) (l : List Byte) : (padTo n l).length = n := by simp [padTo]

theorem chosenBytes_length (x : Option Chosen) : (chosenBytes x).length = 3 := by cases x <;> rfl

theorem seenBytes_length (x : Option SeenDetails) : (seenBytes x).length = 6 := by cases x <;> rfl

theorem answerSlot_eq (tag : Half) (d : Draft) :
    List.replicate 24 (0 : Byte) ++ answerBytes tag (inspectionAnswer d)
      = answerSlot tag d (placeBytes d) (chosenBytes d.chosen) (seenBytes d.seen) := by
  obtain ⟨p0, p1, p2, hp⟩ := List.length_eq_three.mp (padTo_length 3 ((d.places.getD []).map placeCode))
  obtain ⟨c0, c1, c2, hc⟩ := List.length_eq_three.mp (chosenBytes_length d.chosen)
  have hfields : (inspectionAnswer d).fields = [verdictCode d.verdict, (d.reason.map verdictReasonCode).getD 0]
      ++ credBytes (d.cred.getD 0) ++ placeBytes d ++ chosenBytes d.chosen
      ++ [d.ridesLeft.getD 0, (d.denyReason.map denyReasonCode).getD 0, (d.denyAction.map denyActionCode).getD 0,
        answerFlagsByte d.flags]
      ++ toBytes 4 ((d.journalSerial.getD 0).toNat) ++ toBytes 4 ((d.resolutionSerial.getD 0).toNat)
      ++ (if d.seen.isSome then seenBytes d.seen else []) := by
    unfold inspectionAnswer
    cases d.seen <;> rfl
  rw [answerBytes, hfields, placeBytes, hp, hc]
  cases hs : d.seen <;> rfl

/-- Settles O49: each field is stored at its offset, and read back from there. -/
theorem statusAndIdentityRecordsHoldTheirFields : Obligations.StatusAndIdentityRecordsHoldTheirFields := by
  unfold Obligations.StatusAndIdentityRecordsHoldTheirFields
  refine ⟨fun limit f => ?_, ?_, fun serial e => ?_, rfl, rfl, rfl, deniedDetail_bytes, rfl, rfl, fun r => ?_, rfl, rfl,
    fun tag d => ?_, rfl, rfl, fun f => ⟨rfl, rfl⟩, rfl, rfl, rfl, fun b => ⟨fun h => if_pos h, fun h => if_neg h, ?_⟩, rfl,
    fun records => ⟨rfl, fun p hp => ?_⟩⟩
  · intro record b n mpt rcx dnl snt jnw fmn
    have hform : byteAt b 4 = n (positionForm rcx.position) := rfl
    have hindex : byteAt b 5 = n (positionIndex rcx.position) := rfl
    have hstop : halfAt b 6 = currentStop rcx := halfAt_stored rfl
    have hstaged : halfAt b 18 = BitVec.ofNat 16 ((dnl.staging.map fun x => x.ops.length).getD 0) := halfAt_field rfl
    refine ⟨fun order h => statusRecord_perm h, rfl, rfl, rfl, rfl, ?_, fun hp => ⟨?_, ?_, ?_⟩, fun k hp => ⟨?_, ?_⟩,
      fun k hp => ⟨?_, ?_⟩, hstop, halfAt_stored rfl, halfAt_stored rfl, halfAt_stored rfl, ofNat_bit_iff rcx.stale, rfl,
      halfAt_stored rfl, fun h => ?_, fun st h => ?_, wordAt_stored rfl, halfAt_field rfl, halfAt_field rfl, wordAt_stored rfl,
      halfAt_field rfl, rfl, fun k => ?_, wordAt_stored rfl, wordAt_stored rfl, wordAt_stored rfl, wordAt_stored rfl,
      byteAt_stored rfl, byteAt_stored rfl, halfAt_stored rfl, fun i hi => byteAt_zeros (n := 8) rfl hi⟩
    · exact (ofNat_bit_iff (rcx.state == .active)).trans beq_iff_eq
    · rw [hform, hp]
      rfl
    · rw [hindex, hp]
      rfl
    · simp only [hstop, currentStop, hp]
    · rw [hform, hp]
      rfl
    · rw [hindex, hp]
      rfl
    · rw [hform, hp]
      rfl
    · rw [hindex, hp]
      rfl
    · rw [hstaged, h]
      rfl
    · rw [hstaged, h]
      rfl
    · rw [byteAt_stored (b := b) (k := 35) (v := loadedSlots (f .verdictEngine).ven) rfl]
      exact keyLoaded_bit _ k
  · intro x
    refine ⟨rfl, rfl, rfl, rfl, rfl, rfl, rfl, rfl, rfl, rfl, rfl, rfl, rfl, rfl, rfl, rfl, rfl,
      fun i hi => byteAt_zeros (n := 8) rfl hi⟩
  · intro b
    exact ⟨rfl, rfl, rfl, rfl, wordAt_stored rfl, credAt_stored rfl, halfAt_stored rfl, halfAt_stored rfl, halfAt_stored rfl,
      halfAt_stored rfl, halfAt_stored rfl, halfAt_stored rfl, fun i hi => byteAt_zeros (n := 4) rfl hi⟩
  · intro b
    exact ⟨rfl, credAt_stored rfl, wordAt_stored rfl, rfl, rfl, rfl, rfl, halfAt_stored rfl, halfAt_stored rfl,
      halfAt_stored rfl, rfl, fun i hi => byteAt_zeros (n := 9) rfl hi⟩
  · obtain ⟨p0, p1, p2, hp⟩ := List.length_eq_three.mp (padTo_length 3 ((d.places.getD []).map placeCode))
    obtain ⟨c0, c1, c2, hc⟩ := List.length_eq_three.mp (chosenBytes_length d.chosen)
    rw [answerSlot_eq, placeBytes, hp, hc]
    intro b marked flag
    have hmark (k : Nat) (hk : k < 8) : marked k = ((presenceMarks d)[k]?).getD false := marks_getLsbD _ hk
    have hflag (k : Nat) (hk : k < 8) : flag k = (([d.flags.checkProof, d.flags.listIncomplete, d.flags.listInvalid,
        d.flags.clockStale, d.flags.seenBefore, d.flags.uncertainResolved, d.flags.journalMissed])[k]?).getD false :=
      marks_getLsbD _ hk
    have hseen : b.drop 58 = seenBytes d.seen := rfl
    have hlen : b.length = 64 := by
      have hsum : b.length = (seenBytes d.seen).length + 58 := rfl
      rw [hsum, seenBytes_length]
    refine ⟨hlen, rfl, rfl, halfAt_stored rfl, rfl, rfl, hmark 0 (by decide), credAt_stored rfl, hmark 1 (by decide),
      fun q0 q1 q2 h => ?_, fun h => ?_, hmark 2 (by decide), fun c h => ?_, fun h => ?_, hmark 3 (by decide), rfl,
      hmark 4 (by decide), rfl, rfl, hmark 5 (by decide), hflag 0 (by decide), hflag 1 (by decide), hflag 2 (by decide),
      hflag 3 (by decide), hflag 4 (by decide), hflag 5 (by decide), hflag 6 (by decide), hflag 7 (by decide),
      wordAt_stored rfl, hmark 6 (by decide), wordAt_stored rfl, hmark 7 (by decide), fun x h => ?_, fun h i hi => ?_⟩
    · rw [h] at hp
      obtain ⟨h0, h1, h2⟩ : placeCode q0 = p0 ∧ placeCode q1 = p1 ∧ placeCode q2 = p2 := by simpa [padTo] using hp
      exact ⟨h0.symm, h1.symm, h2.symm⟩
    · rw [h] at hp
      obtain ⟨h0, h1, h2⟩ : 0 = p0 ∧ 0 = p1 ∧ 0 = p2 := by simpa [padTo] using hp
      exact ⟨h0.symm, h1.symm, h2.symm⟩
    · rw [h] at hc
      obtain ⟨h0, h1, h2⟩ : BitVec.ofNat 8 c.place = c0 ∧ c.classCode = c1 ∧ c.party = c2 := by simpa [chosenBytes] using hc
      exact ⟨h0.symm, h1.symm, h2.symm⟩
    · rw [h] at hc
      obtain ⟨h0, h1, h2⟩ : 0 = c0 ∧ 0 = c1 ∧ 0 = c2 := by simpa [chosenBytes] using hc
      exact ⟨h0.symm, h1.symm, h2.symm⟩
    · have hminute : b.drop 60 = (seenBytes d.seen).drop 2 := rfl
      have hsource : byteAt b 62 = byteAt (seenBytes d.seen) 4 := rfl
      have hcount : byteAt b 63 = byteAt (seenBytes d.seen) 5 := rfl
      rw [h] at hseen hminute hsource hcount
      exact ⟨halfAt_stored (by rw [hseen]; rfl), halfAt_stored (by rw [hminute]; rfl), hsource, hcount⟩
    · refine byteAt_zeros (n := 6) ?_ hi
      rw [hseen, h]
      rfl
  · intro st intact
    exact ⟨fun h => if_pos h, fun h => if_neg h⟩
  · have hget : (readPlaces records)[p]? = some ((records[p]?).bind readPlace) := by
      interval_cases p <;> rfl
    rw [hget]
    cases records[p]? <;> rfl

end Sys2Proof.Proofs.Records
end

section
/-! SUPPORT. POWER (R159 to R161, R165, R137): obligation O50. -/

namespace Sys2Proof.Proofs.PowerRules

open Sys2Proof Sys2Proof.Machine RunStates ScanRules HoldEnds TaskRules SenseRules

/-! ### The answer (R160) -/

theorem endsScan_iff (p : PowerState) : endsScan p = true ↔ p = .doze ∨ p = .sleep := by
  cases p <;> simp [endsScan]

theorem powerRefused_iff (target : PowerState) (s : State) : powerRefused target s = true ↔
    (target = .doze ∨ target = .sleep) ∧ (s.clk.hold ≠ [] ∨ s.mpt.runState = .halting) := by
  simp [powerRefused, endsScan_iff]

theorem powerWaits_iff (target : PowerState) (s : State) : powerWaits target s = true ↔
    (target = .doze ∨ target = .sleep) ∧ (s.jnw.queue ≠ [] ∨ s.jnw.service ≠ .idle ∨ s.jnw.reservation ≠ none
      ∨ s.snt.updates ≠ [] ∨ s.mpt.flight ≠ none ∨ s.mpt.waiting ≠ []) := by
  have hidle : busIdle s = true ↔ ¬ (s.jnw.queue ≠ [] ∨ s.jnw.service ≠ .idle ∨ s.jnw.reservation ≠ none
      ∨ s.snt.updates ≠ [] ∨ s.mpt.flight ≠ none ∨ s.mpt.waiting ≠ []) := by
    simp only [busIdle, journalQuiet, Bool.and_eq_true, List.isEmpty_iff, beq_iff_eq, Option.isNone_iff_eq_none, not_or,
      not_not, and_assoc]
  rw [powerWaits, Bool.and_eq_true, endsScan_iff, Bool.not_eq_true', ← Bool.not_eq_true, hidle, not_not]

/-! ### What follows the DONE (R161) -/

/-- R161: the state in which DONE has been written. -/
def doneMeets (s : State) : State :=
  { s with mpt := freeBus s, pev := { s.pev with events := s.pev.events ||| evTaskDone } }

theorem exec_doneAnswered {sc : Scan} {c : PowerChange} {s : State} (hans : ScanAnswered [] s) (hsc : s.ssc.scan = some sc)
    (hp : sc.phase = .writeDone (some c)) : exec (.memoryResponse []) s = settled (powerDone sc c (doneMeets s)) := by
  rw [exec_scanAnswered hans hsc]
  simp only [scanGoesOn, hp, doneWritten]
  rfl

theorem endPulse_eq (s : State) : endPulse s = if s.clk.holder = .sense then
    { s with clk := { s.clk with holder := .none }, fmn := { s.fmn with detected := false } } else s := rfl

theorem enterPower_awake {c : PowerChange} (h : c.target = .run ∨ c.target = .reduced) (s : State) :
    enterPower c s = { s with pev := { s.pev with power := c.target } } := by
  rcases h with h | h <;> simp only [enterPower, h]

theorem powerDone_stays {sc : Scan} {c : PowerChange} {s : State} (h : ¬ (c.target = .doze ∨ c.target = .sleep)) :
    powerDone sc c s = goOn sc { s with pev := { s.pev with power := c.target } } := by
  have hends : endsScan c.target = false := by rwa [← Bool.not_eq_true, endsScan_iff]
  have hawake : c.target = .run ∨ c.target = .reduced := by cases hc : c.target <;> simp_all
  rw [powerDone, if_neg (by simp [hends]), enterPower_awake hawake]

theorem powerDone_overtaken {sc : Scan} {c : PowerChange} {s : State} (h : c.target = .doze ∨ c.target = .sleep)
    (hr : s.mpt.runState ≠ .running) : powerDone sc c s = goOn sc s := by
  rw [powerDone, if_pos ((endsScan_iff _).mpr h), if_neg hr]

theorem powerDone_enters {sc : Scan} {c : PowerChange} {s : State} (h : c.target = .doze ∨ c.target = .sleep)
    (hr : s.mpt.runState = .running) : powerDone sc c s = endScanInto sc c s := by
  rw [powerDone, if_pos ((endsScan_iff _).mpr h), if_pos hr]

theorem endPulse_with (s : State) (m : MemoryPort) (x : SheetScanner) (p : PowerEvents) :
    endPulse { s with mpt := m, ssc := x, pev := p } = { endPulse s with mpt := m, ssc := x, pev := p } := by
  simp only [endPulse]
  split <;> rfl

/-- R161: the part has entered DOZE. -/
def dozed (sc : Scan) (c : PowerChange) (s : State) : State :=
  { endPulse s with
    mpt := freeBus s
    ssc := { s.ssc with scan := none, cursor := cursorAfter sc s, pollTimer := none, extraScan := false }
    pev := { s.pev with
      power := .doze, wakeTimer := some c.period, dozeJob := none, cardNear := c.cardNear, senseTimer := c.cardNear
      senseReference := none, events := s.pev.events ||| evTaskDone } }

/-- R161: the part has entered SLEEP. -/
def slept (sc : Scan) (s : State) : State :=
  { endPulse s with
    mpt := freeBus s
    ssc := { s.ssc with scan := none, cursor := cursorAfter sc s, pollTimer := none, extraScan := false }
    rcx := { s.rcx with minuteTimer := false }
    fmn := { (endPulse s).fmn with passive := none }
    pev := { s.pev with power := .sleep, events := s.pev.events ||| evTaskDone } }

theorem enterPower_doze {sc : Scan} {c : PowerChange} {s : State} (hc : c.target = .doze) :
    enterPower c (closeScan sc { doneMeets s with ssc := { s.ssc with extraScan := false } }) = dozed sc c s := by
  have hpulse := endPulse_with s (freeBus s) { s.ssc with extraScan := false, scan := none, cursor := cursorAfter sc s }
    { s.pev with events := s.pev.events ||| evTaskDone }
  simp only [enterPower, hc]
  exact congrArg (enterDoze c) hpulse

theorem enterPower_sleep {sc : Scan} {c : PowerChange} {s : State} (hc : c.target = .sleep) :
    enterPower c (closeScan sc { doneMeets s with ssc := { s.ssc with extraScan := false } }) = slept sc s := by
  have hpulse := endPulse_with s (freeBus s) { s.ssc with extraScan := false, scan := none, cursor := cursorAfter sc s }
    { s.pev with events := s.pev.events ||| evTaskDone }
  have hrcx : (endPulse s).rcx = s.rcx := by simp
  simp only [enterPower, hc]
  refine (congrArg enterSleep hpulse).trans ?_
  simp only [enterSleep, slept, hrcx]

theorem endScanInto_doze {sc : Scan} {c : PowerChange} {s : State} (hc : c.target = .doze) :
    endScanInto sc c (doneMeets s) = if s.ssc.extraScan = true then nudge (dozed sc c s) else dozed sc c s := by
  rw [← enterPower_doze hc]
  rfl

theorem endScanInto_sleep {sc : Scan} {c : PowerChange} {s : State} (hc : c.target = .sleep) :
    endScanInto sc c (doneMeets s) = if s.ssc.extraScan = true then nudge (slept sc s) else slept sc s := by
  rw [← enterPower_sleep hc]
  rfl

/-- R164: a NUDGE met in DOZE at its entry wakes the part, and a scan begins. -/
theorem nudge_dozed (sc : Scan) (c : PowerChange) (s : State) : nudge (dozed sc c s) = beginScan (wakeToRun (dozed sc c s)) := by
  simp only [nudge, dozed, nudgeAwake]
  rfl

theorem nudge_slept (sc : Scan) (s : State) : nudge (slept sc s) = nudgeAsleep (slept sc s) := rfl

/-- Settles O50: the target and what is left decide the answer, and the DONE brings the change. -/
theorem powerIsAnsweredThenEntered : Obligations.PowerIsAnsweredThenEntered := by
  unfold Obligations.PowerIsAnsweredThenEntered
  refine ⟨fun target period near sc tag s ha hin => ?_, fun c sc tag s hans ha hsc hp hr hc => ?_,
    fun c sc s hans ha hsc hp hr => ?_, fun c sc s hans ha hsc hp hr => ?_⟩
  · intro held refused waits
    have hhand : handedTask s = some (sc, ⟨tag, .power target period near⟩) := handedTask_of hin
    simp only [exec, execPower, hhand]
    by_cases href : refused
    · rw [if_pos ((powerRefused_iff ..).mpr href)]
      exact ⟨_, settled_completeTask ha, rfl, fun _ => ⟨rfl, rfl⟩, fun h => absurd href h, fun h => absurd href h⟩
    · rw [if_neg (mt (powerRefused_iff ..).mp href)]
      by_cases hwait : waits
      · rw [if_pos ((powerWaits_iff ..).mpr hwait)]
        exact ⟨s, rfl, rfl, fun h => absurd h href, fun _ _ => rfl, fun _ h => absurd hwait h⟩
      · rw [if_neg (mt (powerWaits_iff ..).mp hwait)]
        exact ⟨_, settled_completeTask ha, rfl, fun h => absurd h href, fun _ h => absurd h hwait, fun _ _ => ⟨rfl, rfl⟩⟩
  · have hbusy : scanGoesOn sc [] { s with mpt := freeBus s }
        = completeTask sc tag (powerBusy s.pev.power s.clk.hold.length) none { s with mpt := freeBus s } := by
      simp only [scanGoesOn, hp, answerWritten]
      exact if_pos (by simp [freeBus, hr, (endsScan_iff _).mpr hc])
    rw [exec_scanAnswered hans hsc, hbusy]
    exact ⟨_, settled_completeTask ha, rfl, rfl, rfl⟩
  · rw [exec_doneAnswered hans hsc hp]
    have hhalt : (doneMeets s).mpt.runState ≠ .running := by simp [doneMeets, freeBus, hr]
    by_cases hc : c.target = .doze ∨ c.target = .sleep
    · rw [powerDone_overtaken hc hhalt, goOn_stops hhalt, if_pos ((endsScan_iff _).mpr hc)]
      exact scanEnds_endScan sc ha
    · rw [powerDone_stays hc, goOn_stops (by exact hhalt), if_neg (mt (endsScan_iff _).mp hc)]
      exact scanEnds_endScan sc ha
  · intro cursor events v
    rw [exec_doneAnswered hans hsc hp]
    refine ⟨fun hc => ?_, fun hc => ?_, fun hc => ?_⟩
    · rw [powerDone_stays (by rcases hc with hc | hc <;> simp [hc])]
      refine ⟨fun k hf => ?_, fun hnone => ?_⟩
      · rw [goOn_free (k := k) (by exact hr) (by exact hf)]
        exact ⟨_, settled_ask_bus ha, rfl, rfl⟩
      · rw [goOn_none (by exact hr) (by exact hnone)]
        exact scanEnds_endScan sc ha
    · rw [powerDone_enters (.inl hc) (by exact hr), endScanInto_doze hc]
      cases he : s.ssc.extraScan with
      | false =>
        rw [if_neg Bool.false_ne_true]
        refine ⟨_, settled_bus_nil ha, fun _ => ⟨rfl, ?_⟩, fun h => (by cases h)⟩
        exact state_ext rfl (by simp [dozed, he, cursor]) rfl rfl rfl rfl rfl rfl rfl rfl rfl rfl
      | true =>
        rw [if_pos rfl, nudge_dozed]
        obtain ⟨t, ht, hbegun⟩ := settled_beginScan (s := wakeToRun (dozed sc c s)) ha
        refine ⟨t, ht, fun h => (by cases h), fun _ hcur hheld => ?_⟩
        obtain ⟨hmpt, hssc, hpev⟩ := hbegun.free (by exact hcur) (by simpa [heldSlots, dozed] using hheld)
        have hframe : t = { wakeToRun (dozed sc c s) with mpt := t.mpt, ssc := t.ssc, pev := t.pev } := by rw [hbegun.frame]
        rw [hssc, hpev] at hframe
        exact ⟨hmpt, hframe⟩
    · rw [powerDone_enters (.inr hc) (by exact hr), endScanInto_sleep hc]
      cases he : s.ssc.extraScan with
      | false =>
        rw [if_neg Bool.false_ne_true]
        exact ⟨_, settled_bus_nil ha, rfl, rfl, fun _ => rfl, fun h => (by cases h)⟩
      | true =>
        rw [if_pos rfl, nudge_slept]
        cases hset : s.pev.settling with
        | none =>
          have hsleeps : nudgeAsleep (slept sc s) = { slept sc s with
              pev := { (slept sc s).pev with settling := some .scan } } := by
            simp only [nudgeAsleep, show (slept sc s).pev.settling = none from hset]
          rw [hsleeps]
          exact ⟨_, settled_bus_nil ha, rfl, rfl, fun h => (by cases h), fun _ _ => rfl⟩
        | some g =>
          have hsleeps : nudgeAsleep (slept sc s) = slept sc s := by
            simp only [nudgeAsleep, show (slept sc s).pev.settling = some g from hset]
          rw [hsleeps]
          exact ⟨_, settled_bus_nil ha, rfl, rfl, fun h => (by cases h), fun _ h => (by cases h)⟩

end Sys2Proof.Proofs.PowerRules
end

section
/-! SUPPORT. CANCEL (R107 to R109): obligation O51. -/

namespace Sys2Proof.Proofs.CancelRules

open Sys2Proof Sys2Proof.Machine RunStates ScanRules HoldEnds TaskRules

/-! ### The target of a CANCEL (R107, R108) -/

theorem findHeld_none {target : Nat} {s : State} (h : target ∉ heldSlots s) : findHeld target s = none := by
  refine List.find?_eq_none.mpr fun t ht => ?_
  have hne : t.slot ≠ target := fun he => h (List.mem_map.mpr ⟨t, ht, he⟩)
  simpa using hne

theorem findHeld_of_mem {s : State} {h : HeldTask} (hm : h ∈ s.clk.hold) (hd : (heldSlots s).Nodup) :
    findHeld h.slot s = some h := by
  refine List.find?_eq_some_iff_append.mpr ⟨by simp, ?_⟩
  obtain ⟨l, r, hl⟩ := List.append_of_mem hm
  refine ⟨l, r, hl, fun t ht => ?_⟩
  have hne : t.slot ≠ h.slot := by
    rw [heldSlots, hl, List.map_append, List.nodup_append] at hd
    exact hd.2.2 _ (List.mem_map_of_mem ht) _ (List.mem_map_of_mem List.mem_cons_self)
  simpa using hne

theorem exec_cancel {sc : Scan} {tag : Half} {target : Nat} {s : State} (state kind : Byte)
    (hin : InHand sc ⟨tag, .cancel target⟩ s) :
    exec (.cancel state kind) s = settled (cancelTaken sc tag target state kind s) := by
  simp only [exec, execCancel, handedTask_of hin]

theorem cancelTaken_itself (sc : Scan) (tag : Half) (state kind : Byte) (s : State) :
    cancelTaken sc tag sc.index state kind s = completeTask sc tag (cancelAnswer .notPending 2 none) none s := if_pos rfl

theorem cancelTaken_slot {sc : Scan} {tag : Half} {target : Nat} {state kind : Byte} {s : State} (ht : target ≠ sc.index)
    (hn : target ∉ heldSlots s) : cancelTaken sc tag target state kind s = cancelOfSlot sc tag target state kind s := by
  simp only [cancelTaken, if_neg ht, findHeld_none hn]

theorem cancelTaken_held {sc : Scan} {tag : Half} {state kind : Byte} {s : State} {h : HeldTask} (ht : h.slot ≠ sc.index)
    (hm : h ∈ s.clk.hold) (hd : (heldSlots s).Nodup) :
    cancelTaken sc tag h.slot state kind s = cancelOfHeld sc tag h.slot h s := by
  simp only [cancelTaken, if_neg ht, findHeld_of_mem hm hd]

theorem cancelOfHeld_late {sc : Scan} {tag : Half} {target : Nat} {h : HeldTask} {s : State} (hl : tooLate h.session = true) :
    cancelOfHeld sc tag target h s = completeTask sc tag (cancelAnswer .tooLate 2 (some h.session)) none s := if_pos hl

/-- R109: the state in which the CANCEL waits for its target's DONE. -/
def cancelling (sc : Scan) (tag : Half) (h : HeldTask) (s : State) : State :=
  serveOn sc ⟨tag, .cancel h.slot⟩ (.cancelWait h.slot (cancelAnswer .targetCancelled 2 (some h.session))) s

theorem cancelOfHeld_ends {sc : Scan} {tag : Half} {h : HeldTask} {s : State} (hl : tooLate h.session = false) :
    cancelOfHeld sc tag h.slot h s = cancelHeld h (cancelling sc tag h s) := by
  rw [cancelOfHeld, if_neg (by simp [hl])]
  rfl

/-- R102: the session of a slot is ended, with the field released, and hands its answer over. -/
theorem closeHead_releases {s : State} (t : HeldTask) (e : SessionEnd) (hf : s.clk.holder = .session) :
    closeHead t e {} s = ask (answerOf (.card t.slot) s t.slot t.tag (sessionAnswer e)) { s with
      clk := { s.clk with
        holder := .none, deadline := none, tries := 0, pendingStamp := none
        hold := s.clk.hold.map fun x =>
          if x.slot = t.slot then { x with session := .closing e {} .writeAnswer } else x }
      fmn := { s.fmn with detected := false } } := by
  simp only [closeHead, if_true, releaseHead_session hf]
  rfl

/-! ### The target's DONE (R109) -/

theorem cancelServed_completes {sc : Scan} {t : Task} {slot : Nat} {body : AnswerBody} {s : State}
    (h : Serving sc t (.cancelWait slot body) s) : cancelServed slot s = completeTask sc t.tag body none s := by
  simp only [cancelServed, (servedTask_iff ..).mpr h, if_true]

/-- R102: DONE is written for a held task, which leaves the hold. -/
theorem cardGoesOn_leaves {slot : Nat} {h : HeldTask} {e : SessionEnd} {o : Owed} {s : State}
    (hh : findHeld slot s = some h) (hs : h.session = .closing e o .writeDone) :
    cardGoesOn slot s = cancelServed slot (leaveHold slot (raiseEvent evTaskDone s)) := by
  simp only [cardGoesOn, hh, hs]

/-- R88: a task that is not the head leaves. -/
theorem leaveHold_second {s : State} {g h : HeldTask} (hh : s.clk.hold = [g, h]) (hn : g.slot ≠ h.slot) :
    leaveHold h.slot s = { s with clk := { s.clk with hold := [g] } } := by
  simp [leaveHold, hh, hn]

theorem arbitrate_draws (u : State) : (arbitrate u).draws = u.draws + (u.mpt.asked.length - 1) := by
  simp [arbitrate, queueAsked]

/-- Two accesses asked for at one event. -/
theorem settled_asks_two {u : State} {m : MemoryPort} {a b : Access} (hm : m.asked = [])
    (hu : u.mpt = { m with asked := m.asked ++ [a] ++ [b] }) :
    ∃ t, settled u = .next t ∧ AsksFor [a, b] m t ∧ t = { u with mpt := t.mpt, draws := u.draws + 1 } := by
  replace hu : u.mpt = { m with asked := [a, b] } := by rw [hu, hm]; rfl
  have hdraws : (arbitrate u).draws = u.draws + 1 := by
    rw [arbitrate_draws, hu]
    rfl
  have hframe : arbitrate u = { u with mpt := (arbitrate u).mpt, draws := (arbitrate u).draws } := arbitrate_frame u
  rw [hdraws] at hframe
  exact ⟨_, settled_next u, arbitrate_asksFor hm hu, hframe⟩

/-- Settles O51: the target decides, and a CANCEL of a held task or of a POSTED slot goes on to the target's DONE. -/
theorem cancelIsDecidedByItsTarget : Obligations.CancelIsDecidedByItsTarget := by
  unfold Obligations.CancelIsDecidedByItsTarget
  intro target sc tag state kind s ha task
  refine ⟨fun hin => ⟨fun ht => ?_, fun ht hn => ?_, fun h ht hm hslot hd => ?_⟩, fun data hans hg => ?_, fun hans => ?_,
    fun body h g e o hans hg hslot hne hs => ?_⟩
  · rw [exec_cancel state kind hin, ht, cancelTaken_itself]
    exact ⟨_, settled_completeTask ha, ⟨rfl, rfl⟩, rfl⟩
  · rw [exec_cancel state kind hin, cancelTaken_slot ht hn]
    by_cases hposted : state = 1 ∧ kind = 1
    · have hread : cancelOfSlot sc tag target state kind s
          = ask (readOf .scan (slotAddress s target 2) 2) (serveOn sc task .cancelRead s) := if_pos hposted.symm
      rw [hread]
      exact ⟨_, settled_ask_bus ha, rfl, fun _ => ⟨rfl, rfl⟩, fun h => absurd hposted h⟩
    · have hnone : cancelOfSlot sc tag target state kind s
          = completeTask sc tag (cancelAnswer .notPending (foundState state) none) none s := if_neg fun h => hposted h.symm
      rw [hnone]
      exact ⟨_, settled_completeTask ha, rfl, fun h => absurd h hposted, fun _ => ⟨rfl, rfl⟩⟩
  · subst hslot
    intro body ends
    rw [exec_cancel state kind hin, cancelTaken_held ht hm hd]
    refine ⟨fun hs => ?_, fun hs => ?_, fun hf hs => ?_, fun a hf hs => ?_, fun d p g hf hs => ?_⟩
    · have hlate : tooLate h.session = true := by rcases hs with ⟨x, d, p, hs⟩ | ⟨e, o, g, hs⟩ <;> rw [hs] <;> rfl
      rw [cancelOfHeld_late hlate]
      exact ⟨_, settled_completeTask ha, ⟨rfl, rfl⟩, rfl⟩
    · rw [cancelOfHeld_ends (by rw [hs]; rfl)]
      simp only [cancelHeld, hs, handOver]
      exact ⟨_, settled_ask_bus ha, ⟨rfl, rfl, rfl, rfl⟩, rfl⟩
    · rw [cancelOfHeld_ends (by rcases hs with hs | hs <;> rw [hs] <;> rfl)]
      have hgo (u : State) : cancelHeld h u = closeHead h (.coded .cancelled (cardIdOf u)) {} u := by
        rcases hs with hs | hs <;> simp only [cancelHeld, hs]
      rw [hgo, closeHead_releases _ _ (by exact hf)]
      exact ⟨_, settled_ask_bus ha, ⟨rfl, rfl, rfl, rfl⟩, rfl, rfl⟩
    · rw [cancelOfHeld_ends (by rw [hs]; rfl)]
      simp only [cancelHeld, hs, endAsking]
      rw [closeHead_releases _ _ (by exact hf)]
      exact ⟨_, settled_ask_bus ha, ⟨rfl, rfl, rfl, rfl⟩, rfl, rfl⟩
    · rw [cancelOfHeld_ends (by rw [hs]; rfl)]
      simp only [cancelHeld, hs, endDeciding]
      rw [closeHead_releases _ _ (by exact hf)]
      exact ⟨_, settled_ask_bus ha, ⟨rfl, rfl, rfl, rfl⟩, rfl, rfl⟩
  · rw [exec_servingAnswered hans hg]
    exact ⟨_, settled_ask_bus ha, rfl, rfl⟩
  · intro u
    refine ⟨fun targetTag hg => ?_, fun hg => ?_, fun hg => ?_⟩
    · rw [exec_servingAnswered hans hg]
      exact ⟨_, settled_ask_bus ha, ⟨rfl, rfl⟩, rfl⟩
    · rw [exec_servingAnswered hans hg]
      exact ⟨_, settled_ask_bus ha, ⟨rfl, rfl⟩, rfl⟩
    · rw [exec_servingAnswered hans hg]
      exact ⟨_, settled_completeTask (s := raiseEvent evTaskDone { s with mpt := freeBus s }) ha, ⟨rfl, rfl⟩, rfl⟩
  · subst hslot
    intro done answered own
    rw [exec_cardAnswered hans]
    refine ⟨fun hh => ?_, fun hh => ?_, fun hh hw => ⟨fun hf hb hp => ?_, fun hf hb => ?_, fun hb => ?_⟩⟩
    · rw [cardGoesOn_leaves (findHeld_head (s := { s with mpt := freeBus s }) hh) hs,
        leaveHold_head (by exact hh) List.not_mem_nil,
        beginHead_empty rfl, cancelServed_completes (by exact hg)]
      exact ⟨_, settled_completeTask ha, ⟨rfl, rfl⟩, rfl⟩
    · have hfind : findHeld h.slot { s with mpt := freeBus s } = some h := by simp [findHeld, hh, hne]
      rw [cardGoesOn_leaves hfind hs, leaveHold_second (by exact hh) hne, cancelServed_completes (by exact hg)]
      exact ⟨_, settled_completeTask ha, ⟨rfl, rfl⟩, rfl⟩
    all_goals
      rw [cardGoesOn_leaves (findHeld_head (s := { s with mpt := freeBus s }) hh) hs,
        leaveHold_head (by exact hh) (by simpa using hne.symm)]
    · rw [beginHead_grants (by rfl) List.not_mem_nil hw (by exact hf) (by exact hb) (by exact hp),
        cancelServed_completes (by exact hg)]
      exact ⟨_, settled_completeTask ha, rfl, rfl⟩
    · rw [beginHead_waits (by rfl) (by simp [hf]) (by exact hb), cancelServed_completes (by exact hg)]
      exact ⟨_, settled_completeTask ha, rfl, rfl⟩
    · rw [beginHead_blocked (by rfl) List.not_mem_nil hw (by exact hb), cancelServed_completes (by exact hg)]
      exact settled_asks_two (m := freeBus s) ha (by rfl)

end Sys2Proof.Proofs.CancelRules
end

section
/-! SUPPORT. The service of claims and fills by the Journal Writer (R148, R150, R151, R153): obligation O52. -/

namespace Sys2Proof.Proofs.JournalService

open Sys2Proof Sys2Proof.Machine RunStates ScanRules HoldEnds TaskRules SeenOps

/-! ### Accesses asked for at one event (R144) -/

theorem settled_asks {u : State} {m : MemoryPort} {l : List Access} (hm : m.asked = []) (hu : u.mpt = { m with asked := l }) :
    ∃ t, settled u = .next t ∧ AsksFor l m t ∧ t = { u with mpt := t.mpt, draws := t.draws } :=
  ⟨_, settled_next u, arbitrate_asksFor hm hu, arbitrate_frame u⟩

theorem settled_atMostOne {u : State} {m : MemoryPort} {l : List Access} (hm : m.asked = [])
    (hu : u.mpt = { m with asked := l }) (hl : l.length ≤ 1) :
    ∃ t, settled u = .next t ∧ t.mpt = busAfter t m l ∧ t = { u with mpt := t.mpt } := by
  have hmpt : { u.mpt with asked := [] } = m := by rw [hu, ← hm]
  have hasked : u.mpt.asked = l := by rw [hu]
  have h := settled_eq u (by rw [hasked]; exact hl)
  rw [hmpt, hasked] at h
  exact ⟨_, h, rfl, rfl⟩

/-! ### The queue (R150, R151) -/

theorem markReads_length (ring : Ring) (cursor : Nat) (jobs : List JournalJob) : (markReads ring cursor jobs).length ≤ 1 := by
  unfold markReads
  split
  · exact Nat.le_refl 1
  · exact Nat.zero_le 1

section
variable {ring : Ring} {s : State}

theorem serveNext_busy (hbusy : s.jnw.service ≠ .idle) : serveNext s = s := by
  unfold serveNext
  split
  · exact absurd (by assumption) hbusy
  · exact absurd (by assumption) hbusy
  · exact absurd (by assumption) hbusy
  · rfl

theorem serveNext_noClaim (hq : claimFirst s.jnw.queue = false) : serveNext s = s := by
  unfold serveNext
  split
  · next h _ => simp [h, claimFirst] at hq
  · next h _ => simp [h, claimFirst] at hq
  · next h _ => simp [h, claimFirst] at hq
  · rfl

theorem serveNext_claim (hring : s.jnw.ring = some ring) (hidle : s.jnw.service = .idle)
    (hq : claimFirst s.jnw.queue = true) :
    serveNext s = askRead .journal (entryAddress ring s.jnw.cursor 0) 1
      { s with jnw := { s.jnw with service := .readingMark } } := by
  cases hjobs : s.jnw.queue with
  | nil => simp [hjobs, claimFirst] at hq
  | cons j rest =>
    cases j with
    | fill e => simp [hjobs, claimFirst] at hq
    | entry e who => simp only [serveNext, hidle, hjobs, hring]
    | reserve => simp only [serveNext, hidle, hjobs, hring]
    | reserveVoid e => simp only [serveNext, hidle, hjobs, hring]

/-- R150: an idle Journal Writer begins with the first job if it is a claim. -/
theorem serveNext_idle (hring : s.jnw.ring = some ring) (hidle : s.jnw.service = .idle) :
    serveNext s = { s with
      mpt := { s.mpt with asked := s.mpt.asked ++ markReads ring s.jnw.cursor s.jnw.queue }
      jnw := { s.jnw with service := serviceAfter s.jnw.queue } } := by
  cases hq : claimFirst s.jnw.queue with
  | true =>
    rw [serveNext_claim hring hidle hq, markReads, serviceAfter, hq]
    rfl
  | false =>
    rw [serveNext_noClaim hq, markReads, serviceAfter, hq, if_neg (by decide), if_neg (by decide), List.append_nil, ← hidle]

theorem arrive_idle (jobs : List JournalJob) (hring : s.jnw.ring = some ring) (hidle : s.jnw.service = .idle) :
    arrive jobs s = { s with
      mpt := { s.mpt with asked := s.mpt.asked ++ markReads ring s.jnw.cursor (s.jnw.queue ++ jobs) }
      jnw := { s.jnw with queue := s.jnw.queue ++ jobs, service := serviceAfter (s.jnw.queue ++ jobs) } } :=
  serveNext_idle (s := { s with jnw := { s.jnw with queue := s.jnw.queue ++ jobs } }) hring hidle

theorem arrive_busy (jobs : List JournalJob) (hbusy : s.jnw.service ≠ .idle) :
    arrive jobs s = { s with jnw := { s.jnw with queue := s.jnw.queue ++ jobs } } :=
  serveNext_busy (s := { s with jnw := { s.jnw with queue := s.jnw.queue ++ jobs } }) hbusy

/-- R151: the first job leaves, and the next begins. -/
theorem popJob_cons {j : JournalJob} {rest : List JournalJob} (hring : s.jnw.ring = some ring) (hq : s.jnw.queue = j :: rest) :
    popJob s = { s with
      mpt := { s.mpt with asked := s.mpt.asked ++ markReads ring s.jnw.cursor rest }
      jnw := { s.jnw with queue := rest, service := serviceAfter rest } } := by
  rw [popJob, hq, List.tail_cons]
  exact serveNext_idle (s := { s with jnw := { s.jnw with queue := rest, service := .idle } }) hring rfl

/-! ### Answers and grants -/

theorem exec_journalAnswered {data : List Byte} (h : JournalAnswered data s) :
    exec (.memoryResponse data) s = settled (journalGoesOn data { s with mpt := freeBus s }) := by
  obtain ⟨a, hf, hc, ha⟩ := h
  simp only [exec, execMemoryResponse, hf, ha, if_true, hc, resume, freeBus]

theorem exec_journalClaim {mark : Byte} {j : JournalJob} {rest : List JournalJob} (hserv : s.jnw.service = .markRead mark)
    (hring : s.jnw.ring = some ring) (hq : s.jnw.queue = j :: rest) (hj : isClaim j = true) :
    exec .journalClaim s = settled (serveClaim j mark ring s) := by
  simp only [exec, execJournalClaim, hserv, hq, hring, hj, if_true]

theorem serveClaim_part (j : JournalJob) : serveClaim j 0x5A ring s = grantClaim j ring s := if_pos rfl

theorem serveClaim_other {mark : Byte} (j : JournalJob) (h : mark ≠ markPart) :
    serveClaim j mark ring s = refuseClaim j s := if_neg h

theorem countMissed_eq (kind : EntryKind) (s : State) :
    countMissed kind s = { s with jnw := { s.jnw with missed := missedAfter kind none s.jnw.missed } } := by
  cases kind <;> rfl

theorem missedAfter_some (kind : EntryKind) (n missed : Word) : missedAfter kind (some n) missed = missed :=
  if_neg fun h => nomatch h.1

/-! ### The end of a claim's service (R151) -/

/-- The state in which a claim has been served and its maker learns of it: the event is raised, a loss is counted, the job has
left, and the next begins. -/
def claimEnded (ring : Ring) (rest : List JournalJob) (missed : Word) (reservation : Option Reservation)
    (serial : Option Word) (s : State) : State :=
  { s with
    mpt := { busAtEnd serial s with asked := (busAtEnd serial s).asked ++ markReads ring s.jnw.cursor rest }
    jnw := { s.jnw with queue := rest, service := serviceAfter rest, missed := missed, reservation := reservation }
    pev := { s.pev with events := s.pev.events ||| claimEvent serial } }

theorem busAtEnd_asked (serial : Option Word) : (busAtEnd serial s).asked = s.mpt.asked := by
  cases serial <;> rfl

theorem claimEnded_mpt {rest : List JournalJob} {missed : Word} {reservation : Option Reservation} {serial : Option Word}
    (ha : s.mpt.asked = []) : (claimEnded ring rest missed reservation serial s).mpt
      = { busAtEnd serial s with asked := markReads ring s.jnw.cursor rest } := by
  simp [claimEnded, busAtEnd_asked, ha]

/-- The end of a service, granted or refused, for any claim. -/
theorem exec_claimEnds {c : Instr} {serial : Option Word} {j : JournalJob} {rest : List JournalJob}
    (h : ClaimEnds c serial s) (hring : s.jnw.ring = some ring) (hq : s.jnw.queue = j :: rest) (hj : isClaim j = true) :
    (∃ n, serial = some n ∧ exec c s = settled (entryWritten j n { s with mpt := freeBus s }))
      ∨ serial = none ∧ exec c s = settled (refuseClaim j s) := by
  obtain ⟨rfl, hans, entry, n, hserv, rfl⟩ | ⟨rfl, rfl, mark, hmark, hserv⟩ := h
  · refine .inl ⟨n, rfl, ?_⟩
    rw [exec_journalAnswered hans]
    simp only [journalGoesOn, hserv, hq]
  · exact .inr ⟨rfl, by rw [exec_journalClaim hserv hring hq hj, serveClaim_other j hmark]⟩

theorem exec_entryEnds {c : Instr} {serial : Option Word} {e : EntryContents} {who : ClaimFor} {rest : List JournalJob}
    (h : ClaimEnds c serial s) (hring : s.jnw.ring = some ring) (hq : s.jnw.queue = .entry e who :: rest) :
    exec c s = settled (entryServed e.kind who serial
      (claimEnded ring rest (missedAfter e.kind serial s.jnw.missed) s.jnw.reservation serial s)) := by
  obtain ⟨n, rfl, hexec⟩ | ⟨rfl, hexec⟩ := exec_claimEnds h hring hq rfl
  · rw [hexec, entryWritten, missedAfter_some, popJob_cons (by exact hring) (by exact hq)]
    rfl
  · rw [hexec, refuseClaim, countMissed_eq, popJob_cons (by exact hring) (by exact hq)]
    rfl

theorem exec_voidEnds {c : Instr} {serial : Option Word} {e : EntryContents} {rest : List JournalJob}
    (h : ClaimEnds c serial s) (hring : s.jnw.ring = some ring) (hq : s.jnw.queue = .reserveVoid e :: rest) :
    exec c s = settled
      (claimEnded ring rest s.jnw.missed (if serial.isSome then none else s.jnw.reservation) serial s) := by
  obtain ⟨n, rfl, hexec⟩ | ⟨rfl, hexec⟩ := exec_claimEnds h hring hq rfl
  · rw [hexec, entryWritten, popJob_cons (by exact hring) (by exact hq)]
    rfl
  · rw [hexec, refuseClaim, popJob_cons (by exact hring) (by exact hq)]
    rfl

end

/-! ### The fill (R153) -/

theorem closeIfReady_ready {t : HeldTask} {e : SessionEnd} {rest : List HeldTask} {s : State} (hh : s.clk.hold = t :: rest)
    (hn : t.slot ∉ rest.map HeldTask.slot) :
    closeIfReady t e {} s = ask (answerOf (.card t.slot) s t.slot t.tag (sessionAnswer e))
      { s with clk := { s.clk with hold := { t with session := .closing e {} .writeAnswer } :: rest } } := by
  rw [closeIfReady, if_pos rfl, handOver, setSession_head _ hh hn]
  rfl

theorem closeIfReady_waits {t : HeldTask} {e : SessionEnd} {o : Owed} {rest : List HeldTask} {s : State} (ho : o ≠ {})
    (hh : s.clk.hold = t :: rest) (hn : t.slot ∉ rest.map HeldTask.slot) :
    closeIfReady t e o s
      = { s with clk := { s.clk with hold := { t with session := .closing e o .awaitJournal } :: rest } } := by
  rw [closeIfReady, if_neg ho, setSession_head _ hh hn]

theorem fillServed_closing {t : HeldTask} {e : SessionEnd} {o : Owed} {rest : List HeldTask} {s : State}
    (hh : s.clk.hold = t :: rest) (hs : t.session = .closing e o .awaitJournal) :
    fillServed s = closeIfReady t e { o with fill := false } s := by
  simp only [fillServed, hh, hs]

/-- Settles O52: claims and fills are served one at a time, in order, each by the mark or the reservation it meets. -/
theorem journalServesClaimsAndFills : Obligations.JournalServesClaimsAndFills := by
  unfold Obligations.JournalServesClaimsAndFills
  refine ⟨fun jobs ring s hring => ⟨arrive_idle jobs hring, arrive_busy jobs⟩, fun mark s ha hans hserv => ?_,
    fun entry serial ring s ha hans hring hserv => ?_, fun e rest ring s ha hring hserv => ⟨fun who hq => ?_, fun hq => ?_⟩,
    fun e rest ring s ha hring => ⟨fun c serial hends hq => ?_, fun c serial hends hq => ?_⟩,
    fun e rest ring r s ha hring hq hres => ⟨fun hserv => ?_, fun h others ending hans hserv hh hn hs => ?_⟩⟩
  · rw [exec_journalAnswered hans]
    simp only [journalGoesOn, hserv]
    exact ⟨_, settled_bus_nil ha, rfl, rfl⟩
  · have hgo : journalGoesOn [] { s with mpt := freeBus s } = writeHost ring entry serial { s with mpt := freeBus s } := by
      simp only [journalGoesOn, hserv, hring]
    rw [exec_journalAnswered hans, hgo]
    exact ⟨_, settled_ask_bus ha, rfl, rfl⟩
  · rw [exec_journalClaim hserv hring hq rfl, serveClaim_part]
    exact ⟨_, ⟨settled_ask_bus ha, rfl⟩, rfl⟩
  · rw [exec_journalClaim hserv hring hq rfl, serveClaim_part]
    exact ⟨_, ⟨settled_ask_bus ha, rfl⟩, rfl⟩
  · rw [exec_entryEnds hends hring hq]
    exact settled_atMostOne (by rw [busAtEnd_asked, ha]) (claimEnded_mpt ha) (markReads_length ..)
  · rw [exec_voidEnds hends hring hq]
    exact settled_atMostOne (by rw [busAtEnd_asked, ha]) (claimEnded_mpt ha) (markReads_length ..)
  · have hexec : exec .reservationFill s = settled (writeFields ring r.entry r.serial e s) := by
      simp only [exec, execReservationFill, hserv, hq, hring, hres]
    rw [hexec]
    exact ⟨_, settled_ask_bus ha, rfl, rfl⟩
  · rw [exec_journalAnswered hans]
    simp only [journalGoesOn, hserv, hq, entryWritten]
    rw [popJob_cons (by exact hring) (by exact hq), fillServed_closing (by exact hh) hs, closeIfReady_ready (by exact hh) hn]
    exact settled_asks ha (congrArg (fun l => ({ freeBus s with asked := l ++ markReads ring s.jnw.cursor rest ++
      [answerOf (.card h.slot) s h.slot h.tag (sessionAnswer ending)] } : MemoryPort)) ha)

end Sys2Proof.Proofs.JournalService
end

section
/-! SUPPORT. What the makers of claims do with their serial or its loss (R17, R20, R56, R60, R61, R97, R151; log 6, log 10):
obligation O53. -/

namespace Sys2Proof.Proofs.ClaimMakers

open Sys2Proof Sys2Proof.Machine RunStates ScanRules HoldEnds TaskRules SeenOps JournalService

/-! ### Outcomes known to be those of a settled state -/

section
variable {o : Host.Outcome State Fault Refusal} {u : State} {m : MemoryPort} {l : List Access}

theorem asks_of_settled (h : o = settled u) (hm : m.asked = []) (hu : u.mpt = { m with asked := l }) :
    ∃ t, o = .next t ∧ AsksFor l m t ∧ t = { u with mpt := t.mpt, draws := t.draws } :=
  h ▸ settled_asks hm hu

theorem busAfter_of_settled (h : o = settled u) (hm : m.asked = []) (hu : u.mpt = { m with asked := l }) (hl : l.length ≤ 1) :
    ∃ t, o = .next t ∧ t.mpt = busAfter t m l ∧ t = { u with mpt := t.mpt } :=
  h ▸ settled_atMostOne hm hu hl

end

/-! ### What is noted -/

/-- The flags of a draft whose entry has been served, or lost. -/
def flagged (serial : Option Word) (d : Draft) : AnswerFlags :=
  { d.flags with journalMissed := d.flags.journalMissed || serial.isNone }

theorem noteEntry_denied (serial : Option Word) (d : Draft) :
    noteEntry .denied serial d = { d with journalSerial := serial, flags := flagged serial d } := by
  cases serial <;> simp [noteEntry, flagged]

theorem noteEntry_resolved (serial : Option Word) (d : Draft) :
    noteEntry .resolved serial d = { d with resolutionSerial := serial, flags := flagged serial d } := by
  cases serial <;> simp [noteEntry, flagged]

theorem noteResolved_waiting {a : Asking} {x : SeenReply} (serial : Option Word) (ha : a.seen = some x)
    (hx : x.claim = .waiting) :
    noteResolved serial a = { a with seen := some { x with claim := .served serial } } := by
  simp only [noteResolved, ha, Option.map_some, hx, if_true]

/-! ### A claim that arrives after a service -/

/-- A claim that arrives behind a first claim finds the Journal Writer at work, and else is served from the first job. -/
theorem arrive_afterService {ring : Ring} {s : State} (l : List JournalJob) (hring : s.jnw.ring = some ring)
    (hserv : s.jnw.service = serviceAfter s.jnw.queue)
    (hasked : s.mpt.asked = markReads ring s.jnw.cursor s.jnw.queue) :
    arrive l s = { s with
      mpt := { s.mpt with asked := markReads ring s.jnw.cursor (s.jnw.queue ++ l) }
      jnw := { s.jnw with queue := s.jnw.queue ++ l, service := serviceAfter (s.jnw.queue ++ l) } } := by
  cases hq : claimFirst s.jnw.queue with
  | false =>
    rw [arrive_idle l hring (by rw [hserv, serviceAfter, hq]; rfl), hasked, markReads, hq]
    rfl
  | true =>
    have hfirst : claimFirst (s.jnw.queue ++ l) = true := by
      cases hjobs : s.jnw.queue with
      | nil => simp [hjobs, claimFirst] at hq
      | cons j rest => cases j <;> simp_all [claimFirst]
    rw [arrive_busy l (by rw [hserv, serviceAfter, hq]; decide), markReads, serviceAfter, hfirst, if_pos rfl, if_pos rfl]
    simp only [markReads, hq, if_true] at hasked
    rw [← hasked, ← show s.jnw.service = .readingMark by rw [hserv, serviceAfter, hq, if_pos rfl]]

/-! ### The card's session (R56, R97, R102) -/

section
variable {o : Host.Outcome State Fault Refusal} {h : HeldTask} {rest : List HeldTask} {s : State}

variable {kind : EntryKind}

theorem cardEntryServed_denied {d : Draft} {owed : Owed} (serial : Option Word) (hk : kind = .denied)
    (hh : s.clk.hold = h :: rest) (hs : h.session = .closing (.ok d) owed .awaitJournal) :
    cardEntryServed kind serial s = closeIfReady h (.ok { d with journalSerial := serial, flags := flagged serial d })
      { owed with denied := false } s := by
  subst hk
  simp only [cardEntryServed, hh, hs, noteEntry_denied]
  rfl

theorem cardEntryServed_resolved {d : Draft} {owed : Owed} (serial : Option Word) (hk : kind = .resolved)
    (hh : s.clk.hold = h :: rest) (hs : h.session = .closing (.ok d) owed .awaitJournal) :
    cardEntryServed kind serial s = closeIfReady h (.ok { d with resolutionSerial := serial, flags := flagged serial d })
      { owed with resolved := false } s := by
  subst hk
  simp only [cardEntryServed, hh, hs, noteEntry_resolved]
  rfl

theorem cardEntryServed_asking {a : Asking} {x : SeenReply} (serial : Option Word) (hk : kind = .resolved)
    (hh : s.clk.hold = h :: rest) (hn : h.slot ∉ rest.map HeldTask.slot) (hs : h.session = .asking a)
    (ha : a.seen = some x) (hx : x.claim = .waiting) :
    cardEntryServed kind serial s = { s with clk := { s.clk with
      hold := { h with session := .asking { a with seen := some { x with claim := .served serial } } } :: rest } } := by
  simp only [cardEntryServed, hh, hs, hk, if_true, noteResolved_waiting serial ha hx]
  exact setSession_head _ hh hn

theorem cardEntryServed_deciding {d : Draft} {p : RidePlan} (serial : Option Word) (hk : kind = .resolved)
    (hh : s.clk.hold = h :: rest) (hn : h.slot ∉ rest.map HeldTask.slot) (hs : h.session = .deciding d p .awaitResolved) :
    cardEntryServed kind serial s = arrive [.reserve] { s with clk := { s.clk with
      hold :=
        { h with session := .deciding { d with resolutionSerial := serial, flags := flagged serial d } p .awaitReservation }
        :: rest } } := by
  subst hk
  simp only [cardEntryServed, hh, hs, noteEntry_resolved]
  rw [setSession_head _ hh hn]

theorem reservationRefused_head {d : Draft} {p : RidePlan} (hh : s.clk.hold = h :: rest)
    (hs : h.session = .deciding d p .awaitReservation) :
    reservationRefused s = refuseRide h d p .journalFull {} s := by
  simp only [reservationRefused, hh, hs]

/-- The end of a session in CLOSING that awaited the Journal Writer, from a state in which accesses have been asked for. -/
theorem closeIfReady_ready_of_settled {e : SessionEnd} (ho : o = settled (closeIfReady h e {} s))
    {m : MemoryPort} {reads : List Access} (hm : m.asked = [])
    (hmpt : s.mpt = { m with asked := reads }) (hh : s.clk.hold = h :: rest) (hn : h.slot ∉ rest.map HeldTask.slot) :
    ∃ t, o = .next t
      ∧ AsksFor (reads ++ [answerOf (.card h.slot) s h.slot h.tag (sessionAnswer e)]) m t
      ∧ t = { s with
          mpt := t.mpt, draws := t.draws
          clk := { s.clk with hold := { h with session := .closing e {} .writeAnswer } :: rest } } := by
  rw [closeIfReady_ready hh hn] at ho
  exact asks_of_settled ho hm (congrArg (fun p : MemoryPort =>
    { p with asked := p.asked ++ [answerOf (.card h.slot) s h.slot h.tag (sessionAnswer e)] }) hmpt)

theorem closeIfReady_waits_of_settled {e : SessionEnd} {owed : Owed} (ho : o = settled (closeIfReady h e owed s))
    (howed : owed ≠ {}) {m : MemoryPort} {reads : List Access}
    (hm : m.asked = []) (hmpt : s.mpt = { m with asked := reads }) (hh : s.clk.hold = h :: rest)
    (hn : h.slot ∉ rest.map HeldTask.slot) :
    ∃ t, o = .next t ∧ AsksFor reads m t
      ∧ t = { s with
          mpt := t.mpt, draws := t.draws
          clk := { s.clk with hold := { h with session := .closing e owed .awaitJournal } :: rest } } := by
  rw [closeIfReady_waits howed hh hn] at ho
  exact asks_of_settled ho hm hmpt

end

/-! ### The task in hand (R17, R20, R60, R61) -/

section
variable {o : Host.Outcome State Fault Refusal} {sc : Scan} {t : Task} {s : State}

theorem tokenEntryServed_denied {d : Draft} (serial : Option Word) (h : Serving sc t (.tokenDenied d) s) :
    tokenEntryServed serial s
      = completeTask sc t.tag (inspectionAnswer { d with journalSerial := serial, flags := flagged serial d }) none s := by
  simp only [tokenEntryServed, (servedTask_iff ..).mpr h, noteEntry_denied]

theorem tokenEntryServed_ride {d : Draft} {p : RidePlan} (serial : Option Word) (h : Serving sc t (.tokenRide d p) s) :
    tokenEntryServed serial s = completeTask sc t.tag (inspectionAnswer (tokenRideDraft d p serial)) none
      (sendUpdate (tokenRideUpdate p serial) s) := by
  simp only [tokenEntryServed, (servedTask_iff ..).mpr h]

/-- The counts of PEER NOTES after a CONFLICT entry has been served, or lost. -/
def noted (serial : Option Word) (n : NoteCounts) : NoteCounts :=
  { n with notJournalled := n.notJournalled + if serial.isNone then 1 else 0 }

theorem noted_eq (serial : Option Word) (n : NoteCounts) :
    (if serial.isNone then { n with notJournalled := n.notJournalled + 1 } else n) = noted serial n := by
  cases serial <;> rfl

theorem noteEntryServed_last {n : NoteCounts} (serial : Option Word) (h : Serving sc t (.notesClaims n 1) s) :
    noteEntryServed serial s = completeTask sc t.tag (notesAnswer (noted serial n)) none s := by
  simp only [noteEntryServed, (servedTask_iff ..).mpr h, Nat.le_refl, if_true, noted_eq]

theorem noteEntryServed_more {n : NoteCounts} {k : Nat} (serial : Option Word) (h : Serving sc t (.notesClaims n (k + 2)) s) :
    noteEntryServed serial s = serveOn sc t (.notesClaims (noted serial n) (k + 1)) s := by
  have hmore : ¬ k + 2 ≤ 1 := by omega
  simp only [noteEntryServed, (servedTask_iff ..).mpr h, if_neg hmore, noted_eq]
  rfl

/-- The completion of the task in hand, from a state in which accesses have been asked for. -/
theorem completeTask_of_settled {body : AnswerBody} (ho : o = settled (completeTask sc t.tag body none s))
    {m : MemoryPort} {reads : List Access} (hm : m.asked = [])
    (hmpt : s.mpt = { m with asked := reads }) :
    ∃ t', o = .next t'
      ∧ AsksFor (reads ++ [answerOf .scan s sc.index t.tag body]) m t'
      ∧ t' = { s with
          mpt := t'.mpt, draws := t'.draws
          ssc := { s.ssc with scan := some { sc with phase := .writeAnswer t.tag none } } } :=
  asks_of_settled ho hm (congrArg (fun p : MemoryPort =>
    { p with asked := p.asked ++ [answerOf .scan s sc.index t.tag body] }) hmpt)

end

/-- Settles O53: the serial of a claim, or its loss, goes back to the session or the task that made it. -/
theorem claimsAnswerTheirMakers : Obligations.ClaimsAnswerTheirMakers := by
  unfold Obligations.ClaimsAnswerTheirMakers
  intro ring jobs s ha hring reads left
  refine ⟨fun mark h rest d p hserv hmark hq hh hn hs hf => ?_, fun c serial e hends => ?_⟩
  · intro lost
    have hrefuse : refuseClaim .reserve s = reservationRefused (popJob (raiseEvent evJournalFull s)) := rfl
    have hexec := exec_journalClaim hserv hring hq rfl
    rw [serveClaim_other _ hmark, hrefuse, popJob_cons (by exact hring) (by exact hq),
      reservationRefused_head (by exact hh) hs, refuseRide, closeHead_ready _ (by exact hh) hn (by exact hf)] at hexec
    have hasked : s.mpt.asked ++ reads = reads := by rw [ha, List.nil_append]
    obtain ⟨t, ht, hasks, hframe⟩ := asks_of_settled hexec ha (by exact congrArg (fun l : List Access => ({ s.mpt with
      asked := l ++ [answerOf (.card h.slot) s h.slot h.tag (inspectionAnswer lost)] } : MemoryPort)) hasked)
    refine ⟨t, ht, hasks, ?_⟩
    rw [hframe]
    exact ⟨rfl, rfl, rfl, rfl, rfl⟩
  · intro bus u flagged
    have hbus : bus.asked = [] := by rw [← ha]; exact busAtEnd_asked serial
    have hmpt := claimEnded_mpt (ring := ring) (rest := jobs) (missed := missedAfter e.kind serial s.jnw.missed)
      (reservation := s.jnw.reservation) (serial := serial) ha
    refine ⟨fun h rest hq hh hn => ?_, fun sc tag req => ?_⟩
    · intro becomes closes
      have hexec := exec_entryEnds hends hring hq
      have hcloses (d : Draft) (owed : Owed) (hx : exec c s = settled (closeIfReady h (.ok d) owed
          (claimEnded ring jobs (missedAfter e.kind serial s.jnw.missed) s.jnw.reservation serial s))) : closes d owed := by
        refine ⟨fun ho => ?_, fun ho => ?_⟩
        · rw [ho] at hx
          exact closeIfReady_ready_of_settled hx hbus hmpt (by exact hh) hn
        · exact closeIfReady_waits_of_settled hx ho hbus hmpt (by exact hh) hn
      refine ⟨fun d owed hs => ⟨fun hk => hcloses _ _ ?_, fun hk => hcloses _ _ ?_⟩, fun a x hk hs hseen hx => ?_,
        fun d p hk hs => ?_⟩
      · rw [hexec, entryServed, cardEntryServed_denied serial hk (by exact hh) hs]
        rfl
      · rw [hexec, entryServed, cardEntryServed_resolved serial hk (by exact hh) hs]
        rfl
      · rw [entryServed, cardEntryServed_asking serial hk (by exact hh) hn hs hseen hx] at hexec
        exact asks_of_settled hexec hbus hmpt
      · rw [entryServed, cardEntryServed_deciding serial hk (by exact hh) hn hs,
          arrive_afterService (ring := ring) _ (by exact hring) (by rfl) (by exact congrArg MemoryPort.asked hmpt)] at hexec
        exact busAfter_of_settled hexec hbus (by rfl) (markReads_length ..)
    · intro task answered
      refine ⟨fun hq => ?_, fun n k hq hk => ?_⟩
      · have hexec := exec_entryEnds hends hring hq
        refine ⟨fun d hk hg => ?_, fun d p hk hg => ?_⟩
        · rw [entryServed, tokenEntryServed_denied serial (by exact hg)] at hexec
          exact completeTask_of_settled hexec hbus hmpt
        · rw [entryServed, tokenEntryServed_ride _ (by exact hg)] at hexec
          have hafter := completeTask_of_settled hexec hbus (by exact hmpt)
          refine ⟨fun n hserial => ?_, fun hserial => ?_⟩
          · subst hserial
            exact hafter
          · subst hserial
            exact hafter
      · have hexec := exec_entryEnds hends hring hq
        intro n'
        refine ⟨fun hg => ?_, fun hg => ?_⟩
        · rw [entryServed, noteEntryServed_last serial (by exact hg)] at hexec
          exact completeTask_of_settled hexec hbus hmpt
        · rw [entryServed, noteEntryServed_more serial (by exact hg)] at hexec
          exact busAfter_of_settled hexec hbus (by exact hmpt) (markReads_length ..)

end Sys2Proof.Proofs.ClaimMakers
end

section
/-! SUPPORT. The six modes of a part (R85, R127, R138, R143, R147, R159, R160 to R165): the two rules of O60 say that the part is in
one of them, and the arbitration of the bus keeps each. -/

namespace Sys2Proof.Proofs.Modes

open Sys2Proof Sys2Proof.Machine RunStates

/-! ### What the modes have in common -/

/-- No task is held, and nothing is left for the Journal Writer or the Seen Table. -/
structure Quiet (s : State) : Prop where
  hold : s.clk.hold = []
  journal : journalQuiet s.jnw = true
  updates : s.snt.updates = []

/-- No access is made or asked for. -/
structure BusFree (s : State) : Prop where
  flight : s.mpt.flight = none
  waiting : s.mpt.waiting = []
  asked : s.mpt.asked = []

/-- One access is made or asked for, by this client. -/
structure OneAccess (c : Client) (s : State) : Prop where
  waiting : s.mpt.waiting = []
  access : s.mpt.flight.map Access.client = some c ∧ s.mpt.asked = []
    ∨ s.mpt.flight = none ∧ ∃ a, s.mpt.asked = [a] ∧ a.client = c

/-- The part is in RUN or REDUCED, with no work of DOZE or SLEEP. -/
structure Powered (p : PowerEvents) : Prop where
  power : p.power = .run ∨ p.power = .reduced
  settling : p.settling = none
  dozeJob : p.dozeJob = none

/-- A phase in which a change to DOZE or SLEEP comes (R160, R161). -/
def phaseChanges : ScanPhase → Bool
  | .writeAnswer _ (some c) | .writeDone (some c) => endsScan c.target
  | _ => false

/-- A scan with which no change comes. -/
def NoChange (o : Option Scan) : Prop := ∀ sc, o = some sc → phaseChanges sc.phase = false

theorem changeComes_none {s : State} (h : s.ssc.scan = none) : changeComes s = false := by simp [changeComes, h]

theorem changeComes_some {s : State} {sc : Scan} (h : s.ssc.scan = some sc) : changeComes s = phaseChanges sc.phase := by
  simp only [changeComes, h, Option.map_some]
  cases sc.phase with
  | writeAnswer g c => cases c <;> rfl
  | writeDone c => cases c <;> rfl
  | _ => rfl

theorem changeComes_false {s : State} : changeComes s = false ↔ NoChange s.ssc.scan := by
  cases h : s.ssc.scan with
  | none => simp [changeComes_none h, NoChange]
  | some sc => simp [changeComes_some h, NoChange]

theorem noChange_none : NoChange none := fun _ h => nomatch h

theorem noChange_some {sc : Scan} : NoChange (some sc) ↔ phaseChanges sc.phase = false := by simp [NoChange]

theorem noChange_of_looksOnly {p : ScanPhase} (h : looksOnly p = true) : phaseChanges p = false := by
  cases p with
  | readState | readHead | readRequest _ => rfl
  | _ => cases h

/-! ### The modes -/

/-- HALTED: at rest (R143). -/
structure Halted (s : State) : Prop where
  run : s.mpt.runState = .halted
  quiet : Quiet s
  scan : s.ssc.scan = none
  holder : s.clk.holder = .none
  startUp : s.ssc.startUp = none
  bus : BusFree s
  powered : Powered s.pev

/-- STARTING: at rest but for the start-up work (R138). -/
structure Starting (s : State) : Prop where
  run : s.mpt.runState = .starting
  quiet : Quiet s
  scan : s.ssc.scan = none
  holder : s.clk.holder = .none
  startUp : s.ssc.startUp.isSome = true
  bus : OneAccess .startUp s
  powered : Powered s.pev

/-- RUNNING or HALTING, in RUN or REDUCED. -/
structure Working (s : State) : Prop where
  run : s.mpt.runState = .running ∨ s.mpt.runState = .halting
  startUp : s.ssc.startUp = none
  powered : Powered s.pev
  scan : NoChange s.ssc.scan

/-- RUNNING or HALTING, with a change to DOZE or SLEEP to come at the DONE of its POWER (R160, R161). -/
structure Changing (s : State) : Prop where
  run : s.mpt.runState = .running ∨ s.mpt.runState = .halting
  startUp : s.ssc.startUp = none
  powered : Powered s.pev
  quiet : Quiet s
  bus : OneAccess .scan s
  scan : changeComes s = true

/-- The bus in DOZE: free, or with the scan of a wake-timer expiry (R162, R165). -/
inductive DozeWork (s : State) : Prop
  | rests (hs : s.ssc.scan = none) (hb : BusFree s)
  | looks (sc : Scan) (n : Nat) (hs : s.ssc.scan = some sc) (hp : looksOnly sc.phase = true)
      (hj : s.pev.dozeJob = some (.scanning n)) (hb : OneAccess .scan s)

/-- DOZE (R162, R165). -/
structure Dozing (s : State) : Prop where
  run : s.mpt.runState = .running
  startUp : s.ssc.startUp = none
  power : s.pev.power = .doze
  settling : s.pev.settling = none
  quiet : Quiet s
  timer : s.pev.wakeTimer = none ∨ s.pev.dozeJob = none
  work : DozeWork s

/-- SLEEP (R164). -/
structure Sleeping (s : State) : Prop where
  run : s.mpt.runState = .running
  startUp : s.ssc.startUp = none
  power : s.pev.power = .sleep
  dozeJob : s.pev.dozeJob = none
  quiet : Quiet s
  scan : s.ssc.scan = none
  bus : BusFree s

/-- The part is in one of its modes. -/
inductive Mode (s : State) : Prop
  | halted (h : Halted s)
  | starting (h : Starting s)
  | working (h : Working s)
  | changing (h : Changing s)
  | dozing (h : Dozing s)
  | sleeping (h : Sleeping s)

/-! ### The rules are the modes -/

theorem quiet_of_scanAlone {s : State} (h : scanAlone s = true) : Quiet s ∧ s.mpt.waiting = [] := by
  simp only [scanAlone, Bool.and_eq_true, List.isEmpty_iff] at h
  obtain ⟨⟨⟨hh, hj⟩, hu⟩, hw⟩ := h
  exact ⟨⟨hh, hj, hu⟩, hw⟩

theorem scanAlone_of_quiet {s : State} (h : Quiet s) (hw : s.mpt.waiting = []) : scanAlone s = true := by
  simp [scanAlone, h.hold, h.journal, h.updates, hw]

theorem rest_of_restRule {s : State} (h : restRule s = true) : Quiet s ∧ s.ssc.scan = none ∧ s.clk.holder = .none := by
  simp only [restRule, Bool.and_eq_true, List.isEmpty_iff, Option.isNone_iff_eq_none, beq_iff_eq] at h
  obtain ⟨⟨⟨⟨hh, hs⟩, hj⟩, hu⟩, hf⟩ := h
  exact ⟨⟨hh, hj, hu⟩, hs, hf⟩

theorem restRule_of_rest {s : State} (h : Quiet s) (hs : s.ssc.scan = none) (hf : s.clk.holder = .none) :
    restRule s = true := by simp [restRule, h.hold, h.journal, h.updates, hs, hf]

theorem looks_of_dozeRule {s : State} (hd : dozeRule s = true) (hw : s.mpt.waiting = []) (ha : s.mpt.asked = []) :
    (s.pev.wakeTimer = none ∨ s.pev.dozeJob = none) ∧ DozeWork s := by
  simp only [dozeRule, Bool.and_eq_true, Bool.or_eq_true, Option.isNone_iff_eq_none] at hd
  obtain ⟨ht, hd⟩ := hd
  refine ⟨ht, ?_⟩
  cases hs : s.ssc.scan with
  | none =>
    simp only [hs, Option.isNone_iff_eq_none] at hd
    exact .rests hs ⟨hd, hw, ha⟩
  | some sc =>
    simp only [hs, Bool.and_eq_true, beq_iff_eq] at hd
    obtain ⟨⟨hp, hj⟩, hf⟩ := hd
    cases hjob : s.pev.dozeJob with
    | none => simp [hjob] at hj
    | some j =>
      cases j with
      | scanning n => exact .looks sc n hs hp hjob ⟨hw, .inl ⟨hf, ha⟩⟩
      | awaitPulse n => simp [hjob] at hj
      | checking n => simp [hjob] at hj

theorem dozeRule_of_work {s : State} (ht : s.pev.wakeTimer = none ∨ s.pev.dozeJob = none) (h : DozeWork s)
    (ha : s.mpt.asked = []) : dozeRule s = true ∧ s.mpt.waiting = [] := by
  cases h with
  | rests hs hb => simpa [dozeRule, hs, hb.flight, hb.waiting] using ht
  | looks sc n hs hp hj hb =>
    obtain ⟨hf, -⟩ | ⟨-, a, hl, -⟩ := hb.access
    · simpa [dozeRule, hs, hp, hj, hf, hb.waiting] using ht
    · rw [ha] at hl
      cases hl

theorem mode_of_rules {s : State} (h : haltedRule s = true) (k : powerRule s = true) : s.mpt.asked = [] ∧ Mode s := by
  simp only [haltedRule, Bool.and_eq_true, Bool.or_eq_true, Option.isNone_iff_eq_none, beq_iff_eq, List.isEmpty_iff] at h
  obtain ⟨⟨⟨hrun, hjob⟩, hsettle⟩, ha⟩ := h
  simp only [powerRule, Bool.and_eq_true, Bool.or_eq_true, Bool.not_eq_true', beq_iff_eq] at k
  obtain ⟨⟨hlow, hpower⟩, hchange⟩ := k
  refine ⟨ha, ?_⟩
  have hpowered (hp : s.pev.power = .run ∨ s.pev.power = .reduced) : Powered s.pev := by
    refine ⟨hp, hsettle.resolve_right fun hx => ?_, hjob.resolve_right fun hx => ?_⟩
    all_goals rcases hp with hp | hp <;> simp [hp] at hx
  have hawake (hr : s.mpt.runState ≠ .running) : s.pev.power = .run ∨ s.pev.power = .reduced := by tauto
  have hup (hr : s.mpt.runState = .running ∨ s.mpt.runState = .halting) (hs : s.ssc.startUp = none)
      (hp : s.pev.power = .run ∨ s.pev.power = .reduced) : Mode s := by
    obtain hc | ⟨hq, hf⟩ := hchange
    · exact .working ⟨hr, hs, hpowered hp, changeComes_false.mp hc⟩
    · obtain ⟨hq, hw⟩ := quiet_of_scanAlone hq
      cases hc : changeComes s with
      | false => exact .working ⟨hr, hs, hpowered hp, changeComes_false.mp hc⟩
      | true => exact .changing ⟨hr, hs, hpowered hp, hq, ⟨hw, .inl ⟨hf, ha⟩⟩, hc⟩
  cases hr : s.mpt.runState with
  | halted =>
    simp only [hr, Bool.and_eq_true, Option.isNone_iff_eq_none, List.isEmpty_iff] at hrun
    obtain ⟨⟨⟨hrest, hf⟩, hw⟩, hs⟩ := hrun
    obtain ⟨hq, hscan, hh⟩ := rest_of_restRule hrest
    exact .halted ⟨hr, hq, hscan, hh, hs, ⟨hf, hw, ha⟩, hpowered (hawake (by simp [hr]))⟩
  | starting =>
    simp only [hr, Bool.and_eq_true, List.isEmpty_iff, beq_iff_eq] at hrun
    obtain ⟨⟨⟨hrest, hs⟩, hf⟩, hw⟩ := hrun
    obtain ⟨hq, hscan, hh⟩ := rest_of_restRule hrest
    exact .starting ⟨hr, hq, hscan, hh, hs, ⟨hw, .inl ⟨hf, ha⟩⟩, hpowered (hawake (by simp [hr]))⟩
  | halting =>
    simp only [hr, Option.isNone_iff_eq_none] at hrun
    exact hup (.inr hr) hrun (hawake (by simp [hr]))
  | running =>
    simp only [hr, Option.isNone_iff_eq_none] at hrun
    cases hp : s.pev.power with
    | run => exact hup (.inl hr) hrun (.inl hp)
    | reduced => exact hup (.inl hr) hrun (.inr hp)
    | doze =>
      simp only [hp, Bool.and_eq_true] at hpower
      obtain ⟨halone, hdoze⟩ := hpower
      obtain ⟨hq, hw⟩ := quiet_of_scanAlone halone
      obtain ⟨ht, hwork⟩ := looks_of_dozeRule hdoze hw ha
      exact .dozing ⟨hr, hrun, hp, hsettle.resolve_right (by simp [hp]), hq, ht, hwork⟩
    | sleep =>
      simp only [hp, Bool.and_eq_true, Option.isNone_iff_eq_none] at hpower
      obtain ⟨⟨halone, hs⟩, hf⟩ := hpower
      obtain ⟨hq, hw⟩ := quiet_of_scanAlone halone
      exact .sleeping ⟨hr, hrun, hp, hjob.resolve_right (by simp [hp]), hq, hs, ⟨hf, hw, ha⟩⟩

theorem OneAccess.flight {c : Client} {s : State} (h : OneAccess c s) (ha : s.mpt.asked = []) :
    s.mpt.flight.map Access.client = some c := by
  obtain ⟨hf, -⟩ | ⟨-, a, hl, -⟩ := h.access
  · exact hf
  · rw [ha] at hl
    cases hl

/-- In RUN and REDUCED the rule of the power states says nothing but for a change to come. -/
theorem powerRule_of_powered {s : State} (h : Powered s.pev)
    (hc : changeComes s = true → Quiet s ∧ s.mpt.waiting = [] ∧ s.mpt.flight.map Access.client = some .scan) :
    powerRule s = true := by
  have hchange : (!changeComes s || (scanAlone s && (s.mpt.flight.map Access.client) == some .scan)) = true := by
    cases hx : changeComes s with
    | false => rfl
    | true =>
      obtain ⟨hq, hw, hf⟩ := hc hx
      simp [scanAlone_of_quiet hq hw, hf]
  rcases h.power with hp | hp <;> simp [powerRule, hp, hchange]

theorem rules_of_mode {s : State} (h : Mode s) (ha : s.mpt.asked = []) : haltedRule s = true ∧ powerRule s = true := by
  cases h with
  | halted h =>
    obtain ⟨hr, hq, hs, hh, hu, hb, hp⟩ := h
    refine ⟨?_, powerRule_of_powered hp (by simp [changeComes_none hs])⟩
    simp [haltedRule, hr, restRule_of_rest hq hs hh, hb.flight, hb.waiting, hu, hp.settling, hp.dozeJob, ha]
  | starting h =>
    obtain ⟨hr, hq, hs, hh, hu, hb, hp⟩ := h
    refine ⟨?_, powerRule_of_powered hp (by simp [changeComes_none hs])⟩
    simp [haltedRule, hr, restRule_of_rest hq hs hh, hb.flight ha, hb.waiting, hu, hp.settling, hp.dozeJob, ha]
  | working h =>
    obtain ⟨hr, hu, hp, hs⟩ := h
    refine ⟨?_, powerRule_of_powered hp (by simp [changeComes_false.mpr hs])⟩
    rcases hr with hr | hr <;> simp [haltedRule, hr, hu, hp.settling, hp.dozeJob, ha]
  | changing h =>
    obtain ⟨hr, hu, hp, hq, hb, -⟩ := h
    refine ⟨?_, powerRule_of_powered hp fun _ => ⟨hq, hb.waiting, hb.flight ha⟩⟩
    rcases hr with hr | hr <;> simp [haltedRule, hr, hu, hp.settling, hp.dozeJob, ha]
  | dozing h =>
    obtain ⟨hr, hu, hp, hset, hq, ht, hwork⟩ := h
    obtain ⟨hdoze, hw⟩ := dozeRule_of_work ht hwork ha
    have hc : changeComes s = false := by
      cases hwork with
      | rests hs => exact changeComes_none hs
      | looks sc n hs hl => rw [changeComes_some hs, noChange_of_looksOnly hl]
    simp [haltedRule, powerRule, hr, hu, hp, hset, ha, scanAlone_of_quiet hq hw, hdoze, hc]
  | sleeping h =>
    obtain ⟨hr, hu, hp, hjob, hq, hs, hb⟩ := h
    simp [haltedRule, powerRule, hr, hu, hp, hjob, ha, scanAlone_of_quiet hq hb.waiting, hs, hb.flight, changeComes_none hs]

/-! ### The arbitration of the bus (R144) -/

theorem arbitrate_asked (u : State) : (arbitrate u).mpt.asked = [] := ((portRule_iff _).mp (arbitrate_portRule u)).1

theorem BusFree.arbitrate {u : State} (h : BusFree u) : BusFree (arbitrate u) := by
  rw [arbitrate_idle u ((portRule_iff u).mpr ⟨h.asked, .inr h.waiting⟩)]
  exact h

theorem OneAccess.arbitrate {c : Client} {u : State} (h : OneAccess c u) : OneAccess c (arbitrate u) := by
  obtain ⟨hf, ha⟩ | ⟨hf, a, ha, hc⟩ := h.access
  · have hsome : u.mpt.flight.isSome = true := by
      cases hx : u.mpt.flight with
      | none => simp [hx] at hf
      | some a => rfl
    rw [arbitrate_idle u ((portRule_iff u).mpr ⟨ha, .inl hsome⟩)]
    exact h
  · have hstamp : (stampSummary u a).client = a.client := by
      simp only [stampSummary]
      split <;> rfl
    rw [arbitrate_eq u (by simp [ha])]
    refine ⟨by simp [busAfter, hf, h.waiting, ha], .inl ⟨?_, by simp [busAfter, hf, h.waiting, ha]⟩⟩
    simp [busAfter, hf, h.waiting, ha, hstamp, hc]

theorem Quiet.arbitrate {u : State} (h : Quiet u) : Quiet (arbitrate u) :=
  ⟨by simpa using h.hold, by simpa using h.journal, by simpa using h.updates⟩

theorem Powered.arbitrate {u : State} (h : Powered u.pev) : Powered (Machine.arbitrate u).pev := by
  simpa using h

theorem changeComes_arbitrate (u : State) : changeComes (arbitrate u) = changeComes u := by simp [changeComes]

/-- The arbitration keeps the mode. -/
theorem Mode.arbitrate {u : State} (h : Mode u) : Mode (arbitrate u) := by
  cases h with
  | halted h =>
    exact .halted ⟨by simpa using h.run, h.quiet.arbitrate, by simpa using h.scan, by simpa using h.holder,
      by simpa using h.startUp, h.bus.arbitrate, h.powered.arbitrate⟩
  | starting h =>
    exact .starting ⟨by simpa using h.run, h.quiet.arbitrate, by simpa using h.scan, by simpa using h.holder,
      by simpa using h.startUp, h.bus.arbitrate, h.powered.arbitrate⟩
  | working h =>
    exact .working ⟨by simpa using h.run, by simpa using h.startUp, h.powered.arbitrate, by simpa using h.scan⟩
  | changing h =>
    exact .changing ⟨by simpa using h.run, by simpa using h.startUp, h.powered.arbitrate, h.quiet.arbitrate, h.bus.arbitrate,
      by rw [changeComes_arbitrate]; exact h.scan⟩
  | dozing h =>
    refine .dozing ⟨by simpa using h.run, by simpa using h.startUp, by simpa using h.power, by simpa using h.settling,
      h.quiet.arbitrate, by simpa using h.timer, ?_⟩
    cases h.work with
    | rests hs hb => exact .rests (by simpa using hs) hb.arbitrate
    | looks sc n hs hp hj hb => exact .looks sc n (by simpa using hs) hp (by simpa using hj) hb.arbitrate
  | sleeping h =>
    exact .sleeping ⟨by simpa using h.run, by simpa using h.startUp, by simpa using h.power, by simpa using h.dozeJob,
      h.quiet.arbitrate, by simpa using h.scan, h.bus.arbitrate⟩

end Sys2Proof.Proofs.Modes
end

section
/-! SUPPORT. The events of the field in a part that serves nobody (R86, R87, R112 to R120, R162): they leave it as it is, but for
the work of a wake-timer expiry in DOZE. -/

namespace Sys2Proof.Proofs.FieldRest

open Sys2Proof Sys2Proof.Machine HoldEnds SenseRules

/-- From s to u nothing of what the modes of a part speak of has changed, but that the field may have gone off. -/
structure Still (s u : State) : Prop where
  run : u.mpt.runState = s.mpt.runState
  flight : u.mpt.flight = s.mpt.flight
  waiting : u.mpt.waiting = s.mpt.waiting
  asked : u.mpt.asked = s.mpt.asked
  scan : u.ssc.scan = s.ssc.scan
  startUp : u.ssc.startUp = s.ssc.startUp
  hold : u.clk.hold = s.clk.hold
  holder : u.clk.holder = s.clk.holder ∨ u.clk.holder = .none
  journal : u.jnw = s.jnw
  updates : u.snt.updates = s.snt.updates
  power : u.pev.power = s.pev.power
  settling : u.pev.settling = s.pev.settling
  dozeJob : u.pev.dozeJob = s.pev.dozeJob
  wakeTimer : u.pev.wakeTimer = s.pev.wakeTimer

theorem Still.trans {s u v : State} (h : Still s u) (k : Still u v) : Still s v := by
  refine ⟨k.run.trans h.run, k.flight.trans h.flight, k.waiting.trans h.waiting, k.asked.trans h.asked, k.scan.trans h.scan,
    k.startUp.trans h.startUp, k.hold.trans h.hold, ?_, k.journal.trans h.journal, k.updates.trans h.updates,
    k.power.trans h.power, k.settling.trans h.settling, k.dozeJob.trans h.dozeJob, k.wakeTimer.trans h.wakeTimer⟩
  obtain hk | hk := k.holder
  · rw [hk]
    exact h.holder
  · exact .inr hk

/-- Changes of other blocks, of the field's flags and of the events are no changes. -/
theorem still_of_eq {s u : State} (hm : u.mpt = s.mpt) (hs : u.ssc = s.ssc) (hc : u.clk = s.clk) (hj : u.jnw = s.jnw)
    (hn : u.snt = s.snt) (hp : u.pev.power = s.pev.power) (ht : u.pev.settling = s.pev.settling)
    (hd : u.pev.dozeJob = s.pev.dozeJob) (hw : u.pev.wakeTimer = s.pev.wakeTimer) : Still s u :=
  ⟨by rw [hm], by rw [hm], by rw [hm], by rw [hm], by rw [hs], by rw [hs], by rw [hc], by rw [hc]; exact .inl rfl, hj, by rw [hn],
    hp, ht, hd, hw⟩

theorem still_fmn (s : State) (f : FieldMonitor) : Still s { s with fmn := f } :=
  still_of_eq rfl rfl rfl rfl rfl rfl rfl rfl rfl

theorem still_latchOpen (s : State) : Still s (latchOpen s) := by
  rw [latchOpen_eq]
  exact still_of_eq rfl rfl rfl rfl rfl rfl rfl rfl rfl

theorem still_latchWarning (s : State) : Still s (latchWarning s) := by
  rw [latchWarning_eq]
  exact still_of_eq rfl rfl rfl rfl rfl rfl rfl rfl rfl

theorem still_latchShutdown (s : State) : Still s (latchShutdown s) := by
  rw [latchShutdown_eq]
  exact still_of_eq rfl rfl rfl rfl rfl rfl rfl rfl rfl

theorem still_latchOvercurrent (s : State) : Still s (latchOvercurrent s) := by
  rw [latchOvercurrent_eq]
  exact still_of_eq rfl rfl rfl rfl rfl rfl rfl rfl rfl

theorem still_blockLifted (s : State) : Still s (blockLifted s) := by
  rw [Window.blockLifted_eq]
  exact still_of_eq rfl rfl rfl rfl rfl rfl rfl rfl rfl

theorem still_turnOff (s : State) : Still s (turnOff s) :=
  ⟨rfl, rfl, rfl, rfl, rfl, rfl, rfl, .inr rfl, rfl, rfl, rfl, rfl, rfl, rfl⟩

/-- What is kept by the events of the field: it holds only of states that serve nobody, no change that is none breaks it, and the
work of a wake-timer expiry keeps it. -/
structure FieldStable (P : State → Prop) : Prop where
  idle : ∀ s, P s → s.clk.hold = [] ∧ s.snt.updates = [] ∧ servedTask s = none
  still : ∀ s u, P s → Still s u → P u
  checked : ∀ s n, P s → s.pev.dozeJob = some (.checking n) →
    P (beginScan { s with pev := { s.pev with dozeJob := some (.scanning n) } })
  pulsed : ∀ s n, P s → s.pev.dozeJob = some (.awaitPulse n) → P (beginDozeCheck n s)

section
variable {P : State → Prop} (hP : FieldStable P) {s : State}
include hP

theorem FieldStable.scanAfterCheck (h : P s) : P (scanAfterCheck s) := by
  simp only [Machine.scanAfterCheck]
  split
  · exact hP.checked s _ h ‹_›
  · exact h

theorem FieldStable.finishFieldTest (r : FieldTestResult) (h : P s) : P (finishFieldTest r s) := by
  obtain ⟨-, -, hserved⟩ := hP.idle s h
  simpa only [Machine.finishFieldTest, hserved] using h

theorem FieldStable.fmn (f : FieldMonitor) (h : P s) : P { s with fmn := f } := hP.still s _ h (still_fmn s f)

theorem FieldStable.abandonPassive (r : FieldTestResult) (h : P s) : P (abandonPassive r s) := by
  simp only [Machine.abandonPassive]
  split
  · exact h
  · exact hP.finishFieldTest r (hP.fmn _ h)
  · exact hP.scanAfterCheck (hP.fmn _ h)

theorem FieldStable.beginHead (h : P s) : P (beginHead s) := by
  rw [beginHead_empty (hP.idle s h).1]
  exact h

theorem FieldStable.afterPulse (h : P s) : P (afterPulse s) := by
  simp only [Machine.afterPulse]
  refine hP.beginHead ?_
  split
  · exact hP.pulsed s _ h ‹_›
  · exact h

theorem FieldStable.turnOff (h : P s) : P (turnOff s) := hP.still s _ h (still_turnOff s)

theorem FieldStable.forceOff (h : P s) : P (forceOff s) := by
  cases hh : s.clk.holder with
  | none => simpa only [Machine.forceOff, hh] using h
  | sense => simpa only [Machine.forceOff, hh] using hP.afterPulse (hP.turnOff h)
  | session => simpa only [Machine.forceOff, hh, (hP.idle s h).1] using hP.turnOff h

theorem FieldStable.warm (h : P s) : P (warm s) := hP.still _ _ (hP.fmn _ h) (still_latchWarning _)

theorem FieldStable.shutDown (h : P s) : P (shutDown s) :=
  hP.abandonPassive _ (hP.forceOff (hP.still _ _ (hP.fmn _ h) (still_latchShutdown _)))

theorem FieldStable.liftShutdown (h : P s) : P (liftShutdown s) := by
  simp only [Machine.liftShutdown]
  split
  · exact hP.still _ _ (hP.fmn _ h) (still_blockLifted _)
  · exact h

theorem FieldStable.liftReducedDuty (h : P s) : P (liftReducedDuty s) := hP.fmn _ h

theorem FieldStable.dieMoves (d : Int) (h : P s) : P (dieMoves d s) := by
  have hite {c : Prop} [Decidable c] {u v : State} (hu : P u) (hv : P v) : P (if c then u else v) := by
    split <;> assumption
  have htemp := hP.fmn { s.fmn with dieTemp := clampTemp d } h
  have hwarm := hite (c := 105 ≤ clampTemp d) (hP.warm htemp) htemp
  have hshut := hite (c := 125 ≤ clampTemp d) (hP.shutDown hwarm) hwarm
  have hlift := hite (c := clampTemp d < 110) (hP.liftShutdown hshut) hshut
  exact hite (c := clampTemp d ≤ 95) (hP.liftReducedDuty hlift) hlift

theorem FieldStable.overcurrent (h : P s) : P (overcurrent s) :=
  hP.forceOff (hP.still _ _ (hP.fmn _ h) (still_latchOvercurrent _))

theorem FieldStable.antennaLost (h : P s) : P (antennaLost s) := by
  have hopen := hP.still _ _ (hP.fmn { s.fmn with finding := .openAntenna } h) (still_latchOpen _)
  simp only [Machine.antennaLost]
  split
  · exact hP.forceOff (hP.fmn _ hopen)
  · exact hP.fmn _ hopen

theorem FieldStable.passiveFinding (carried : Bool) (h : P s) : P (passiveFinding carried s) := by
  have hopen := hP.still _ _ (hP.fmn { s.fmn with finding := .openAntenna } h) (still_latchOpen _)
  simp only [Machine.passiveFinding]
  repeat' split
  · exact hP.fmn _ h
  · exact hP.fmn _ hopen
  · exact hopen

theorem FieldStable.passiveEnds (use : PassiveUse) (carried : Bool) (h : P s) : P (passiveEnds use carried s) := by
  have hfound := hP.passiveFinding carried (hP.fmn { s.fmn with passive := none } h)
  cases use with
  | fieldTest => exact hP.finishFieldTest _ hfound
  | doze => exact hP.scanAfterCheck hfound

theorem FieldStable.measure (d : Int) (h : P s) : P (measure d s) := by
  simp only [Machine.measure]
  split
  · exact hP.fmn _ h
  · exact h

theorem FieldStable.deliverUpdate (h : P s) : P (deliverUpdate s) := by
  simpa only [Machine.deliverUpdate, (hP.idle s h).2.1] using h

theorem FieldStable.replyFails (h : P s) : P (replyFails s) := by
  simpa only [Machine.replyFails, (hP.idle s h).1] using h

end

/-! ### What else can happen to a part that serves nobody -/

/-- The commands that can move a part which serves nobody, with those of the field taken together. -/
inductive IdleSettles (s : State) : State → Prop
  | field {u : State} (h : ∀ P, FieldStable P → P s → P u) : IdleSettles s u
  | start (hr : s.mpt.runState = .halted) : IdleSettles s (startPart s)
  | halt (hr : s.mpt.runState = .running) : IdleSettles s (haltRunning s)
  | nudge (hr : s.mpt.runState = .running) : IdleSettles s (nudge s)
  | answered {a : Access} {data : List Byte} (hf : s.mpt.flight = some a) :
      IdleSettles s (resume a.client data { s with mpt := freeBus s })
  | poll (ha : scansAllowed s = true) (hn : s.ssc.scan = none) : IdleSettles s (beginScan s)
  | wakeTimer {n : Nat} (hw : s.pev.wakeTimer = some n) (hp : s.pev.power = .doze) : IdleSettles s (wakeExpires n s)
  | sense (hp : s.pev.power = .doze) : IdleSettles s (turnOn .sense s)
  | pulseEnd (m : Nat) : IdleSettles s (afterPulse (senseMeasured m (turnOff s)))
  | wakeToScan (hs : s.pev.settling = some .scan) : IdleSettles s (nudgeAwake (wakeFromSleep s))
  | wakeToHalt (hs : s.pev.settling = some .halt) : IdleSettles s (enterHalting (wakeFromSleep s))

/-- Nobody is served: no task is held, in hand or being served, and nothing is left for the Journal Writer. -/
structure Unserved (s : State) : Prop where
  quiet : Modes.Quiet s
  inHand : ∀ sc t, ¬ InHand sc t s
  serving : ∀ sc t g, ¬ Serving sc t g s

theorem Unserved.servedTask {s : State} (h : Unserved s) : servedTask s = none := by
  cases hs : Machine.servedTask s with
  | none => rfl
  | some x =>
    obtain ⟨sc, t, g⟩ := x
    exact absurd ((servedTask_iff ..).mp hs) (h.serving sc t g)

theorem idleSettles_of_settles {s u : State} (h : Unserved s) (hu : Cases.Settles s u) : IdleSettles s u := by
  obtain ⟨⟨hh, hj, hn⟩, hhand, hserv⟩ := h
  simp only [journalQuiet, Bool.and_eq_true, List.isEmpty_iff, beq_iff_eq] at hj
  obtain ⟨⟨hq, hidle⟩, -⟩ := hj
  cases hu with
  | start hr => exact .start hr
  | halt hr => exact .halt hr
  | nudge hr => exact .nudge hr
  | answered hf _ => exact .answered hf
  | poll ha hs => exact .poll ha hs
  | wakeTimer hw _ hp => exact .wakeTimer hw hp
  | sense _ hp _ _ => exact .sense hp
  | pulseEnd m _ => exact .pulseEnd m
  | wakeToScan hs => exact .wakeToScan hs
  | wakeToHalt hs => exact .wakeToHalt hs
  | checkEnd carried d _ => exact .field fun P hP hs => hP.passiveEnds _ carried (hP.measure d hs)
  | antennaLost _ => exact .field fun P hP hs => hP.antennaLost hs
  | overcurrent => exact .field fun P hP hs => hP.overcurrent hs
  | dieMoves d => exact .field fun P hP hs => hP.dieMoves d hs
  | replyFails => exact .field fun P hP hs => hP.replyFails hs
  | seenUpdate _ => exact .field fun P hP hs => hP.deliverUpdate hs
  | deadline hx | hello _ _ _ _ hx | area _ _ _ hx | asking _ hx | checkReply _ hx => simp_all
  | journalClaim _ hx | fill _ hx => simp_all
  | tokenAsk _ hi | routeInstall hi | notesWait hi | statusAsk _ _ _ hi => exact absurd hi (hserv _ _ _)
  | _ => exact absurd ‹InHand _ _ s› (hhand _ _)

end Sys2Proof.Proofs.FieldRest
end

section
/-! SUPPORT. Where there is no work of a wake-timer expiry in DOZE, no operation outside DOZE begins any (R162): one lemma for each
operation that goes on with that work where there is some. -/

namespace Sys2Proof.Proofs.DozeJobs

open Sys2Proof Sys2Proof.Machine

section
variable {s : State}

@[simp] theorem afterScan_dozeJob (h : s.pev.dozeJob = none) : (afterScan s).pev.dozeJob = none := by
  simp only [afterScan, h]
  split <;> exact h

@[simp] theorem beginScan_dozeJob (h : s.pev.dozeJob = none) : (beginScan s).pev.dozeJob = none := by
  simp only [beginScan]
  repeat' split
  all_goals simp [h]

@[simp] theorem endScan_dozeJob (sc : Scan) (h : s.pev.dozeJob = none) : (endScan sc s).pev.dozeJob = none := by
  simp only [endScan]
  repeat' split
  all_goals simp [h]

@[simp] theorem goOn_dozeJob (sc : Scan) (h : s.pev.dozeJob = none) : (goOn sc s).pev.dozeJob = none := by
  simp only [goOn]
  repeat' split
  all_goals simp [h]

@[simp] theorem scanAfterCheck_dozeJob (h : s.pev.dozeJob = none) : (scanAfterCheck s).pev.dozeJob = none := by
  simp only [scanAfterCheck, h]

@[simp] theorem abandonPassive_dozeJob (r : FieldTestResult) (h : s.pev.dozeJob = none) :
    (abandonPassive r s).pev.dozeJob = none := by
  simp only [abandonPassive]
  repeat' split
  all_goals simp [h]

@[simp] theorem turnOn_dozeJob (k : FieldHolder) (h : s.pev.dozeJob = none) : (turnOn k s).pev.dozeJob = none := by
  simp only [turnOn]
  simp [h]

@[simp] theorem grantHead_dozeJob (t : HeldTask) (h : s.pev.dozeJob = none) : (grantHead t s).pev.dozeJob = none := by
  simp only [grantHead]
  simp [h]

@[simp] theorem beginSession_dozeJob (t : HeldTask) (h : s.pev.dozeJob = none) :
    (beginSession t s).pev.dozeJob = none := by
  simp only [beginSession]
  repeat' split
  all_goals simp [h]

@[simp] theorem beginHead_dozeJob (h : s.pev.dozeJob = none) : (beginHead s).pev.dozeJob = none := by
  simp only [beginHead]
  repeat' split
  all_goals simp [h]

@[simp] theorem leaveHold_dozeJob (i : Nat) (h : s.pev.dozeJob = none) : (leaveHold i s).pev.dozeJob = none := by
  simp only [leaveHold]
  repeat' split
  all_goals simp [h]

@[simp] theorem afterPulse_dozeJob (h : s.pev.dozeJob = none) : (afterPulse s).pev.dozeJob = none := by
  simp only [afterPulse, h]
  exact beginHead_dozeJob h

@[simp] theorem forceOff_dozeJob (h : s.pev.dozeJob = none) : (forceOff s).pev.dozeJob = none := by
  simp only [forceOff]
  repeat' split
  all_goals simp [h]

@[simp] theorem shutDown_dozeJob (h : s.pev.dozeJob = none) : (shutDown s).pev.dozeJob = none := by
  simp only [shutDown]
  simp [h]

@[simp] theorem dieMoves_dozeJob (d : Int) (h : s.pev.dozeJob = none) : (dieMoves d s).pev.dozeJob = none := by
  simp only [dieMoves]
  repeat' split
  all_goals simp [h]

@[simp] theorem antennaLost_dozeJob (h : s.pev.dozeJob = none) : (antennaLost s).pev.dozeJob = none := by
  simp only [antennaLost]
  repeat' split
  all_goals simp [h]

@[simp] theorem overcurrent_dozeJob (h : s.pev.dozeJob = none) : (overcurrent s).pev.dozeJob = none := by
  simp only [overcurrent]
  simp [h]

@[simp] theorem passiveEnds_dozeJob (u : PassiveUse) (b : Bool) (h : s.pev.dozeJob = none) :
    (passiveEnds u b s).pev.dozeJob = none := by
  simp only [passiveEnds]
  repeat' split
  all_goals simp [h]

@[simp] theorem enterHold_dozeJob (i : Nat) (g : Half) (r : CardRequest) (h : s.pev.dozeJob = none) :
    (enterHold i g r s).pev.dozeJob = none := by
  simp only [enterHold]
  repeat' split
  all_goals simp [h]

@[simp] theorem nudgeAwake_dozeJob (h : s.pev.dozeJob = none) : (nudgeAwake s).pev.dozeJob = none := by
  simp only [nudgeAwake]
  repeat' split
  all_goals simp [h]

@[simp] theorem takeSlot_dozeJob (sc : Scan) (g : Half) (p : Parsed) (h : s.pev.dozeJob = none) :
    (takeSlot sc g p s).pev.dozeJob = none := by
  simp only [takeSlot]
  simp
  split
  all_goals simp [h]

@[simp] theorem stateRead_dozeJob (sc : Scan) (b : List Byte) (h : s.pev.dozeJob = none) :
    (stateRead sc b s).pev.dozeJob = none := by
  simp only [stateRead]
  repeat' split
  all_goals simp [h]

@[simp] theorem headRead_dozeJob (sc : Scan) (b : List Byte) (h : s.pev.dozeJob = none) :
    (headRead sc b s).pev.dozeJob = none := by
  simp only [headRead]
  repeat' split
  all_goals simp [h]

@[simp] theorem requestRead_dozeJob (sc : Scan) (l : List Byte) (b : List Byte) (h : s.pev.dozeJob = none) :
    (requestRead sc l b s).pev.dozeJob = none := by
  simp only [requestRead]
  repeat' split
  all_goals simp [h]

@[simp] theorem cardGoesOn_dozeJob (n : Nat) (h : s.pev.dozeJob = none) : (cardGoesOn n s).pev.dozeJob = none := by
  simp only [cardGoesOn]
  repeat' split
  all_goals simp [h]

end

end Sys2Proof.Proofs.DozeJobs
end

section
/-! SUPPORT. The modes in which nobody is served, but DOZE and a change to come: HALTED, STARTING and SLEEP (R85, R110, R127, R138 to
R143, R164). -/

namespace Sys2Proof.Proofs.RestModes

open Sys2Proof Sys2Proof.Machine Modes FieldRest DozeJobs Scans RunStates

/-! ### What a change that is none keeps -/

section
variable {s u : State}

theorem Quiet.still (h : Quiet s) (k : Still s u) : Quiet u :=
  ⟨k.hold.trans h.hold, k.journal ▸ h.journal, k.updates.trans h.updates⟩

/-- The three blocks that are to be quiet are the same. -/
theorem Quiet.of_eq (h : Quiet s) (hh : u.clk.hold = s.clk.hold) (hj : journalQuiet u.jnw = journalQuiet s.jnw)
    (hu : u.snt.updates = s.snt.updates) : Quiet u := ⟨hh.trans h.hold, hj.trans h.journal, hu.trans h.updates⟩

theorem Powered.of_eq {p q : PowerEvents} (h : Powered p) (hp : q.power = p.power) (hs : q.settling = p.settling)
    (hj : q.dozeJob = none) : Powered q := ⟨by rw [hp]; exact h.power, hs.trans h.settling, hj⟩

theorem BusFree.of_eq (h : BusFree s) (hm : u.mpt.flight = s.mpt.flight ∧ u.mpt.waiting = s.mpt.waiting
    ∧ u.mpt.asked = s.mpt.asked) : BusFree u :=
  ⟨hm.1.trans h.flight, hm.2.1.trans h.waiting, hm.2.2.trans h.asked⟩

theorem BusFree.still (h : BusFree s) (k : Still s u) : BusFree u :=
  ⟨k.flight.trans h.flight, k.waiting.trans h.waiting, k.asked.trans h.asked⟩

theorem OneAccess.still {c : Client} (h : OneAccess c s) (k : Still s u) : OneAccess c u :=
  ⟨k.waiting.trans h.waiting, by rw [k.flight, k.asked]; exact h.access⟩

theorem Powered.still (h : Powered s.pev) (k : Still s u) : Powered u.pev :=
  ⟨by rw [k.power]; exact h.power, k.settling.trans h.settling, k.dozeJob.trans h.dozeJob⟩

theorem holder_still (h : s.clk.holder = .none) (k : Still s u) : u.clk.holder = .none := by
  obtain hk | hk := k.holder
  · rw [hk, h]
  · exact hk

theorem Halted.still (h : Halted s) (k : Still s u) : Halted u :=
  ⟨k.run.trans h.run, Quiet.still h.quiet k, k.scan.trans h.scan, holder_still h.holder k, k.startUp.trans h.startUp,
    BusFree.still h.bus k, Powered.still h.powered k⟩

theorem Starting.still (h : Starting s) (k : Still s u) : Starting u :=
  ⟨k.run.trans h.run, Quiet.still h.quiet k, k.scan.trans h.scan, holder_still h.holder k, by rw [k.startUp]; exact h.startUp,
    OneAccess.still h.bus k, Powered.still h.powered k⟩

theorem Working.still (h : Working s) (k : Still s u) : Working u :=
  ⟨by rw [k.run]; exact h.run, k.startUp.trans h.startUp, Powered.still h.powered k, by rw [k.scan]; exact h.scan⟩

theorem changeComes_still (k : Still s u) : changeComes u = changeComes s := by simp only [changeComes, k.scan]

theorem Changing.still (h : Changing s) (k : Still s u) : Changing u :=
  ⟨by rw [k.run]; exact h.run, k.startUp.trans h.startUp, Powered.still h.powered k, Quiet.still h.quiet k,
    OneAccess.still h.bus k, (changeComes_still k).trans h.scan⟩

theorem DozeWork.still (h : DozeWork s) (k : Still s u) : DozeWork u := by
  cases h with
  | rests hs hb => exact .rests (k.scan.trans hs) (BusFree.still hb k)
  | looks sc n hs hp hj hb => exact .looks sc n (k.scan.trans hs) hp (k.dozeJob.trans hj) (OneAccess.still hb k)

theorem Dozing.still (h : Dozing s) (k : Still s u) : Dozing u :=
  ⟨k.run.trans h.run, k.startUp.trans h.startUp, k.power.trans h.power, k.settling.trans h.settling, Quiet.still h.quiet k,
    by rw [k.wakeTimer, k.dozeJob]; exact h.timer, DozeWork.still h.work k⟩

theorem Sleeping.still (h : Sleeping s) (k : Still s u) : Sleeping u :=
  ⟨k.run.trans h.run, k.startUp.trans h.startUp, k.power.trans h.power, k.dozeJob.trans h.dozeJob, Quiet.still h.quiet k,
    k.scan.trans h.scan, BusFree.still h.bus k⟩

theorem Mode.still (h : Mode s) (k : Still s u) : Mode u := by
  cases h with
  | halted h => exact .halted (Halted.still h k)
  | starting h => exact .starting (Starting.still h k)
  | working h => exact .working (Working.still h k)
  | changing h => exact .changing (Changing.still h k)
  | dozing h => exact .dozing (Dozing.still h k)
  | sleeping h => exact .sleeping (Sleeping.still h k)

/-! ### Nobody is served -/

theorem unserved_of_noScan (hq : Quiet s) (hs : s.ssc.scan = none) : Unserved s :=
  ⟨hq, fun _ _ ⟨h, _⟩ => by simp [hs] at h, fun _ _ _ ⟨h, _⟩ => by simp [hs] at h⟩

/-- A phase in which no task is in hand or being served. -/
def phaseUnserved : ScanPhase → Bool
  | .handed _ | .serving _ _ => false
  | _ => true

theorem unserved_of_phase {sc : Scan} (hq : Quiet s) (hs : s.ssc.scan = some sc) (hp : phaseUnserved sc.phase = true) :
    Unserved s := by
  refine ⟨hq, fun sc' t h => ?_, fun sc' t g h => ?_⟩
  all_goals
    obtain ⟨hs', hp'⟩ := h
    rw [hs] at hs'
    cases hs'
    simp [hp', phaseUnserved] at hp

theorem phaseUnserved_of_looksOnly {p : ScanPhase} (h : looksOnly p = true) : phaseUnserved p = true := by
  cases p with
  | handed _ | serving _ _ => cases h
  | _ => rfl

theorem phaseUnserved_of_changes {p : ScanPhase} (h : phaseChanges p = true) : phaseUnserved p = true := by
  cases p with
  | handed _ | serving _ _ => cases h
  | _ => rfl

theorem Halted.unserved (h : Halted s) : Unserved s := unserved_of_noScan h.quiet h.scan

theorem Starting.unserved (h : Starting s) : Unserved s := unserved_of_noScan h.quiet h.scan

theorem Sleeping.unserved (h : Sleeping s) : Unserved s := unserved_of_noScan h.quiet h.scan

theorem changing_scan (h : Changing s) : ∃ sc, s.ssc.scan = some sc ∧ phaseChanges sc.phase = true := by
  cases hs : s.ssc.scan with
  | none =>
    have hc := h.scan
    simp [changeComes_none hs] at hc
  | some sc => exact ⟨sc, rfl, by rw [← changeComes_some hs]; exact h.scan⟩

theorem Changing.unserved (h : Changing s) : Unserved s := by
  obtain ⟨sc, hs, hp⟩ := changing_scan h
  exact unserved_of_phase h.quiet hs (phaseUnserved_of_changes hp)

theorem Dozing.unserved (h : Dozing s) : Unserved s := by
  cases h.work with
  | rests hs _ => exact unserved_of_noScan h.quiet hs
  | looks sc n hs hp _ _ => exact unserved_of_phase h.quiet hs (phaseUnserved_of_looksOnly hp)

end

/-! ### The events of the field -/

/-- Outside DOZE it is enough that nobody is served and there is no work of a wake-timer expiry. -/
theorem fieldStable_of {P : State → Prop} (hserved : ∀ s, P s → Unserved s) (hjob : ∀ s, P s → s.pev.dozeJob = none)
    (hstill : ∀ s u, P s → Still s u → P u) : FieldStable P where
  idle s h := ⟨(hserved s h).quiet.hold, (hserved s h).quiet.updates, (hserved s h).servedTask⟩
  still := hstill
  checked s n h hj := by simp [hjob s h] at hj
  pulsed s n h hj := by simp [hjob s h] at hj

theorem halted_stable : FieldStable Halted :=
  fieldStable_of (fun _ h => Halted.unserved h) (fun _ h => h.powered.dozeJob) fun _ _ h => Halted.still h

theorem starting_stable : FieldStable Starting :=
  fieldStable_of (fun _ h => Starting.unserved h) (fun _ h => h.powered.dozeJob) fun _ _ h => Starting.still h

theorem changing_stable : FieldStable Changing :=
  fieldStable_of (fun _ h => Changing.unserved h) (fun _ h => h.powered.dozeJob) fun _ _ h => Changing.still h

theorem sleeping_stable : FieldStable Sleeping :=
  fieldStable_of (fun _ h => Sleeping.unserved h) (fun _ h => h.dozeJob) fun _ _ h => Sleeping.still h

theorem pulseEnd_stable {P : State → Prop} (hP : FieldStable P) {s : State} (h : P s) (hp : s.pev.power ≠ .doze) (m : Nat) :
    P (afterPulse (senseMeasured m (turnOff s))) := by
  have hsame : senseMeasured m (turnOff s) = turnOff s := if_neg fun hx => hp hx.2
  rw [hsame]
  exact hP.afterPulse (hP.turnOff h)

/-! ### What puts the part to work -/

theorem not_doze_of_powered {p : PowerEvents} (h : Powered p) : p.power ≠ .doze := by
  rcases h.power with hp | hp <;> simp [hp]

theorem phaseChanges_of_idle {p : ScanPhase} (h : idlePhase p = true) : phaseChanges p = false := by
  cases p with
  | writeAnswer g c => cases c with
    | none => rfl
    | some c => cases h
  | readState => rfl
  | _ => cases h

theorem noChange_of_scanMoves {held : List Nat} {o p : Option Scan} (h : ScanMoves held o p) (ho : NoChange o) : NoChange p := by
  cases h with
  | same => exact ho
  | ends => exact noChange_none
  | idles p _ hp => exact noChange_some.mpr (phaseChanges_of_idle hp)
  | fresh _ hp => exact noChange_some.mpr (phaseChanges_of_idle hp)
  | stays g' _ _ _ => exact noChange_some.mpr rfl

theorem working_beginScan {s : State} (h : Working s) : Working (beginScan s) :=
  ⟨by simpa using h.run, by simpa using h.startUp, Powered.of_eq h.powered (by simp) (by simp) (by simp [h.powered.dozeJob]),
    noChange_of_scanMoves (beginScan_moves s) h.scan⟩

theorem working_nudgeAwake {s : State} (h : Working s) : Working (nudgeAwake s) := by
  simp only [nudgeAwake]
  split
  · exact ⟨h.run, h.startUp, h.powered, h.scan⟩
  · exact working_beginScan h

theorem powered_wakeToRun {s : State} (h : s.pev.settling = none) : Powered (wakeToRun s).pev := ⟨.inl rfl, h, rfl⟩

theorem powered_wakeFromSleep (s : State) : Powered (wakeFromSleep s).pev := ⟨.inl rfl, rfl, rfl⟩

/-- A part that holds no task goes to HALTING at once. -/
theorem working_enterHalting {s : State} (hh : s.clk.hold = []) (hp : Powered s.pev) (hs : NoChange s.ssc.scan) :
    Working (enterHalting s) := by
  rw [enterHalting_empty hh]
  exact ⟨.inr rfl, rfl, hp, hs⟩

/-! ### HALTED -/

theorem halted_settles {s u : State} (h : Halted s) (hu : IdleSettles s u) : Mode u := by
  have hpower := not_doze_of_powered h.powered
  obtain ⟨hrun, hquiet, hscan, hholder, hstart, hbus, hpowered⟩ := h
  cases hu with
  | field hf => exact .halted (hf _ halted_stable ⟨hrun, hquiet, hscan, hholder, hstart, hbus, hpowered⟩)
  | start _ =>
    simp only [startPart]
    split
    · exact .starting ⟨rfl, Quiet.of_eq hquiet rfl rfl rfl, hscan, hholder, rfl,
        ⟨hbus.waiting, .inr ⟨hbus.flight, _, congrArg (· ++ [_]) hbus.asked, rfl⟩⟩, hpowered⟩
    · exact .halted ⟨rfl, Quiet.of_eq hquiet rfl rfl rfl, hscan, hholder, rfl, BusFree.of_eq hbus ⟨rfl, rfl, rfl⟩,
        Powered.of_eq hpowered rfl rfl hpowered.dozeJob⟩
  | halt hr | nudge hr => simp [hrun] at hr
  | answered hf => simp [hbus.flight] at hf
  | poll ha _ => simp [scansAllowed, hrun] at ha
  | wakeTimer _ hp | sense hp => exact absurd hp hpower
  | pulseEnd m =>
    exact .halted (pulseEnd_stable halted_stable ⟨hrun, hquiet, hscan, hholder, hstart, hbus, hpowered⟩ hpower m)
  | wakeToScan hs | wakeToHalt hs => simp [hpowered.settling] at hs

/-! ### STARTING -/

/-- STARTING between two accesses of the start-up work. -/
structure Sweeping (s : State) : Prop where
  run : s.mpt.runState = .starting
  quiet : Quiet s
  scan : s.ssc.scan = none
  holder : s.clk.holder = .none
  bus : BusFree s
  powered : Powered s.pev

section
variable {s : State}

theorem Sweeping.of_eq {u : State} (h : Sweeping s) (hm : u.mpt = s.mpt) (hs : u.ssc.scan = s.ssc.scan) (hc : u.clk = s.clk)
    (hj : journalQuiet u.jnw = journalQuiet s.jnw) (hn : u.snt = s.snt)
    (hp : u.pev = { s.pev with events := u.pev.events }) : Sweeping u :=
  ⟨by rw [hm, h.run], Quiet.of_eq h.quiet (by rw [hc]) hj (by rw [hn]), hs.trans h.scan, by rw [hc, h.holder],
    BusFree.of_eq h.bus (by rw [hm]; exact ⟨rfl, rfl, rfl⟩), by
      rw [hp]
      exact Powered.of_eq h.powered rfl rfl h.powered.dozeJob⟩

/-- The start-up work goes on with an access. -/
theorem Sweeping.asks (h : Sweeping s) (p : StartPhase) (a : Access) (ha : a.client = .startUp) :
    Starting (ask a { s with ssc := { s.ssc with startUp := some p } }) :=
  ⟨h.run, Quiet.of_eq h.quiet rfl rfl rfl, h.scan, h.holder, rfl,
    ⟨h.bus.waiting, .inr ⟨h.bus.flight, a, congrArg (· ++ [a]) h.bus.asked, ha⟩⟩, h.powered⟩

theorem Sweeping.enterHalted (h : Sweeping s) (c : HaltCause) : Halted (enterHalted c s) :=
  ⟨rfl, Quiet.of_eq h.quiet rfl rfl rfl, h.scan, h.holder, rfl, BusFree.of_eq h.bus ⟨rfl, rfl, rfl⟩,
    Powered.of_eq h.powered rfl rfl h.powered.dozeJob⟩

theorem Sweeping.sweepFrom (h : Sweeping s) (i : Nat) : Mode (sweepFrom i s) := by
  have hnone : NoChange s.ssc.scan := h.scan ▸ noChange_none
  simp only [Machine.sweepFrom]
  split
  · exact .working (working_enterHalting h.quiet.hold h.powered hnone)
  · split
    · exact .starting (h.asks (.sweepState i) _ rfl)
    · exact .working (working_beginScan ⟨.inl rfl, rfl, h.powered, hnone⟩)

theorem Sweeping.goesOn (h : Sweeping s) (p : StartPhase) (data : List Byte) : Mode (startUpGoesOn p data s) := by
  cases p with
  | setupRead =>
    simp only [startUpGoesOn, checkSetup]
    split
    · exact .halted (h.enterHalted .setupInvalid)
    · exact Sweeping.sweepFrom (s := handSetup _ s) (h.of_eq rfl rfl rfl rfl rfl rfl) 0
  | sweepState i =>
    simp only [startUpGoesOn]
    split
    · exact .starting (h.asks _ _ rfl)
    · exact h.sweepFrom _
  | sweepTag i => exact .starting (h.asks _ _ rfl)
  | sweepAnswer i => exact .starting (h.asks _ _ rfl)
  | sweepDone i => exact Sweeping.sweepFrom (s := raiseEvent evTaskDone s) (h.of_eq rfl rfl rfl rfl rfl rfl) _

end

theorem client_of_flight {c : Client} {s : State} {a : Access} (h : OneAccess c s) (ha : s.mpt.asked = [])
    (hf : s.mpt.flight = some a) : a.client = c := by simpa [hf] using h.flight ha

theorem starting_settles {s u : State} (h : Starting s) (ha : s.mpt.asked = []) (hu : IdleSettles s u) : Mode u := by
  have hpower := not_doze_of_powered h.powered
  cases hu with
  | field hf => exact .starting (hf _ starting_stable h)
  | start hr | halt hr | nudge hr => simp [h.run] at hr
  | answered hf =>
    obtain ⟨p, hp⟩ := Option.isSome_iff_exists.mp h.startUp
    have hfree : Sweeping { s with mpt := freeBus s } :=
      ⟨h.run, Quiet.of_eq h.quiet rfl rfl rfl, h.scan, h.holder, ⟨rfl, h.bus.waiting, ha⟩, h.powered⟩
    rw [client_of_flight h.bus ha hf]
    simp only [resume, hp]
    exact hfree.goesOn p _
  | poll hx _ => simp [scansAllowed, h.run] at hx
  | wakeTimer _ hp | sense hp => exact absurd hp hpower
  | pulseEnd m => exact .starting (pulseEnd_stable starting_stable h hpower m)
  | wakeToScan hs | wakeToHalt hs => simp [h.powered.settling] at hs

/-! ### SLEEP -/

/-- R164: a NUDGE in SLEEP waits for the part to wake. -/
theorem sleeping_nudge {s : State} (h : Sleeping s) : Sleeping (nudge s) := by
  simp only [nudge, h.power, nudgeAsleep]
  split
  · exact ⟨h.run, h.startUp, rfl, h.dozeJob, Quiet.of_eq h.quiet rfl rfl rfl, h.scan, BusFree.of_eq h.bus ⟨rfl, rfl, rfl⟩⟩
  · exact h

theorem sleeping_settles {s u : State} (h : Sleeping s) (hu : IdleSettles s u) : Mode u := by
  have hnone : NoChange s.ssc.scan := h.scan ▸ noChange_none
  obtain ⟨hrun, hstart, hpower, hjob, hquiet, hscan, hbus⟩ := h
  cases hu with
  | field hf => exact .sleeping (hf _ sleeping_stable ⟨hrun, hstart, hpower, hjob, hquiet, hscan, hbus⟩)
  | start hr => simp [hrun] at hr
  | halt _ =>
    simp only [haltRunning, hpower]
    exact .sleeping ⟨hrun, hstart, rfl, hjob, Quiet.of_eq hquiet rfl rfl rfl, hscan, BusFree.of_eq hbus ⟨rfl, rfl, rfl⟩⟩
  | nudge _ => exact .sleeping (sleeping_nudge ⟨hrun, hstart, hpower, hjob, hquiet, hscan, hbus⟩)
  | answered hf => simp [hbus.flight] at hf
  | poll ha _ => simp [scansAllowed, hpower] at ha
  | wakeTimer _ hp | sense hp => simp [hpower] at hp
  | pulseEnd m =>
    exact .sleeping (pulseEnd_stable sleeping_stable ⟨hrun, hstart, hpower, hjob, hquiet, hscan, hbus⟩ (by simp [hpower]) m)
  | wakeToScan _ => exact .working (working_nudgeAwake ⟨.inl hrun, hstart, powered_wakeFromSleep s, hnone⟩)
  | wakeToHalt _ => exact .working (working_enterHalting hquiet.hold (powered_wakeFromSleep s) hnone)

end Sys2Proof.Proofs.RestModes
end

section
/-! SUPPORT. DOZE (R162, R163, R165): the scan of a wake-timer expiry looks at the slots, and takes none before it wakes the part. -/

namespace Sys2Proof.Proofs.DozeMode

open Sys2Proof Sys2Proof.Machine Modes FieldRest DozeJobs Scans RunStates RestModes

/-! ### The scan of a wake-timer expiry -/

/-- DOZE between two accesses of the scan of a wake-timer expiry. -/
structure Looking (n : Nat) (s : State) : Prop where
  run : s.mpt.runState = .running
  startUp : s.ssc.startUp = none
  power : s.pev.power = .doze
  settling : s.pev.settling = none
  quiet : Quiet s
  wakeTimer : s.pev.wakeTimer = none
  dozeJob : s.pev.dozeJob = some (.scanning n)
  bus : BusFree s

section
variable {n : Nat} {s : State}

/-- The scan goes on with an access, and takes no slot. -/
theorem Looking.asks (h : Looking n s) (sc : Scan) (a : Access) (hp : looksOnly sc.phase = true) (ha : a.client = .scan) :
    Dozing (ask a (setScan sc s)) :=
  ⟨h.run, h.startUp, h.power, h.settling, Quiet.of_eq h.quiet rfl rfl rfl, .inl h.wakeTimer,
    .looks sc n rfl hp h.dozeJob ⟨h.bus.waiting, .inr ⟨h.bus.flight, a, congrArg (· ++ [a]) h.bus.asked, ha⟩⟩⟩

theorem Looking.scansAllowed (h : Looking n s) : scansAllowed s = false := by simp [Machine.scansAllowed, h.power]

/-- R162: the wake timer starts again where no slot is left to look at. -/
theorem Looking.afterScan (h : Looking n s) (hs : s.ssc.scan = none) : Dozing (afterScan s) := by
  simp only [Machine.afterScan, h.scansAllowed, h.dozeJob, Bool.false_eq_true, if_false]
  exact ⟨h.run, h.startUp, h.power, h.settling, Quiet.of_eq h.quiet rfl rfl rfl, .inr rfl,
    .rests hs (BusFree.of_eq h.bus ⟨rfl, rfl, rfl⟩)⟩

/-- What the Sheet Scanner changes of its own fields is no matter. -/
theorem Looking.ssc (h : Looking n s) (x : SheetScanner) (hx : x.startUp = s.ssc.startUp) : Looking n { s with ssc := x } :=
  ⟨h.run, hx.trans h.startUp, h.power, h.settling, Quiet.of_eq h.quiet rfl rfl rfl, h.wakeTimer, h.dozeJob,
    BusFree.of_eq h.bus ⟨rfl, rfl, rfl⟩⟩

theorem Looking.beginScan (h : Looking n s) (hs : s.ssc.scan = none) : Dozing (beginScan s) := by
  have hready := h.ssc { s.ssc with pollTimer := none, extraScan := false } rfl
  simp only [Machine.beginScan]
  split
  · exact hready.afterScan hs
  · exact hready.asks _ _ rfl rfl

theorem Looking.endScan (h : Looking n s) (sc : Scan) : Dozing (endScan sc s) := by
  have hclosed : Looking n (closeScan sc s) := h.ssc _ rfl
  simp only [Machine.endScan, hclosed.scansAllowed, Bool.false_and, Bool.false_eq_true, if_false]
  exact hclosed.afterScan rfl

theorem Looking.goOn (h : Looking n s) (sc : Scan) : Dozing (goOn sc s) := by
  simp only [Machine.goOn, h.run, if_true]
  split
  · exact h.endScan sc
  · exact h.asks _ _ rfl rfl

/-- R163: a slot is taken by a part that has woken. -/
theorem Looking.takeSlot (h : Looking n s) (sc : Scan) (g : Half) (p : Parsed) : Working (takeSlot sc g p s) := by
  simp only [Machine.takeSlot, h.power, if_true]
  exact ⟨.inl h.run, h.startUp, powered_wakeToRun h.settling, noChange_some.mpr rfl⟩

theorem Looking.scanGoesOn (h : Looking n s) {sc : Scan} (hp : looksOnly sc.phase = true) (data : List Byte) :
    Mode (scanGoesOn sc data s) := by
  simp only [Machine.scanGoesOn]
  split
  · simp only [stateRead, h.run, if_true]
    split
    · exact .dozing (h.goOn sc)
    · exact .dozing (h.asks _ _ rfl rfl)
  · simp only [headRead, h.run, ne_eq, not_true_eq_false, if_false]
    split
    · exact .working (h.takeSlot sc _ _)
    · exact .dozing (h.asks _ _ rfl rfl)
  · simp only [requestRead, h.run, ne_eq, not_true_eq_false, if_false]
    split
    · exact .dozing (h.goOn _)
    · exact .working (h.takeSlot sc _ _)
  all_goals simp_all [looksOnly]

end

/-! ### The events of the field -/

section
variable {s : State}

/-- Where the work of a wake-timer expiry is not at its scan, no scan runs and the bus is free. -/
theorem dozing_rests (h : Dozing s) (hj : ∀ n, s.pev.dozeJob ≠ some (.scanning n)) : s.ssc.scan = none ∧ BusFree s := by
  cases h.work with
  | rests hs hb => exact ⟨hs, hb⟩
  | looks sc n _ _ hx _ => exact absurd hx (hj n)

/-- The scan of a wake-timer expiry begins. -/
theorem dozing_looks (h : Dozing s) (hw : s.pev.wakeTimer = none) (hj : ∀ n, s.pev.dozeJob ≠ some (.scanning n)) (n : Nat) :
    Dozing (beginScan { s with pev := { s.pev with dozeJob := some (.scanning n) } }) := by
  obtain ⟨hs, hb⟩ := dozing_rests h hj
  exact Looking.beginScan (n := n) ⟨h.run, h.startUp, h.power, h.settling, Quiet.of_eq h.quiet rfl rfl rfl, hw, rfl,
    BusFree.of_eq hb ⟨rfl, rfl, rfl⟩⟩ hs

theorem dozing_beginDozeCheck (h : Dozing s) (hw : s.pev.wakeTimer = none)
    (hj : ∀ n, s.pev.dozeJob ≠ some (.scanning n)) (n : Nat) : Dozing (beginDozeCheck n s) := by
  obtain ⟨hs, hb⟩ := dozing_rests h hj
  simp only [beginDozeCheck]
  split
  · exact dozing_looks h hw hj n
  · exact ⟨h.run, h.startUp, h.power, h.settling, Quiet.of_eq h.quiet rfl rfl rfl, .inl hw,
      .rests hs (BusFree.of_eq hb ⟨rfl, rfl, rfl⟩)⟩

theorem wakeTimer_none (h : Dozing s) {j : DozeJob} (hj : s.pev.dozeJob = some j) : s.pev.wakeTimer = none :=
  h.timer.resolve_right (by simp [hj])

theorem dozing_stable : FieldStable Dozing where
  idle _ h := ⟨h.quiet.hold, h.quiet.updates, (Dozing.unserved h).servedTask⟩
  still _ _ h := Dozing.still h
  checked _ n h hj := dozing_looks h (wakeTimer_none h hj) (by simp [hj]) n
  pulsed _ n h hj := dozing_beginDozeCheck h (wakeTimer_none h hj) (by simp [hj]) n

/-! ### Every command -/

theorem dozeWork_of_eq {u : State} (h : DozeWork s) (hm : u.mpt = s.mpt) (hs : u.ssc.scan = s.ssc.scan)
    (hp : u.pev.dozeJob = s.pev.dozeJob) : DozeWork u := by
  cases h with
  | rests hx hb => exact .rests (hs.trans hx) (BusFree.of_eq hb (by rw [hm]; exact ⟨rfl, rfl, rfl⟩))
  | looks sc n hx hl hj hb =>
    exact .looks sc n (hs.trans hx) hl (hp.trans hj) ⟨by rw [hm]; exact hb.waiting, by rw [hm]; exact hb.access⟩

theorem still_endPulse (s : State) : Still s (endPulse s) := by
  simp only [endPulse]
  split
  · exact still_turnOff s
  · exact still_of_eq rfl rfl rfl rfl rfl rfl rfl rfl rfl

theorem noChange_of_dozing (h : Dozing s) : NoChange s.ssc.scan := by
  cases h.work with
  | rests hs _ => exact hs ▸ noChange_none
  | looks sc n hs hp _ _ => exact hs ▸ noChange_some.mpr (noChange_of_looksOnly hp)

theorem working_wakeToRun (h : Dozing s) : Working (wakeToRun s) :=
  ⟨.inl h.run, h.startUp, powered_wakeToRun h.settling, noChange_of_dozing (s := s) h⟩

/-- R163: a pulse that finds a card wakes the part; any other leaves it in DOZE. -/
theorem dozing_pulseEnd (h : Dozing s) (m : Nat) : Mode (afterPulse (senseMeasured m s)) := by
  simp only [senseMeasured]
  split
  · split
    · have hawake : Working (wakeByCard s) := by
        have hwoken : Working (wakeToRun (raiseEvent evCardNear s)) :=
          ⟨.inl h.run, h.startUp, powered_wakeToRun h.settling, noChange_of_dozing (s := s) h⟩
        simp only [wakeByCard]
        split
        · exact ⟨hwoken.run, hwoken.startUp, hwoken.powered, hwoken.scan⟩
        · exact hwoken
      rw [SenseRules.afterPulse_idle (by simpa using h.quiet.hold) hawake.powered.dozeJob]
      exact .working hawake
    · exact .dozing (dozing_stable.afterPulse (Dozing.still h (still_of_eq rfl rfl rfl rfl rfl rfl rfl rfl rfl)))
  · exact .dozing (dozing_stable.afterPulse h)

theorem dozing_wakeExpires (h : Dozing s) {n : Nat} (hw : s.pev.wakeTimer = some n) : Dozing (wakeExpires n s) := by
  have hj : s.pev.dozeJob = none := h.timer.resolve_left (by simp [hw])
  obtain ⟨hs, hb⟩ := dozing_rests h (by simp [hj])
  have hexpired : Dozing { s with pev := { s.pev with wakeTimer := none } } :=
    ⟨h.run, h.startUp, h.power, h.settling, Quiet.of_eq h.quiet rfl rfl rfl, .inl rfl,
      .rests hs (BusFree.of_eq hb ⟨rfl, rfl, rfl⟩)⟩
  simp only [wakeExpires]
  split
  · exact dozing_beginDozeCheck hexpired rfl (by simp [hj]) n
  · exact ⟨h.run, h.startUp, h.power, h.settling, Quiet.of_eq h.quiet rfl rfl rfl, .inl rfl,
      .rests hs (BusFree.of_eq hb ⟨rfl, rfl, rfl⟩)⟩

/-- The answer of the scan's access. -/
theorem dozing_answered (h : Dozing s) (ha : s.mpt.asked = []) {a : Access} (hf : s.mpt.flight = some a) (data : List Byte) :
    Mode (resume a.client data { s with mpt := freeBus s }) := by
  cases h.work with
  | rests _ hb => simp [hb.flight] at hf
  | looks sc n hs hp hj hb =>
    have hlooks : Looking n { s with mpt := freeBus s } :=
      ⟨h.run, h.startUp, h.power, h.settling, Quiet.of_eq h.quiet rfl rfl rfl, wakeTimer_none (s := s) h hj, hj,
        ⟨rfl, hb.waiting, ha⟩⟩
    rw [client_of_flight hb ha hf]
    simp only [resume, hs]
    exact hlooks.scanGoesOn hp data

/-- R164: a NUDGE wakes the part. -/
theorem dozing_nudge (h : Dozing s) : Mode (nudge s) := by
  simp only [nudge, h.power]
  exact .working (working_nudgeAwake (working_wakeToRun h))

theorem dozing_settles {u : State} (h : Dozing s) (ha : s.mpt.asked = []) (hu : IdleSettles s u) : Mode u := by
  cases hu with
  | field hf => exact .dozing (hf _ dozing_stable h)
  | start hr => simp [h.run] at hr
  | halt _ =>
    simp only [haltRunning, h.power]
    have hended := still_endPulse (wakeToRun s)
    exact .working (working_enterHalting (hended.hold.trans h.quiet.hold) (Powered.still (powered_wakeToRun h.settling) hended)
      (by rw [hended.scan]; exact noChange_of_dozing (s := s) h))
  | nudge _ => exact dozing_nudge h
  | answered hf => exact dozing_answered h ha hf _
  | poll hx _ => simp [scansAllowed, h.power] at hx
  | wakeTimer hw _ => exact .dozing (dozing_wakeExpires h hw)
  | sense _ =>
    exact .dozing (dozing_stable.abandonPassive _ ⟨h.run, h.startUp, h.power, h.settling, Quiet.of_eq h.quiet rfl rfl rfl,
      h.timer, dozeWork_of_eq h.work rfl rfl rfl⟩)
  | pulseEnd m => exact dozing_pulseEnd (Dozing.still h (still_turnOff s)) m
  | wakeToScan hs | wakeToHalt hs => simp [h.settling] at hs

end

end Sys2Proof.Proofs.DozeMode
end

section
/-! SUPPORT. A part at work, and one with a change to DOZE or SLEEP to come (R138, R160, R161): what the tasks, the sessions, the
journal and the scans leave of the run state and the power state. -/

namespace Sys2Proof.Proofs.WorkModes

open Sys2Proof Sys2Proof.Machine Cases Modes FieldRest DozeJobs Scans RunStates RestModes DozeMode

/-- RUNNING or HALTING in RUN or REDUCED, whatever the scan. -/
structure Awake (s : State) : Prop where
  run : s.mpt.runState = .running ∨ s.mpt.runState = .halting
  startUp : s.ssc.startUp = none
  powered : Powered s.pev

/-- From s to u the run state, the start-up work and the power state stay, and there is no work of DOZE. -/
def Goes (s u : State) : Prop :=
  u.mpt.runState = s.mpt.runState ∧ u.ssc.startUp = s.ssc.startUp ∧ u.pev.power = s.pev.power
    ∧ u.pev.settling = s.pev.settling ∧ u.pev.dozeJob = none

theorem Awake.goes {s u : State} (h : Awake s) (hg : Goes s u) : Awake u := by
  obtain ⟨hr, hs, hp, ht, hj⟩ := hg
  exact ⟨by rw [hr]; exact h.run, hs.trans h.startUp, Powered.of_eq h.powered hp ht hj⟩

theorem awake_of_working {s : State} (h : Working s) : Awake s := ⟨h.run, h.startUp, h.powered⟩

theorem awake_of_changing {s : State} (h : Changing s) : Awake s := ⟨h.run, h.startUp, h.powered⟩

theorem Awake.working {s : State} (h : Awake s) (hs : NoChange s.ssc.scan) : Working s := ⟨h.run, h.startUp, h.powered, hs⟩

section
variable {s : State}

/-- The part stays at work where the scan moves as one with no task of POWER does. -/
theorem working_moves {u : State} (h : Working s) (hg : Goes s u) (hm : Moves s u) : Working u :=
  ((awake_of_working h).goes hg).working (noChange_of_scanMoves hm h.scan)

/-- The part stays at work where the scan comes to a phase in which no change comes. -/
theorem working_phase {u : State} {sc : Scan} (h : Awake s) (hg : Goes s u) (hs : u.ssc.scan = some sc)
    (hp : phaseChanges sc.phase = false) : Working u := (h.goes hg).working (hs ▸ noChange_some.mpr hp)

/-! ### Scans -/

theorem working_goOn (h : Awake s) (sc : Scan) : Working (goOn sc s) :=
  (h.goes ⟨by simp, by simp, by simp, by simp, by simp [h.powered.dozeJob]⟩).working
    (noChange_of_scanMoves (goOn_moves sc s) noChange_none)

theorem working_endScan (h : Awake s) (sc : Scan) : Working (endScan sc s) :=
  (h.goes ⟨by simp, by simp, by simp, by simp, by simp [h.powered.dozeJob]⟩).working
    (noChange_of_scanMoves (endScan_moves sc s) noChange_none)

theorem working_takeSlot (h : Awake s) (sc : Scan) (g : Half) (p : Parsed) : Working (takeSlot sc g p s) := by
  have hdoze := not_doze_of_powered h.powered
  simp only [takeSlot, if_neg hdoze]
  exact working_phase h ⟨rfl, rfl, rfl, rfl, h.powered.dozeJob⟩ rfl rfl

/-! ### The tasks -/

theorem working_askToken (h : Awake s) (sc : Scan) (t : Task) (w : Asks) (a : Asking) : Working (askToken sc t w a s) := by
  refine (h.goes ⟨by simp, by simp, by simp, by simp, by simp [h.powered.dozeJob]⟩).working ?_
  simp only [askToken, decideToken]
  repeat' split
  all_goals simp [serveOn, setScan, completeTask, NoChange, phaseChanges]

theorem working_notesDue (h : Awake s) (sc : Scan) (t : Task) (notes : List PeerNote) : Working (notesDue sc t notes s) := by
  refine (h.goes ⟨by simp, by simp, by simp, by simp, by simp [h.powered.dozeJob]⟩).working ?_
  simp only [notesDue, notesMerged]
  repeat' split
  all_goals simp [serveOn, setScan, completeTask, NoChange, phaseChanges]

theorem working_exportNext (h : Awake s) (sc : Scan) (t : Task) (a : Word) (l : List SeenRecord) (n : Nat) (b : AnswerBody) :
    Working (exportNext sc t a l n b s) := by
  simp only [exportNext]
  split
  · exact working_phase h ⟨rfl, rfl, rfl, rfl, h.powered.dozeJob⟩ rfl rfl
  · exact working_phase h ⟨rfl, rfl, rfl, rfl, h.powered.dozeJob⟩ rfl rfl

theorem working_statusAsked (h : Awake s) (sc : Scan) (t : Task) (a : Word) (d : Int) (b : Bool) (l m : List StatusBlock)
    (r : StatusRecord) : Working (statusAsked sc t a d b l m r s) := by
  refine (h.goes ⟨by simp, by simp, by simp, by simp, by simp [h.powered.dozeJob]⟩).working ?_
  simp only [statusAsked]
  split
  all_goals simp [serveOn, setScan, NoChange, phaseChanges]

theorem working_cancelTaken (h : Awake s) (sc : Scan) (g : Half) (n : Nat) (x k : Byte) :
    Working (cancelTaken sc g n x k s) := by
  refine (h.goes ⟨by simp, by simp, by simp, by simp, by simp [h.powered.dozeJob]⟩).working ?_
  simp only [cancelTaken, cancelOfHeld, cancelOfSlot]
  repeat' split
  all_goals simp [serveOn, setScan, completeTask, NoChange, phaseChanges]

theorem working_fieldTested (h : Awake s) (sc : Scan) (g : Half) : Working (fieldTested sc g s) := by
  simp only [fieldTested]
  repeat' split
  all_goals exact working_phase h ⟨rfl, rfl, rfl, rfl, h.powered.dozeJob⟩ rfl rfl

theorem working_routeTaken (h : Awake s) (sc : Scan) (t : Task) (r : RouteRequest) : Working (routeTaken sc t r s) := by
  simp only [routeTaken]
  split
  all_goals exact working_phase h ⟨rfl, rfl, rfl, rfl, h.powered.dozeJob⟩ rfl rfl

theorem working_routeServed (h : Awake s) (sc : Scan) (t : Task) (r : RouteRequest) (data : List Byte) :
    Working (routeServed sc t r data s) := by
  simp only [routeServed]
  split
  · exact working_phase h ⟨rfl, rfl, rfl, rfl, h.powered.dozeJob⟩ rfl rfl
  · exact working_phase h ⟨by simp, by simp, by simp, by simp, by simp [h.powered.dozeJob]⟩ rfl rfl
  · exact working_phase h ⟨rfl, rfl, rfl, rfl, h.powered.dozeJob⟩ rfl rfl

theorem working_servingGoesOn (h : Working s) {sc : Scan} {t : Task} {g : ServeStage} (data : List Byte) :
    Working (servingGoesOn sc t g data s) := by
  have ha := awake_of_working h
  simp only [servingGoesOn]
  split
  case h_1 =>
    simp only [tokenServed]
    split
    all_goals exact working_phase ha ⟨rfl, rfl, rfl, rfl, ha.powered.dozeJob⟩ rfl rfl
  case h_2 => exact working_routeServed ha sc t _ data
  case h_5 =>
    simp only [notesServed]
    split
    · exact working_phase ha ⟨rfl, rfl, rfl, rfl, ha.powered.dozeJob⟩ rfl rfl
    · exact working_notesDue ha sc t _
  case h_6 => exact working_exportNext ha sc t _ _ _ _
  case h_8 =>
    simp only [keyServed]
    split
    all_goals exact working_phase ha ⟨rfl, rfl, rfl, rfl, ha.powered.dozeJob⟩ rfl rfl
  case h_13 => exact h
  all_goals exact working_phase ha ⟨rfl, rfl, rfl, rfl, ha.powered.dozeJob⟩ rfl rfl

/-! ### The answer of a bus access -/

/-- R161: a change to RUN or REDUCED leaves the part at work. -/
theorem working_powerDone (h : Awake s) (sc : Scan) {c : PowerChange} (hc : endsScan c.target = false) :
    Working (powerDone sc c s) := by
  have htarget : ¬ (c.target = .doze ∨ c.target = .sleep) := by rw [← PowerRules.endsScan_iff, hc]; decide
  rw [PowerRules.powerDone_stays htarget]
  refine working_goOn (s := { s with pev := { s.pev with power := c.target } })
    ⟨h.run, h.startUp, ?_, h.powered.settling, h.powered.dozeJob⟩ sc
  cases ht : c.target with
  | run => exact .inl rfl
  | reduced => exact .inr rfl
  | doze => exact absurd (.inl ht) htarget
  | sleep => exact absurd (.inr ht) htarget

theorem working_scanGoesOn (h : Working s) {sc : Scan} (hs : s.ssc.scan = some sc) (data : List Byte) :
    Working (scanGoesOn sc data s) := by
  have ha := awake_of_working h
  have hp : phaseChanges sc.phase = false := h.scan sc hs
  simp only [scanGoesOn]
  split
  · simp only [stateRead]
    repeat' split
    · exact working_goOn ha sc
    · exact working_phase ha ⟨rfl, rfl, rfl, rfl, ha.powered.dozeJob⟩ rfl rfl
    · exact working_endScan ha _
  · simp only [headRead]
    repeat' split
    · exact working_endScan ha _
    · exact working_takeSlot ha sc _ _
    · exact working_phase ha ⟨rfl, rfl, rfl, rfl, ha.powered.dozeJob⟩ rfl rfl
  · simp only [requestRead]
    repeat' split
    · exact working_endScan ha _
    · exact working_goOn ha _
    · exact working_takeSlot ha sc _ _
  · simp only [slotTakenWritten]
    split
    all_goals exact working_phase ha ⟨rfl, rfl, rfl, rfl, ha.powered.dozeJob⟩ rfl rfl
  · exact h
  · exact working_servingGoesOn h data
  · next g change hphase =>
    rw [hphase] at hp
    simp only [answerWritten]
    split
    · exact working_phase ha ⟨rfl, rfl, rfl, rfl, ha.powered.dozeJob⟩ rfl rfl
    · refine working_phase ha ⟨rfl, rfl, rfl, rfl, ha.powered.dozeJob⟩ rfl ?_
      cases change with
      | none => rfl
      | some c => exact hp
  · next change hphase =>
    rw [hphase] at hp
    have hdone : Awake (raiseEvent evTaskDone s) := ⟨ha.run, ha.startUp, Powered.of_eq ha.powered rfl rfl ha.powered.dozeJob⟩
    cases change with
    | none => exact working_goOn hdone sc
    | some c => exact working_powerDone hdone sc hp

theorem noChange_cardGoesOn (h : NoChange s.ssc.scan) (n : Nat) : NoChange (cardGoesOn n s).ssc.scan := by
  simp only [cardGoesOn]
  repeat' split
  · exact h
  · exact h
  · refine noChange_of_scanMoves (cancelServed_moves n _) (noChange_of_scanMoves (leaveHold_moves n _) ?_)
    exact h
  all_goals exact h

theorem working_resume (h : Working s) (c : Client) (data : List Byte) : Working (resume c data s) := by
  have ha := awake_of_working h
  simp only [resume]
  split
  · next hs => simp [h.startUp] at hs
  · exact h
  · exact working_scanGoesOn h ‹_› data
  · exact h
  · exact (ha.goes ⟨by simp, by simp, by simp, by simp, by simp [ha.powered.dozeJob]⟩).working (noChange_cardGoesOn h.scan _)
  · exact working_moves h ⟨by simp, by simp, by simp, by simp, by simp [ha.powered.dozeJob]⟩ (journalGoesOn_moves data s)

end

end Sys2Proof.Proofs.WorkModes
end

section
/-! SUPPORT. Every command keeps the part in one of its modes (R85, R127, R138, R143, R147, R159 to R165; log 12): obligation O60. -/

namespace Sys2Proof.Proofs.RestRule

open Sys2Proof Sys2Proof.Machine Cases Modes FieldRest DozeJobs Scans RunStates RestModes DozeMode WorkModes

/-! ### The commands of a part at work -/

section
variable {s u : State}

/-- R110: the entry to HALTING. -/
theorem awake_enterHalting (h : Awake s) : Awake (enterHalting s) := by
  have hpev : (enterHalting s).pev = s.pev := by simp [enterHalting]
  exact ⟨.inr (by simp [enterHalting]), by simp [enterHalting], hpev ▸ h.powered⟩

theorem haltRunning_powered (h : Powered s.pev) : haltRunning s = enterHalting s := by
  rcases h.power with hp | hp <;> simp only [haltRunning, hp]

theorem nudge_powered (h : Powered s.pev) : nudge s = nudgeAwake s := by
  rcases h.power with hp | hp <;> simp only [nudge, hp]

/-- R160: a POWER that is answered OK leaves the part at work, or a change to come in a part that serves nobody else. -/
theorem mode_power {sc : Scan} {g : Half} {target : PowerState} {n : Nat} {near : Bool} (h : Working s)
    (ha : s.mpt.asked = []) (hr : powerRefused target s = false) (hw : powerWaits target s = false) :
    Mode (completeTask sc g (powerAnswer s.pev.power target) (some ⟨target, n, near⟩) s) := by
  cases hends : endsScan target with
  | false => exact .working (working_phase (awake_of_working h) ⟨rfl, rfl, rfl, rfl, h.powered.dozeJob⟩ rfl hends)
  | true =>
    simp only [powerRefused, hends, Bool.true_and, Bool.or_eq_false_iff, Bool.not_eq_false', List.isEmpty_iff] at hr
    simp only [powerWaits, hends, Bool.true_and, Bool.not_eq_false', busIdle, Bool.and_eq_true, List.isEmpty_iff,
      Option.isNone_iff_eq_none] at hw
    obtain ⟨⟨⟨hj, hu⟩, hf⟩, hwait⟩ := hw
    exact .changing ⟨h.run, h.startUp, h.powered, ⟨hr.1, hj, hu⟩,
      ⟨hwait, .inr ⟨hf, _, congrArg (· ++ [_]) ha, rfl⟩⟩, by rw [changeComes_some (by rfl)]; exact hends⟩

theorem working_settles (h : Working s) (ha : s.mpt.asked = []) (hu : Settles s u) : Mode u := by
  have hw := awake_of_working h
  have hpower := not_doze_of_powered h.powered
  have hjob := h.powered.dozeJob
  have hsettling := h.powered.settling
  cases hu
  case start hr => rcases h.run with hx | hx <;> simp [hx] at hr
  case halt =>
    rw [haltRunning_powered h.powered]
    exact .working ((awake_enterHalting hw).working (by rw [enterHalting_scan]; exact h.scan))
  case nudge =>
    rw [nudge_powered h.powered]
    exact .working (working_nudgeAwake h)
  case answered a data hf _ =>
    exact .working (working_resume (s := { s with mpt := freeBus s }) ⟨h.run, h.startUp, h.powered, h.scan⟩ a.client data)
  case poll => exact .working (working_beginScan h)
  case wakeTimer hp => exact absurd hp hpower
  case sense hp _ _ => exact absurd hp hpower
  case wakeToScan hs => simp [hsettling] at hs
  case wakeToHalt hs => simp [hsettling] at hs
  case pulseEnd m _ =>
    have hsame : senseMeasured m (turnOff s) = turnOff s := if_neg fun hx => hpower hx.2
    rw [hsame]
    exact .working (working_moves h ⟨by simp, by simp, by simp, by simp, by simp [hjob]⟩ ((afterPulse_moves _).after rfl rfl))
  case checkEnd use carried d _ =>
    exact .working (working_moves h ⟨by simp, by simp, by simp, by simp, by simp [hjob]⟩
      ((passiveEnds_moves use carried _).after (by simp) (Slots.heldSlots_congr (by simp))))
  case antennaLost =>
    exact .working (working_moves h ⟨by simp, by simp, by simp, by simp, by simp [hjob]⟩ (antennaLost_moves s))
  case overcurrent =>
    exact .working (working_moves h ⟨by simp, by simp, by simp, by simp, by simp [hjob]⟩ (overcurrent_moves s))
  case dieMoves d =>
    exact .working (working_moves h ⟨by simp, by simp, by simp, by simp, by simp [hjob]⟩ (dieMoves_moves d s))
  case cardInspect sc g r hi =>
    exact .working (working_goOn (hw.goes ⟨by simp, by simp, by simp, by simp, by simp [hjob]⟩) sc)
  case tokenAsk sc t a w hi => exact .working (working_askToken hw sc t w a)
  case route sc g r hi => exact .working (working_routeTaken hw sc _ r)
  case notesWait sc t notes hi => exact .working (working_notesDue hw sc t notes)
  case seenExport sc g after capacity address hi => exact .working (working_exportNext hw sc _ _ _ _ _)
  case fieldTest sc g d hi =>
    exact .working (working_fieldTested (hw.goes ⟨by simp, by simp, by simp, by simp, by simp [hjob]⟩) sc g)
  case power sc g target n near hi hr hwait => exact mode_power h ha hr hwait
  case cancel sc g n x k hi => exact .working (working_cancelTaken hw sc g n x k)
  case status sc g address d high asks hi => exact .working (working_statusAsked hw sc _ address d high asks _ _)
  case statusAsk sc g address left r d high asks hi => exact .working (working_statusAsked hw sc _ address d high asks _ _)
  case journalClaim mark j rest ring _ _ _ _ =>
    exact .working (working_moves h ⟨by simp, by simp, by simp, by simp, by simp [hjob]⟩ (serveClaim_moves j mark ring s))
  case tokenRead | replaceRead | deltaRead | notesRead | keyLoad | identify | replaceEmpty | deltaEmpty | prune | powerBusy
      | keyClear | position | routeInstall => exact .working (working_phase hw ⟨rfl, rfl, rfl, rfl, hjob⟩ rfl rfl)
  all_goals exact .working (working_moves h ⟨by simp, by simp, by simp, by simp, by simp [hjob]⟩ (.of_eq (by simp)))

/-! ### A change to DOZE or SLEEP (R160, R161) -/

/-- R162, R164: the part goes to DOZE or SLEEP. -/
theorem mode_enterPower (hr : s.mpt.runState = .running) (hs : s.ssc.startUp = none) (hp : Powered s.pev) (hq : Quiet s)
    (hscan : s.ssc.scan = none) (hb : BusFree s) {c : PowerChange} (hc : endsScan c.target = true) :
    Dozing (enterPower c s) ∨ Sleeping (enterPower c s) := by
  have hk := still_endPulse s
  have hq' := Quiet.still hq hk
  have hb' := BusFree.still hb hk
  have hp' := Powered.still hp hk
  have hr' := hk.run.trans hr
  have hs' := hk.startUp.trans hs
  have hscan' := hk.scan.trans hscan
  simp only [enterPower]
  cases ht : c.target with
  | doze =>
    exact .inl ⟨hr', hs', rfl, hp'.settling, Quiet.of_eq hq' rfl rfl rfl, .inr rfl,
      .rests hscan' (BusFree.of_eq hb' ⟨rfl, rfl, rfl⟩)⟩
  | sleep =>
    exact .inr ⟨hr', hs', rfl, hp'.dozeJob, Quiet.of_eq hq' rfl rfl rfl, hscan', BusFree.of_eq hb' ⟨rfl, rfl, rfl⟩⟩
  | run | reduced => simp [ht, endsScan] at hc

/-- R161: the DONE of the POWER is written; a NUDGE met meanwhile is answered. -/
theorem mode_powerDone (h : Awake s) (hq : Quiet s) (hb : BusFree s) (sc : Scan) {c : PowerChange}
    (hc : endsScan c.target = true) : Mode (powerDone sc c s) := by
  have hends := (PowerRules.endsScan_iff _).mp hc
  by_cases hr : s.mpt.runState = .running
  · rw [PowerRules.powerDone_enters hends hr, endScanInto]
    dsimp only
    obtain hx | hx := mode_enterPower (s := closeScan sc { s with ssc := { s.ssc with extraScan := false } })
      hr h.startUp h.powered (Quiet.of_eq hq rfl rfl rfl) rfl (BusFree.of_eq hb ⟨rfl, rfl, rfl⟩) hc
    · split
      · exact dozing_nudge hx
      · exact .dozing hx
    · split
      · exact .sleeping (sleeping_nudge hx)
      · exact .sleeping hx
  · rw [PowerRules.powerDone_overtaken hends hr]
    exact .working (working_goOn h sc)

theorem changing_answered (h : Changing s) (ha : s.mpt.asked = []) {a : Access} (hf : s.mpt.flight = some a)
    (data : List Byte) : Mode (resume a.client data { s with mpt := freeBus s }) := by
  obtain ⟨sc, hs, hp⟩ := changing_scan h
  have hfree : BusFree { s with mpt := freeBus s } := ⟨rfl, h.bus.waiting, ha⟩
  have hquiet : Quiet { s with mpt := freeBus s } := Quiet.of_eq h.quiet rfl rfl rfl
  have hawake : Awake { s with mpt := freeBus s } := ⟨h.run, h.startUp, h.powered⟩
  rw [client_of_flight h.bus ha hf]
  simp only [resume, hs, scanGoesOn]
  cases hphase : sc.phase with
  | writeAnswer g change =>
    rw [hphase] at hp
    simp only [answerWritten]
    split
    · exact .working (working_phase hawake ⟨rfl, rfl, rfl, rfl, h.powered.dozeJob⟩ rfl rfl)
    · cases change with
      | none => cases hp
      | some c =>
        exact .changing ⟨h.run, h.startUp, h.powered, Quiet.of_eq hquiet rfl rfl rfl,
          ⟨h.bus.waiting, .inr ⟨rfl, _, congrArg (· ++ [_]) ha, rfl⟩⟩, by rw [changeComes_some (by rfl)]; exact hp⟩
  | writeDone change =>
    rw [hphase] at hp
    cases change with
    | none => cases hp
    | some c =>
      exact mode_powerDone (s := raiseEvent evTaskDone { s with mpt := freeBus s })
        ⟨h.run, h.startUp, Powered.of_eq h.powered rfl rfl h.powered.dozeJob⟩ (Quiet.of_eq hquiet rfl rfl rfl)
        (BusFree.of_eq hfree ⟨rfl, rfl, rfl⟩) sc hp
  | _ => simp [hphase, phaseChanges] at hp

theorem changing_settles (h : Changing s) (ha : s.mpt.asked = []) (hu : IdleSettles s u) : Mode u := by
  have hpower := not_doze_of_powered h.powered
  obtain ⟨sc, hs, hp⟩ := changing_scan h
  cases hu with
  | field hf => exact .changing (hf _ changing_stable h)
  | start hr => rcases h.run with hx | hx <;> simp [hx] at hr
  | halt _ =>
    rw [haltRunning_powered h.powered, enterHalting_empty h.quiet.hold]
    exact .changing ⟨.inr rfl, rfl, h.powered, Quiet.of_eq h.quiet rfl rfl rfl, ⟨h.bus.waiting, h.bus.access⟩, h.scan⟩
  | nudge _ =>
    rw [nudge_powered h.powered, nudgeAwake, if_pos (by simp [hs])]
    exact .changing ⟨h.run, h.startUp, h.powered, Quiet.of_eq h.quiet rfl rfl rfl, ⟨h.bus.waiting, h.bus.access⟩, h.scan⟩
  | answered hf => exact changing_answered h ha hf _
  | poll _ hx => simp [hs] at hx
  | wakeTimer _ hx | sense hx => exact absurd hx hpower
  | pulseEnd m => exact .changing (pulseEnd_stable changing_stable h hpower m)
  | wakeToScan hx | wakeToHalt hx => simp [h.powered.settling] at hx

/-! ### Every command -/

theorem mode_settles (h : Mode s) (ha : s.mpt.asked = []) (hu : Settles s u) : Mode u := by
  cases h with
  | halted h => exact halted_settles h (idleSettles_of_settles (Halted.unserved h) hu)
  | starting h => exact starting_settles h ha (idleSettles_of_settles (Starting.unserved h) hu)
  | working h => exact working_settles h ha hu
  | changing h => exact changing_settles h ha (idleSettles_of_settles (Changing.unserved h) hu)
  | dozing h => exact dozing_settles h ha (idleSettles_of_settles (Dozing.unserved h) hu)
  | sleeping h => exact sleeping_settles h (idleSettles_of_settles (Sleeping.unserved h) hu)

/-- Only a part at work holds a task. -/
theorem working_of_held (h : Mode s) (hh : s.clk.hold ≠ []) : Working s := by
  cases h with
  | working h => exact h
  | halted h | starting h | changing h | dozing h | sleeping h => exact absurd h.quiet.hold hh

theorem still_clearFaults (s : State) : Still s (clearFaults s) := by
  rw [Window.clearFaults_eq]
  exact still_of_eq rfl rfl rfl rfl rfl rfl rfl rfl rfl

theorem still_latchHotDie (s : State) : Still s (latchHotDie s) := by
  have hwarm : Still s (if 105 ≤ s.fmn.dieTemp then warm s else s) := by
    split
    · exact (still_fmn s _).trans (still_latchWarning _)
    · exact still_of_eq rfl rfl rfl rfl rfl rfl rfl rfl rfl
  have hshut (w : State) : Still w (if 125 ≤ w.fmn.dieTemp then
      latchShutdown { w with fmn := { w.fmn with shutdownBlock := true } } else w) := by
    split
    · exact (still_fmn w _).trans (still_latchShutdown _)
    · exact still_of_eq rfl rfl rfl rfl rfl rfl rfl rfl rfl
  exact hwarm.trans (hshut _)

theorem halted_reset (d : Int) (s : State) : Halted (resetPart d s) := by
  refine Halted.still (s := { State.reset with fmn := { dieTemp := clampTemp d }, draws := s.draws, pending := s.pending })
    ⟨rfl, ⟨rfl, rfl, rfl⟩, rfl, rfl, rfl, ⟨rfl, rfl, rfl⟩, ⟨.inl rfl, rfl, rfl⟩⟩ (still_latchHotDie _)

/-- R157: a memory fault drops all that is in progress. -/
theorem halted_memoryFault (hp : s.pev.power ≠ .sleep) : Halted (memoryFaultHalts s) := by
  have hpev : (deliverUpdates s).pev = s.pev := by simp
  refine ⟨rfl, ⟨rfl, rfl, deliverUpdates_updates s⟩, rfl, rfl, rfl, ⟨rfl, rfl, rfl⟩, ⟨?_, rfl, rfl⟩⟩
  have hpower : (memoryFaultHalts s).pev.power = (faultPower s.pev).power := by rw [← hpev]; rfl
  rw [hpower]
  cases hs : s.pev.power <;> simp_all [faultPower]

/-- R143: HALTING ends with nothing left. -/
theorem halted_haltingEnd (h : Mode s) (ha : s.mpt.asked = []) (hr : s.mpt.runState = .halting) (hn : nothingLeft s = true) :
    Halted (enterHalted .command s) := by
  simp only [nothingLeft, Bool.and_eq_true, List.isEmpty_iff, Option.isNone_iff_eq_none, beq_iff_eq] at hn
  obtain ⟨⟨⟨⟨⟨⟨⟨hhold, hscan⟩, -⟩, hjournal⟩, hupdates⟩, hholder⟩, hflight⟩, hwaiting⟩ := hn
  have hpowered : Powered s.pev := by
    cases h with
    | working h => exact h.powered
    | changing h => exact h.powered
    | halted h | starting h | dozing h | sleeping h =>
      have hrun := h.run
      simp [hr] at hrun
  exact ⟨rfl, ⟨hhold, hjournal, hupdates⟩, hscan, hholder, rfl, ⟨hflight, hwaiting, ha⟩,
    Powered.of_eq hpowered rfl rfl hpowered.dozeJob⟩

/-- A memory fault meets an access, and SLEEP has none. -/
theorem not_sleep_of_flight (h : Mode s) (hf : s.mpt.flight.isSome = true) : s.pev.power ≠ .sleep := by
  have hpowered (hp : Powered s.pev) : s.pev.power ≠ .sleep := by rcases hp.power with hx | hx <;> simp [hx]
  cases h with
  | halted h | starting h | working h | changing h => exact hpowered h.powered
  | dozing h => simp [h.power]
  | sleeping h => simp [h.bus.flight] at hf

theorem mode_direct {t : State} (h : Mode s) (ha : s.mpt.asked = []) (hd : Direct s t) : Mode t ∧ t.mpt.asked = [] := by
  have hstill (k : Still s t) : Mode t ∧ t.mpt.asked = [] := ⟨Mode.still h k, k.asked.trans ha⟩
  cases hd with
  | clearFaults => exact hstill (still_clearFaults s)
  | idle | eventsWrite _ | enablesWrite _ | minute | currentRise =>
    exact hstill (still_of_eq rfl rfl rfl rfl rfl rfl rfl rfl rfl)
  | addressWrite _ | haltWaits _ | wake _ _ =>
    exact hstill ⟨rfl, rfl, rfl, rfl, rfl, rfl, rfl, .inl rfl, rfl, rfl, rfl, rfl, rfl, rfl⟩
  | reset d => exact ⟨.halted (halted_reset d s), (halted_reset d s).bus.asked⟩
  | fault hf =>
    have hhalted := halted_memoryFault (not_sleep_of_flight h hf)
    exact ⟨.halted hhalted, hhalted.bus.asked⟩
  | haltingEnd hr hn =>
    have hhalted := halted_haltingEnd h ha hr hn
    exact ⟨.halted hhalted, hhalted.bus.asked⟩
  | stampAck hh _ =>
    have hw := working_of_held h (by simp [hh])
    exact ⟨.working ⟨hw.run, hw.startUp, hw.powered, hw.scan⟩, ha⟩

end

/-- Settles O60: the two rules say that the part is in one of its modes, and every command leads to one. -/
theorem aHaltedPartIsAtRest : Obligations.AHaltedPartIsAtRest := by
  unfold Obligations.AHaltedPartIsAtRest
  intro s t h k hstep
  have hmode := mode_of_rules h k
  have hkept : t.mpt.asked = [] ∧ Mode t :=
    step_keeps (P := fun s => s.mpt.asked = [] ∧ Mode s) hstep hmode
      (fun _ ⟨ha, hm⟩ => ⟨ha, Mode.still hm (still_of_eq rfl rfl rfl rfl rfl rfl rfl rfl rfl)⟩)
      (fun _ _ ⟨ha, hm⟩ hd => (mode_direct hm ha hd).symm)
      (fun _ _ ⟨ha, hm⟩ hu => ⟨arbitrate_asked _, (mode_settles hm ha hu).arbitrate⟩)
  exact rules_of_mode hkept.2 hkept.1

end Sys2Proof.Proofs.RestRule
end
